-- ==== Sys2Proof/Word.lean ====
section
/-!
DEFINITION. The word types of the part: bytes of frames, lane-timer values, station addresses.
Nothing here decides a behaviour.
-/

namespace Sys2Proof

/-- One byte of a frame, of a carried record or of the page store. -/
abbrev Byte := BitVec 8

/-- A lane-timer value: the counter of R1 has 20 bits and wraps from 1,048,575 to 0. -/
abbrev Tick := BitVec 20

/-- A 48-bit Ethernet station address (R163, R195). -/
abbrev Addr := BitVec 48

end Sys2Proof
end

