-- ==== Sys2Proof/Syntax.lean ====
section
/-!
DEFINITION. The commands the part takes: one constructor of `Instr` per row of spec/opcode_table.json, in the
table's order, with the operands that the environment brings.
-/

namespace Sys2Proof

/-- The two archive ports (00_scope.md, Terms). -/
inductive Port where
  | a | b
  deriving DecidableEq, Repr

/-- A sheet's identity: lane and per-lane sequence number (R102, ch. 11). -/
structure Tag where
  lane : Fin 8
  seq  : Fin 4096
  deriving DecidableEq, Repr

/-- The commands. The rows from `unknown` to `restart` are executions of the oldest directive waiting in the
directive queue (R184), whose parameters came in its DIRECTIVE frame; `linesMap` and `linesSet` also bring the
levels of the lane's pins, bit set for HIGH, at the execution (R71). -/
inductive Instr where
  /-- R1, R71, R84, R85, R171, R194, R195: the pins' levels (bit `n` of lane `l`'s word is line `n`, set for HIGH),
  the ADDR straps, and which links are UP. -/
  | powerOn (pins : Vector (BitVec 8) 8) (straps : BitVec 8) (laneLinks : BitVec 8) (linkA linkB : Bool)
  /-- R182, R183, R195, R196: a frame that arrived complete on an archive port. -/
  | directive (p : Port) (frame : List Byte)
  | credit (p : Port) (frame : List Byte)
  | discardedStationFrame (p : Port) (frame : List Byte)
  | unknown
  | laneSet
  | laneStart
  | lanePause
  | laneResume
  | laneClear
  | laneManualEnter
  | laneManualLeave
  | laneRead
  | linesMap (pins : BitVec 8)
  | linesSet (pins : BitVec 8)
  | linesRead
  | lanePowerOff
  | lanePowerIdle
  | lanePowerSet
  | lanePowerStandby
  | profileLoad
  | profileRead
  | storeSet
  | storeRead
  | resolveAccept
  | resolveReview
  | resolveDiscard
  | heldList
  | sheetRead
  | batchOpen
  | batchClose
  | batchAbort
  | batchRead
  | separatorLoad
  | separatorRead
  | routeLoad
  | routeSwap
  | routeRead
  | destSet
  | destEnable
  | destDisable
  | destRead
  | portRead
  | reportSet
  | eventsRead
  | eventsClear
  | restart
  | nextPickExpiry (l : Fin 8)
  | pickPulseEnd (l : Fin 8)
  | pickWindowExpiry (l : Fin 8)
  /-- R17: the sensor's latest conversion comes with the expiry. -/
  | sampleExpiry (l : Fin 8) (reading : BitVec 12)
  | gateLimitExpiry (l : Fin 8)
  | imageDeadlineExpiry (t : Tag)
  | exitWindowExpiry (l : Fin 8)
  | divertEnd (l : Fin 8)
  | endOfSpinup (l : Fin 8)
  | idleCountdownExpiry (l : Fin 8)
  | lead (l : Fin 8)
  | trail (l : Fin 8)
  | exitLead (l : Fin 8)
  | exitTrail (l : Fin 8)
  | coverActive (l : Fin 8)
  | coverInactive (l : Fin 8)
  | trayEdge (l : Fin 8)
  | spareEdge (l : Fin 8) (line : Fin 8)
  | linkStateChange (l : Fin 8) (up : Bool)
  /-- R85, R89, R199: a lane link frame, check included. -/
  | strip (l : Fin 8) (frame : List Byte)
  | patch (l : Fin 8) (frame : List Byte)
  | malformedFrame (l : Fin 8) (frame : List Byte)
  | pick (l : Fin 8)
  | settlement (l : Fin 8)
  | queueWaitRetry (l : Fin 8)
  | drainCompletion (l : Fin 8)
  | batchClosure (id : Nat)
  | endOfAbort (id : Nat)
  | frameEnd (p : Port)
  | frameBoundary (p : Port)
  | pendingLostNotice
  | portLinkUp (p : Port)
  | portLinkDown (p : Port)
  deriving DecidableEq, Repr

end Sys2Proof
end

