-- ==== Sys2Proof/Config.lean ====
section
/-!
DEFINITION. The free values: what the manual leaves open and what the environment presents to an event that the
part raises by itself. None has a body, so no statement can rest on a value of one.
-/

namespace Sys2Proof

/-- Free rank of the `j`-th of several items that one event handles in an order the manual leaves open (R38, R47,
R87, R117, R119, R166). Sorting by rank yields every order for some ranks. Log 3. -/
opaque Config.rank : Nat → Nat → Nat

/-- Free thickness reading of a lane (second argument) at a sample expiry that the part raises by itself (R17). Log 4. -/
opaque Config.reading : Nat → Nat → BitVec 12

/-- Free levels of a lane's eight pins (bit set: HIGH) at a directive that the part executes by itself and that
turns lines to inputs (R69, R71, R72). Log 4. -/
opaque Config.pinLevels : Nat → BitVec 8

/-- Free bytes of a reply's data that the layout carries where no item is present and for which it states no value
(first argument: the reply; second: the place). Log 29. -/
opaque Config.fillByte : Nat → Nat → Byte

end Sys2Proof
end

