-- ==== Sys2Proof/Machine/State.lean ====
section
/-!
DEFINITION. The state of the SR-24: every register, table, queue, counter and pin the manual gives it, as plain data,
and the state after power-on. Quantities the manual states as numbers in a range are `Nat`; timer values, addresses,
patch words and route classes, which it adds modulo, masks or compares bit by bit, are bit vectors.
-/

namespace Sys2Proof.Machine

/-! ### Lane lines (chapter 4) -/

/-- Pin levels, in the order of R68. -/
inductive Level where
  | high | low
  deriving DecidableEq, Repr

/-- The other level. -/
def Level.opposite : Level → Level
  | .high => .low
  | .low => .high

/-- Line roles, in the order of R68. -/
inductive Role where
  | motor | pick | divert | entry | exit | tray | cover | spare
  deriving DecidableEq, Repr

/-- Directions of a line, in the order of R68. -/
inductive Direction where
  | output | input
  deriving DecidableEq, Repr

/-- Event modes of a SPARE input, in the order of R68. -/
inductive EventMode where
  | edge | level
  deriving DecidableEq, Repr

/-- A line record of R68. `spareDirection` is the stored direction, which governs a SPARE line alone. -/
structure Line where
  role : Role
  activeLevel : Level
  spareDirection : Direction
  latch : Bool
  mode : EventMode
  sensed : Level
  deriving DecidableEq, Repr

/-! ### The lane (chapters 1 to 5) -/

/-- The four prescales of R1. -/
inductive Prescale where
  | us1 | us2 | us4 | us8
  deriving DecidableEq, Repr

/-- Microseconds per lane tick (R1). -/
def Prescale.toNat : Prescale → Nat
  | .us1 => 1
  | .us2 => 2
  | .us4 => 4
  | .us8 => 8

/-- The lane configuration written by LANE_SET (R2, R3, R30, R45). -/
structure LaneConfig where
  prescale : Prescale
  gap : Nat
  pickPulse : Nat
  pickWindow : Nat
  sampleInterval : Nat
  gateLimit : Nat
  imageWindow : Nat
  exitWindow : Nat
  divertPulse : Nat
  depth : Nat
  retryLimit : Nat
  reserve : Nat
  pitch : Nat
  deriving DecidableEq, Repr

/-- Lane states of R39, in its order. -/
inductive LaneState where
  | off | spinup | idle | feeding | draining | halted | jammed | manual
  deriving DecidableEq, Repr

/-- Spin-up targets of R39. -/
inductive SpinTarget where
  | feeding | idle
  deriving DecidableEq, Repr

/-- Drain causes of R39 (`feedEnd` is END). -/
inductive DrainCause where
  | none | pause | feedEnd | abort
  deriving DecidableEq, Repr

/-- Halt reasons of R39. -/
inductive HaltReason where
  | none | held | suspect | misfeed | stackShort | tableFull
  deriving DecidableEq, Repr

/-- Jam reasons of R39. -/
inductive JamReason where
  | none | gate | stray | exit | interlock
  deriving DecidableEq, Repr

/-- Pick-held reasons of R39 and R46. -/
inductive PickHeld where
  | none | table | store
  deriving DecidableEq, Repr

/-- Conditions of the next-pick deadline (R10). -/
inductive NextPick where
  | none | passed | armed (at_ : Tick)
  deriving DecidableEq, Repr

/-- A path entry of R53, with its exit window (R14). -/
structure PathEntry where
  tag : Tag
  exited : Bool
  exitWindow : Option Tick
  deriving DecidableEq, Repr

/-- The sample accumulator of section 2.2. -/
structure Accumulator where
  sheet : Option Tag
  profile : Fin 16
  guardE : Nat
  threshold : Nat
  runLength : Nat
  nominal : Nat
  tolerance : Nat
  m : Nat
  delay : List Nat
  n : Nat
  sum : Nat
  run : Nat
  longest : Nat
  deriving DecidableEq, Repr

/-- The empty accumulator: sheet absent, every count 0 (section 2.2). -/
def Accumulator.empty : Accumulator :=
  { sheet := none, profile := 0, guardE := 0, threshold := 0, runLength := 0, nominal := 0, tolerance := 0, m := 0,
    delay := [], n := 0, sum := 0, run := 0, longest := 0 }

/-- The state of one lane: its LTU, SMU, FSQ, LLB, intake slice and batch queue. The motor, the pick-held reason and
the COVER condition are functions of it (log 9). -/
structure Lane where
  -- lane timer unit
  counter : Tick
  partialCount : Nat
  lastLead : Tick
  lastTrail : Tick
  lastExitLead : Tick
  lastExitTrail : Tick
  nextPick : NextPick
  pickPulseEnd : Option Tick
  pickWindow : Option Tick
  sampleDue : Option Tick
  gateLimit : Option Tick
  divertEnd : Option Tick
  gateHolder : Option Tag
  exitHolder : Option Tag
  -- configuration
  config : LaneConfig
  -- sheet measurement unit
  acc : Accumulator
  lastSample : Nat
  -- feed sequencer
  state : LaneState
  spinTarget : Option SpinTarget
  drainCause : DrainCause
  haltReason : HaltReason
  jamReason : JamReason
  sequence : Fin 4096
  picking : Option Tag
  path : List PathEntry
  settleOrder : List Tag
  -- lane line block
  lines : Vector Line 8
  pickDriven : Bool
  divertDriven : Bool
  spinTime : Nat
  idleCode : Nat
  spinRemaining : Option Nat
  idleRemaining : Option Nat
  -- strip intake slice
  linkUp : Bool
  orphans : Nat
  malformed : Nat
  toHead : List (List Byte)
  -- batch unit
  batchQueue : List Nat
  deriving DecidableEq, Repr

/-! ### Sheets (chapter 6) -/

/-- Sheet states of R103, in its order. -/
inductive SheetState where
  | picking | inGate | imaging | ready | held | released
  deriving DecidableEq, Repr

/-- A findings set (chapter 11, R29): each finding at most once. -/
structure Findings where
  double : Bool
  long : Bool
  short : Bool
  noSample : Bool
  unexpected : Bool
  incomplete : Bool
  jam : Bool
  noRoute : Bool
  deriving DecidableEq, Repr

/-- The empty findings set. -/
def Findings.empty : Findings := ⟨false, false, false, false, false, false, false, false⟩

/-- The samples field of a record (R29): raw count, counted count, longest run, mean ratio. -/
structure Samples where
  m : Nat
  n : Nat
  longest : Nat
  ratio : Nat
  deriving DecidableEq, Repr

/-- The two sides of a sheet. -/
inductive Side where
  | front | back
  deriving DecidableEq, Repr

/-- Kinds of R115, in the order of R196. -/
inductive Kind where
  | ordinary | separator | suspect
  deriving DecidableEq, Repr

/-- Outcomes that appear in a record (section 6.1). -/
inductive SheetOutcome where
  | released | held
  deriving DecidableEq, Repr

/-- The two route banks (R149). -/
inductive Bank where
  | b0 | b1
  deriving DecidableEq, Repr

/-- A live sheet record (section 6.1). `imageDeadline` is the sheet's deadline of R13; lists are block numbers in
strip-index order; `queueWait` is ascending and empty when the sheet does not wait. -/
structure Sheet where
  tag : Tag
  batch : Nat
  state : SheetState
  retries : Nat
  lead : Option Tick
  trail : Option Tick
  exitLead : Option Tick
  exitTrail : Option Tick
  length : Option Nat
  samples : Option Samples
  findings : Findings
  pastDivert : Bool
  divertDone : Bool
  imageTimeout : Bool
  imageDeadline : Option Tick
  patch : Option (BitVec 32)
  separatorMatch : Option (Fin 8)
  front : List Nat
  frontLast : Bool
  back : List Nat
  backLast : Bool
  reserve : Nat
  queueWait : List (Fin 16)
  outcome : Option SheetOutcome
  kind : Option Kind
  document : Option Nat
  page : Option Nat
  routeBank : Option Bank
  pendingDests : Nat
  deriving DecidableEq, Repr

/-- An entry of the held-sheet list (R120). -/
structure HeldEntry where
  tag : Tag
  batch : Nat
  findings : Findings
  deriving DecidableEq, Repr

/-- The directory entry of a block that holds a strip (R93). -/
structure DirEntry where
  block : Nat
  owner : Tag
  length : Nat
  deriving DecidableEq, Repr

/-! ### Batches, separators, profiles (chapters 2 and 7) -/

/-- Sides of a batch, in the order of R196. -/
inductive Sides where
  | simplex | duplex
  deriving DecidableEq, Repr

/-- Double-feed actions, in the order of R196. -/
inductive Action where
  | stop | divert | flag
  deriving DecidableEq, Repr

/-- States of a live batch record (R128). CLOSED is the state in which the record is freed. -/
inductive BatchState where
  | queued | feeding | draining | ended | aborted
  deriving DecidableEq, Repr

/-- A live batch record (R128). `mask` is the separator mask, bit `n` for pattern `n` (R197). -/
structure Batch where
  id : Nat
  lane : Fin 8
  routeClass : BitVec 6
  profile : Fin 16
  sides : Sides
  expected : Nat
  action : Action
  mask : BitVec 8
  state : BatchState
  fed : Nat
  settled : Nat
  released : Nat
  heldNow : Nat
  holds : Nat
  diverted : Nat
  discarded : Nat
  gaps : Nat
  deliveriesPending : Nat
  document : Nat
  page : Nat
  documents : Nat
  breakPending : Bool
  deriving DecidableEq, Repr

/-- Final states of a batch report (R147). -/
inductive FinalState where
  | closed | aborted
  deriving DecidableEq, Repr

/-- A batch report (R147): the record at its end and its final state. -/
structure Report where
  batch : Batch
  final : FinalState
  deriving DecidableEq, Repr

/-- Actions of a separator pattern, in the order of section 7.5. -/
inductive SeparatorAction where
  | docBreak | batchBreak
  deriving DecidableEq, Repr

/-- A separator pattern (section 7.5). -/
structure Separator where
  valid : Bool
  value : BitVec 32
  mask : BitVec 32
  action : SeparatorAction
  keep : Bool
  deriving DecidableEq, Repr

/-- A stock profile (section 2.5). -/
structure Profile where
  valid : Bool
  b0 : Nat
  working : Nat
  threshold : Nat
  runLength : Nat
  guardE : Nat
  nominal : Nat
  tolerance : Nat
  tracking : Bool
  deriving DecidableEq, Repr

/-! ### Routes, destinations and ports (chapters 8 to 10) -/

/-- A route entry (R149). -/
structure RouteEntry where
  valid : Bool
  classValue : BitVec 6
  classMask : BitVec 6
  front : Bool
  back : Bool
  ordinary : Bool
  separator : Bool
  suspect : Bool
  dests : List (Fin 16)
  deriving DecidableEq, Repr

/-- The invalid form of R149. -/
def RouteEntry.invalid : RouteEntry := ⟨false, 0, 0, false, false, false, false, false, []⟩

/-- A delivery entry (R167). -/
structure DeliveryEntry where
  sheet : Tag
  front : Bool
  back : Bool
  strips : Nat
  kind : Kind
  deriving DecidableEq, Repr

/-- A destination record (R163). -/
structure Dest where
  enabled : Bool
  addr : Addr
  port : Port
  priority : Fin 4
  warn : Nat
  credit : Nat
  undelivered : Nat
  closing : Bool
  queue : List DeliveryEntry
  deriving DecidableEq, Repr

/-- A current or suspended delivery (R171). -/
structure Delivery where
  dest : Fin 16
  entry : DeliveryEntry
  progress : Nat
  deriving DecidableEq, Repr

/-- The frame in transmission on a port, with the bytes of its transmit buffer (R97, R171). -/
inductive TxFrame where
  | reply (bytes : List Byte)
  | notice (bytes : List Byte)
  | archive (bytes : List Byte)
  deriving DecidableEq, Repr

/-- Result codes, in the order of R185. -/
inductive Result where
  | ok | clamped | partialDone | unknown | length | range | state | inUse | notFound | full | duplicate | heldPending
  | interlock | noRoute | config | busy
  deriving DecidableEq, Repr

/-- A waiting reply (R184). `holdsPlace` marks the reply of an executed directive, which keeps its place in the
directive queue until its transmission begins (R183). -/
structure Reply where
  addressee : Addr
  number : Nat
  code : Byte
  result : Result
  data : List Byte
  holdsPlace : Bool
  deriving DecidableEq, Repr

/-- The state of one port scheduler and its reply list (R171, R183). -/
structure PortState where
  linkUp : Bool
  tx : Option TxFrame
  current : Option Delivery
  suspended : Option Delivery
  rr : Vector (Fin 16) 4
  replies : List Reply
  unanswered : Nat
  deriving DecidableEq, Repr

/-- A directive waiting for execution (R183): where it came from, its number and code, its parameter bytes. -/
structure Directive where
  port : Port
  source : Addr
  number : Nat
  code : Byte
  params : List Byte
  deriving DecidableEq, Repr

/-- Event flags of a lane, in the order of R186. -/
inductive LaneFlag where
  | halt | jam | misfeed | suspect | held | holdOverflow | batchEnd | orphan | off | spare
  deriving DecidableEq, Repr

/-- Event flags of a destination, in the order of R186. -/
inductive DestFlag where
  | warn | disabledDrop
  deriving DecidableEq, Repr

/-- Event flags of the device, in the order of R186. -/
inductive DeviceFlag where
  | storeLow | noticeLost | batchReport
  deriving DecidableEq, Repr

/-- The event flags of R186. -/
inductive Flag where
  | lane (l : Fin 8) (f : LaneFlag)
  | dest (d : Fin 16) (f : DestFlag)
  | device (f : DeviceFlag)
  deriving DecidableEq, Repr

/-- A set of flags: ten per lane, two per destination, three for the device (R187). `Flag.index` gives the places. -/
abbrev FlagSet := Vector Bool 115

/-- What a notice carries (R188, R190). -/
inductive NoticeBody where
  | event (f : Flag)
  | report (r : Report)
  deriving DecidableEq, Repr

/-- A notice, with the station and port it was formed for (R188). -/
structure Notice where
  addressee : Addr
  port : Port
  body : NoticeBody
  deriving DecidableEq, Repr

/-- The report station (R187). -/
structure ReportStation where
  addr : Addr
  port : Port
  deriving DecidableEq, Repr

/-! ### The part -/

/-- The whole state. `freeIndex` and `pending` are the model's own (log 2, log 3); every other field is the manual's. -/
structure State where
  lanes : Vector Lane 8
  profiles : Vector Profile 16
  sheets : List Sheet
  free : Nat
  reserved : Nat
  allocated : Nat
  lowMark : Nat
  directory : List DirEntry
  dram : List Host.Cell
  held : List HeldEntry
  batches : List Batch
  lastReport : Option Report
  separators : Vector Separator 8
  bank0 : Vector RouteEntry 64
  bank1 : Vector RouteEntry 64
  activeBank : Bank
  dests : Vector Dest 16
  portA : PortState
  portB : PortState
  dirQueue : List Directive
  flags : FlagSet
  mask : FlagSet
  reportStation : Option ReportStation
  notices : List Notice
  pendingLost : Option Notice
  lostCount : Nat
  straps : BitVec 8
  usPhase : Nat
  freeIndex : Nat
  pending : List Instr
  deriving DecidableEq, Repr

/-- The part has no fault: every command changes State as its rules say, so this type has no constructor. -/
inductive Fault where
  deriving DecidableEq, Repr

/-- Reasons to refuse a command. -/
inductive Refusal where
  /-- Raised by no arm: kept for a command whose meaning is not written. Safe: the model stops where the part goes on. -/
  | notModelled (mnemonic : String)
  deriving DecidableEq, Repr

/-! ### Power-on -/

/-- The power-on configuration of a lane (R1, R3, R30, R45). -/
def LaneConfig.powerOn : LaneConfig :=
  { prescale := .us1, gap := 524287, pickPulse := 524287, pickWindow := 524287, sampleInterval := 1023,
    gateLimit := 524287, imageWindow := 524287, exitWindow := 524287, divertPulse := 524287, depth := 1,
    retryLimit := 2, reserve := 16, pitch := 4096 }

/-- The level of pin `n` in a word of levels, bit set for HIGH. -/
def pinLevel (pins : BitVec 8) (n : Nat) : Level :=
  if pins.getLsbD n then .high else .low

/-- A line record after power-on: active HIGH, INPUT, latch 0, EDGE, the sensed level from the pin (R68, R71, R84). -/
def Line.powerOn (pins : BitVec 8) (n : Nat) (role : Role) : Line :=
  { role := role, activeLevel := .high, spareDirection := .input, latch := false, mode := .edge, sensed := pinLevel pins n }

/-- The identity map of R68. -/
def identityMap (pins : BitVec 8) : Vector Line 8 :=
  #v[.powerOn pins 0 .motor, .powerOn pins 1 .pick, .powerOn pins 2 .divert, .powerOn pins 3 .entry,
     .powerOn pins 4 .exit, .powerOn pins 5 .tray, .powerOn pins 6 .cover, .powerOn pins 7 .spare]

/-- A lane after power-on (R1, R3, R5, R10, R17, R39, R68, R78, R84, R85, R129). The orphan and malformed counts, whose
power-on values the manual does not give, are 0, and no ANNOUNCE or WITHDRAW frame is still to be sent, of which R100 gives
LANE_CLEAR and RESTART alone: the model's choices (log 33). -/
def Lane.powerOn (pins : BitVec 8) (link : Bool) : Lane :=
  { counter := 0, partialCount := 0, lastLead := 0, lastTrail := 0, lastExitLead := 0, lastExitTrail := 0,
    nextPick := .none, pickPulseEnd := none, pickWindow := none, sampleDue := none, gateLimit := none,
    divertEnd := none, gateHolder := none, exitHolder := none, config := .powerOn, acc := .empty, lastSample := 0,
    state := .off, spinTarget := none, drainCause := .none, haltReason := .none, jamReason := .none, sequence := 0,
    picking := none, path := [], settleOrder := [], lines := identityMap pins, pickDriven := false,
    divertDriven := false, spinTime := 250, idleCode := 0, spinRemaining := none, idleRemaining := none,
    linkUp := link, orphans := 0, malformed := 0, toHead := [], batchQueue := [] }

/-- A profile after power-on (R31). -/
def Profile.powerOn : Profile :=
  { valid := false, b0 := 4095, working := 4095, threshold := 1023, runLength := 255, guardE := 0, nominal := 0,
    tolerance := 0, tracking := false }

/-- A separator pattern after power-on (section 7.5). -/
def Separator.powerOn : Separator := ⟨false, 0, 0, .docBreak, false⟩

/-- A destination after power-on (R163). -/
def Dest.powerOn : Dest :=
  { enabled := false, addr := 0, port := .a, priority := 0, warn := 0, credit := 0, undelivered := 0, closing := false,
    queue := [] }

/-- A port after power-on (R171, R194). -/
def PortState.powerOn (link : Bool) : PortState :=
  { linkUp := link, tx := none, current := none, suspended := none, rr := #v[15, 15, 15, 15], replies := [],
    unanswered := 0 }

/-- The lane count as a list. -/
def allLanes : List (Fin 8) := [0, 1, 2, 3, 4, 5, 6, 7]

/-- The destination indices as a list, ascending. -/
def allDests : List (Fin 16) := [0, 1, 2, 3, 4, 5, 6, 7, 8, 9, 10, 11, 12, 13, 14, 15]

/-- The whole part after power-on (or assertion of the RESET line), given what its pins and links present. -/
def State.powerOn (pins : Vector (BitVec 8) 8) (straps laneLinks : BitVec 8) (linkA linkB : Bool) : State :=
  { lanes := #v[.powerOn pins[0] (laneLinks.getLsbD 0), .powerOn pins[1] (laneLinks.getLsbD 1),
                .powerOn pins[2] (laneLinks.getLsbD 2), .powerOn pins[3] (laneLinks.getLsbD 3),
                .powerOn pins[4] (laneLinks.getLsbD 4), .powerOn pins[5] (laneLinks.getLsbD 5),
                .powerOn pins[6] (laneLinks.getLsbD 6), .powerOn pins[7] (laneLinks.getLsbD 7)],
    profiles := Vector.replicate 16 .powerOn, sheets := [], free := 4096, reserved := 0, allocated := 0, lowMark := 0,
    directory := [], dram := [], held := [], batches := [], lastReport := none,
    separators := Vector.replicate 8 .powerOn, bank0 := Vector.replicate 64 .invalid,
    bank1 := Vector.replicate 64 .invalid, activeBank := .b0, dests := Vector.replicate 16 .powerOn,
    portA := .powerOn linkA, portB := .powerOn linkB, dirQueue := [], flags := Vector.replicate 115 false,
    mask := Vector.replicate 115 false, reportStation := none, notices := [], pendingLost := none, lostCount := 0,
    straps := straps, usPhase := 0, freeIndex := 0, pending := [] }

/-- The machine right after reset: power-on with every pin LOW, straps 0 and every link DOWN (log 5). -/
def State.reset : State := State.powerOn (Vector.replicate 8 0) 0 0 false false

end Sys2Proof.Machine
end

