-- ==== Sys2Proof/Machine/Ops.lean ====
section
/-!
DEFINITION. The named operations over the parts of State: reading and writing a lane, a sheet record, a batch record,
a destination, a port, a block of the page store; and the order of items that one event handles in an order the manual
leaves open.
-/

namespace Sys2Proof.Machine

/-! ### Arithmetic of the manual -/

/-- Add `n` to a count that saturates at 65535 (R85, R88, R140, R145, R163, R183, R189). -/
def addSat (x n : Nat) : Nat := min (x + n) 65535

/-- Bring `x` into `lo..hi` (R3). -/
def clampTo (lo hi x : Nat) : Nat := max lo (min hi x)

/-- A deadline armed at `base` plus `w` ticks, modulo 2^20 (R4). -/
def armAt (base : Tick) (w : Nat) : Tick := base + BitVec.ofNat 20 w

/-- Elapsed ticks from `a` to the later `b`, modulo 2^20 (R4, R25). -/
def elapsed (a b : Tick) : Nat := (b - a).toNat

/-! ### An order the manual leaves open -/

/-- Insert an item with its rank behind the items of lower or equal rank. -/
def insertRanked {α : Type} (r : Nat) (x : α) : List (Nat × α) → List (Nat × α)
  | [] => [(r, x)]
  | (r', y) :: rest => if r < r' then (r, x) :: (r', y) :: rest else (r', y) :: insertRanked r x rest

/-- Sort items by their free ranks at index `k`; `j` counts the items. -/
def rankItems {α : Type} (k : Nat) : Nat → List α → List (Nat × α)
  | _, [] => []
  | j, x :: rest => insertRanked (Config.rank k j) x (rankItems k (j + 1) rest)

/-- The items in a free order: a permutation that nothing constrains (log 3). -/
def freeOrder {α : Type} (k : Nat) (xs : List α) : List α := (rankItems k 0 xs).map Prod.snd

/-! ### Lanes -/

/-- The state of lane `l`. -/
def State.lane (s : State) (l : Fin 8) : Lane := s.lanes[l.val]

/-- Replace the state of lane `l`. -/
def State.setLane (s : State) (l : Fin 8) (x : Lane) : State := { s with lanes := s.lanes.set l.val x }

/-- Change the state of lane `l`. -/
def State.modLane (s : State) (l : Fin 8) (f : Lane → Lane) : State := s.setLane l (f (s.lane l))

/-- The lane states in which edges are attributed to sheets (R5, R39). -/
def LaneState.attributing : LaneState → Bool
  | .spinup | .feeding | .draining | .halted => true
  | .off | .idle | .jammed | .manual => false

/-! ### Sheets -/

/-- The live record with a tag, if there is one (R102). -/
def State.sheet? (s : State) (t : Tag) : Option Sheet := s.sheets.find? (fun r => decide (r.tag = t))

/-- Change the live record with a tag. -/
def State.modSheet (s : State) (t : Tag) (f : Sheet → Sheet) : State :=
  { s with sheets := s.sheets.map (fun r => if r.tag = t then f r else r) }

/-- Unsettled states of a sheet that has taken its lead (R88, R103). -/
def SheetState.unsettled : SheetState → Bool
  | .inGate | .imaging | .ready => true
  | .picking | .held | .released => false

/-- Whether a findings set holds a measurement finding (section 2.3, R29). -/
def Findings.measurement (f : Findings) : Bool := f.double || f.long || f.short || f.noSample || f.unexpected

/-! ### Batches -/

/-- The live batch with an id, if there is one (R128). -/
def State.batch? (s : State) (id : Nat) : Option Batch := s.batches.find? (fun b => decide (b.id = id))

/-- Change the live batch with an id. -/
def State.modBatch (s : State) (id : Nat) (f : Batch → Batch) : State :=
  { s with batches := s.batches.map (fun b => if b.id = id then f b else b) }

/-- What a sheet whose batch has no live record is judged under: reached by no run (R141), log 19. -/
def Batch.absent : Batch :=
  { id := 0, lane := 0, routeClass := 0, profile := 0, sides := .simplex, expected := 0, action := .flag, mask := 0,
    state := .queued, fed := 0, settled := 0, released := 0, heldNow := 0, holds := 0, diverted := 0, discarded := 0,
    gaps := 0, deliveriesPending := 0, document := 0, page := 0, documents := 0, breakPending := false }

/-- The batch with an id, for readers of its parameters. -/
def State.batchOf (s : State) (id : Nat) : Batch := (s.batch? id).getD .absent

/-- The id of the lane's active batch: the head of its batch queue while FEEDING, DRAINING or ABORTED (R39, R129). -/
def State.activeBatch (s : State) (l : Fin 8) : Option Nat :=
  match (s.lane l).batchQueue with
  | [] => none
  | id :: _ =>
    match s.batch? id with
    | none => none
    | some b =>
      match b.state with
      | .feeding | .draining | .aborted => some id
      | .queued | .ended => none

/-- Whether a batch is in its lane's batch queue (R128). -/
def State.inLaneQueue (s : State) (b : Batch) : Bool := decide (b.id ∈ (s.lane b.lane).batchQueue)

/-! ### Profiles, destinations, ports -/

/-- Stock profile `i`. -/
def State.profile (s : State) (i : Fin 16) : Profile := s.profiles[i.val]

/-- Change stock profile `i`. -/
def State.modProfile (s : State) (i : Fin 16) (f : Profile → Profile) : State :=
  { s with profiles := s.profiles.set i.val (f (s.profile i)) }

/-- Destination `d`. -/
def State.dest (s : State) (d : Fin 16) : Dest := s.dests[d.val]

/-- Change destination `d`. -/
def State.modDest (s : State) (d : Fin 16) (f : Dest → Dest) : State :=
  { s with dests := s.dests.set d.val (f (s.dest d)) }

/-- The state of an archive port. -/
def State.port (s : State) : Port → PortState
  | .a => s.portA
  | .b => s.portB

/-- Change the state of an archive port. -/
def State.modPort (s : State) (p : Port) (f : PortState → PortState) : State :=
  match p with
  | .a => { s with portA := f s.portA }
  | .b => { s with portB := f s.portB }

/-! ### The page store's DRAM and block directory (R90, R93, R97) -/

/-- The bytes of one block. -/
def blockBytes : Nat := 8192

/-- What a byte of DRAM that nothing has written reads as (log 14). -/
def unwritten : Byte := 0

/-- One byte of DRAM. -/
def readByte (mem : List Host.Cell) (a : Nat) : Byte :=
  match mem.find? (fun c => decide (c.1 = a)) with
  | some c => c.2
  | none => unwritten

/-- The cells of `bytes` laid at address `a` on, less those equal to an unwritten byte. -/
def cellsOf (a : Nat) : List Byte → List Host.Cell
  | [] => []
  | b :: rest => if b = unwritten then cellsOf (a + 1) rest else (a, b) :: cellsOf (a + 1) rest

/-- Write `bytes` at address `a` on. -/
def writeBytes (mem : List Host.Cell) (a : Nat) (bytes : List Byte) : List Host.Cell :=
  mem.filter (fun c => decide (c.1 < a)) ++ cellsOf a bytes ++ mem.filter (fun c => decide (a + bytes.length ≤ c.1))

/-- Read `n` bytes from address `a` on. -/
def readBytes (mem : List Host.Cell) (a n : Nat) : List Byte := (List.range n).map (fun i => readByte mem (a + i))

/-- The canonical form of DRAM: addresses strictly rising, no cell equal to an unwritten byte. -/
abbrev Memory.wf (mem : List Host.Cell) : Prop :=
  mem.Pairwise (fun c d => c.1 < d.1) ∧ ∀ c ∈ mem, c.2 ≠ unwritten

/-- The lowest block number, from `k` on, that an ascending directory does not list. -/
def lowestEmpty (k : Nat) : List DirEntry → Nat
  | [] => k
  | e :: rest => if e.block = k then lowestEmpty (k + 1) rest else k

/-- Enter a block into the ascending directory. -/
def insertDir (e : DirEntry) : List DirEntry → List DirEntry
  | [] => [e]
  | d :: rest => if e.block < d.block then e :: d :: rest else d :: insertDir e rest

/-- The payload length the directory records for a block; 0 for an empty entry, whose block is not read (R97). -/
def dirLength (dir : List DirEntry) (b : Nat) : Nat :=
  match dir.find? (fun e => decide (e.block = b)) with
  | some e => e.length
  | none => 0

/-! ### Event flags as places of a flag set -/

/-- The number of a lane flag (R195). -/
def LaneFlag.toFin : LaneFlag → Fin 10
  | .halt => 0
  | .jam => 1
  | .misfeed => 2
  | .suspect => 3
  | .held => 4
  | .holdOverflow => 5
  | .batchEnd => 6
  | .orphan => 7
  | .off => 8
  | .spare => 9

/-- The bit of a destination flag in its byte (R195). -/
def DestFlag.toFin : DestFlag → Fin 2
  | .warn => 0
  | .disabledDrop => 1

/-- The bit of a device flag in the device byte (R195). -/
def DeviceFlag.toFin : DeviceFlag → Fin 3
  | .storeLow => 0
  | .noticeLost => 1
  | .batchReport => 2

/-- The place of a flag in a flag set: lanes first, then destinations, then the device. -/
def Flag.index : Flag → Fin 115
  | .lane l f => ⟨10 * l.val + f.toFin.val, by omega⟩
  | .dest d f => ⟨80 + 2 * d.val + f.toFin.val, by omega⟩
  | .device f => ⟨112 + f.toFin.val, by omega⟩

/-- Whether a flag is set. -/
def State.flag (s : State) (f : Flag) : Bool := s.flags[f.index.val]

/-- Whether a flag is masked in (R187). -/
def State.masked (s : State) (f : Flag) : Bool := s.mask[f.index.val]

/-- Set or clear a flag, with nothing else. -/
def State.setFlag (s : State) (f : Flag) (b : Bool) : State :=
  { s with flags := s.flags.set f.index.val b }

end Sys2Proof.Machine
end

