-- ==== Sys2Proof/Machine/Flags.lean ====
section
/-!
DEFINITION. Event flags and the notice queue (section 10.3): setting a flag, forming a notice, losing one, and the
pending lost notice.
-/

namespace Sys2Proof.Machine

/-- The flag NOTICE_LOST. -/
abbrev noticeLostFlag : Flag := .device .noticeLost

/-- A notice that finds the queue full (R189): the lost count grows; NOTICE_LOST is set, and when that is a change from
clear to set and it is masked in, its own notice is held as the pending lost notice. -/
def loseNotice (st : ReportStation) (s : State) : State :=
  let s1 := { s with lostCount := addSat s.lostCount 1 }
  if s.flag noticeLostFlag then s1
  else
    let s2 := s1.setFlag noticeLostFlag true
    if s.masked noticeLostFlag then { s2 with pendingLost := some ⟨st.addr, st.port, .event noticeLostFlag⟩ } else s2

/-- Form a notice for the report station as it stands and place it at the tail of the notice queue, or lose it (R188,
R189). With no report station the mask is clear (R187), so nothing is formed. -/
def formNotice (body : NoticeBody) (s : State) : State :=
  match s.reportStation with
  | none => s
  | some st =>
    if s.notices.length < 16 then { s with notices := s.notices ++ [⟨st.addr, st.port, body⟩] } else loseNotice st s

/-- Set an event flag; from clear to set and masked in, it forms one event notice (R186, R188). -/
def raise (f : Flag) (s : State) : State :=
  if s.flag f then s
  else
    let s1 := s.setFlag f true
    if s.masked f then formNotice (.event f) s1 else s1

/-- A batch report handed over (R147, R190): kept as the last report; BATCH_REPORT is set; masked in, one report notice
is formed for every report, and no event notice. -/
def handReport (r : Report) (s : State) : State :=
  let s1 := { s with lastReport := some r }.setFlag (.device .batchReport) true
  if s.masked (.device .batchReport) then formNotice (.report r) s1 else s1

/-- The pending lost notice takes a free place at the tail of the notice queue (R189). -/
def placePendingLost (s : State) : State :=
  match s.pendingLost with
  | none => s
  | some n => if s.notices.length < 16 then { s with notices := s.notices ++ [n], pendingLost := none } else s

end Sys2Proof.Machine
end

