-- ==== Sys2Proof/Machine/LineOps.lean ====
section
/-!
DEFINITION. Operations of the lane line block: which line has a role, driven and sensed levels, the COVER condition,
LEVEL-mode SPARE inputs, the idle countdown's length (chapter 4).
-/

namespace Sys2Proof.Machine

/-- The line numbers of a lane. -/
def allLines : List (Fin 8) := [0, 1, 2, 3, 4, 5, 6, 7]

/-- Line `n` of a lane. -/
def Lane.line (x : Lane) (n : Fin 8) : Line := x.lines[n.val]

/-- Replace line `n` of a lane. -/
def Lane.setLine (x : Lane) (n : Fin 8) (r : Line) : Lane := { x with lines := x.lines.set n.val r }

/-- The line that has a role, if the map gives it to one (R68). -/
def Lane.lineWith (x : Lane) (r : Role) : Option (Fin 8) := allLines.find? (fun n => decide ((x.line n).role = r))

/-- Whether the line map holds a role. -/
def Lane.hasRole (x : Lane) (r : Role) : Bool := (x.lineWith r).isSome

/-- The drive roles of R68. -/
def Role.isDrive : Role → Bool
  | .motor | .pick | .divert => true
  | .entry | .exit | .tray | .cover | .spare => false

/-- The sense roles of R68. -/
def Role.isSense : Role → Bool
  | .entry | .exit | .tray | .cover => true
  | .motor | .pick | .divert | .spare => false

/-- A line's direction: by its role, and for a SPARE line as stored (R68). -/
def Line.direction (r : Line) : Direction :=
  if r.role.isDrive then .output else if r.role.isSense then .input else r.spareDirection

/-- Whether an input line's sensed level is its active level (00_scope.md, Lines). -/
def Line.isActive (r : Line) : Bool := decide (r.sensed = r.activeLevel)

/-- Whether the map has the role and its line's sensed level is active. -/
def Lane.roleActive (x : Lane) (r : Role) : Bool :=
  match x.lineWith r with
  | none => false
  | some n => (x.line n).isActive

/-- The COVER condition: inactive when the map has no COVER role (R76). -/
def Lane.coverCondition (x : Lane) : Bool := x.roleActive .cover

/-- Whether the tray is empty: TRAY active; a lane without TRAY never finds it empty (R49). -/
def Lane.trayEmpty (x : Lane) : Bool := x.roleActive .tray

/-- Whether MOTOR is asserted outside MANUAL (R39, R70). -/
def motorDriven : LaneState → Bool
  | .spinup | .idle | .feeding | .draining | .halted => true
  | .off | .jammed | .manual => false

/-- Whether an output line is asserted (R70). JAMMED forces the drive lines released; MANUAL follows the latch. -/
def Lane.asserted (x : Lane) (r : Line) : Bool :=
  match r.role with
  | .spare => r.latch
  | .motor => if x.state = .manual then r.latch else motorDriven x.state
  | .pick => if x.state = .manual then r.latch else x.pickDriven && decide (x.state ≠ .jammed)
  | .divert => if x.state = .manual then r.latch else x.divertDriven && decide (x.state ≠ .jammed)
  | .entry | .exit | .tray | .cover => false

/-- The level of a line as LINES_READ reports it: driven for an output, sensed for an input (R70, R73). -/
def Lane.level (x : Lane) (r : Line) : Level :=
  match r.direction with
  | .input => r.sensed
  | .output => if x.asserted r then r.activeLevel else r.activeLevel.opposite

/-- An edge of the line with a role to its active or inactive level: the lane with the new sensed level, or none when
the map has no such line or its level is already that one, so that no edge can occur (R5, R71). -/
def Lane.edgeTo (x : Lane) (r : Role) (active : Bool) : Option Lane :=
  match x.lineWith r with
  | none => none
  | some n =>
    let q := x.line n
    if q.isActive = active then none
    else some (x.setLine n { q with sensed := if active then q.activeLevel else q.activeLevel.opposite })

/-- Whether a line is a LEVEL-mode SPARE input at its active level (R75). -/
def Line.levelSpareActive (r : Line) : Bool :=
  decide (r.role = .spare) && decide (r.spareDirection = .input) && decide (r.mode = .level) && r.isActive

/-- Whether any LEVEL-mode SPARE input of the lane is active (R75). -/
def Lane.holdsSpare (x : Lane) : Bool := allLines.any (fun n => (x.line n).levelSpareActive)

/-- Length of the idle countdown in milliseconds by the idle code; none for code 0 (R78). -/
def idleMs (code : Nat) : Option Nat :=
  if code = 0 then none else if code ≤ 60 then some (code * 5000) else some ((code - 55) * 60000)

/-- Set the latches of the drive-role lines to inactive (R65, R67). -/
def Lane.clearDriveLatches (x : Lane) : Lane :=
  { x with lines := x.lines.map (fun r => if r.role.isDrive then { r with latch := false } else r) }

end Sys2Proof.Machine
end

