-- ==== Sys2Proof/Machine/Operands.lean ====
section
/-!
DEFINITION. The byte forms of chapter 11: fields most significant byte first, station frames (R195, R196), lane link
frames and their check (R199), enumerations (R196, R197), flag sets (R195).
-/

namespace Sys2Proof.Machine

/-! ### Fields -/

/-- `k` bytes of a number, most significant first (chapter 11). -/
def be (k n : Nat) : List Byte :=
  match k with
  | 0 => []
  | k + 1 => BitVec.ofNat 8 (n / 256 ^ k) :: be k n

/-- The number in the `k` bytes at offset `i`. -/
def rd (bytes : List Byte) (i k : Nat) : Nat := ((bytes.drop i).take k).foldl (fun a b => a * 256 + b.toNat) 0

/-- A flag byte counts as set for any value other than 0 (R196). -/
def rdFlag (bytes : List Byte) (i : Nat) : Bool := decide (rd bytes i 1 ≠ 0)

/-- A flag as a bit, or as a byte of reply data. R196 has any value other than 0 count as set where a flag byte is read; but
for the COVER condition (R197) no rule states what a set one is sent as: that it is sent as 1 is the model's choice
(DESIGN CHOICE, log 35). -/
def flagByte (b : Bool) : Nat := if b then 1 else 0

/-- A tag as a number: lane × 4096 + sequence (chapter 11). -/
def tagCode (t : Tag) : Nat := t.lane.val * 4096 + t.seq.val

/-- The tag of a number; 32768 or more names a lane above 7 (chapter 11). -/
def tagOf (n : Nat) : Option Tag :=
  if h : n < 32768 then some ⟨⟨n / 4096, by omega⟩, ⟨n % 4096, by omega⟩⟩ else none

/-- A tag field; an absent tag is 0xFFFF (R197). -/
def tagField : Option Tag → List Byte
  | some t => be 2 (tagCode t)
  | none => be 2 0xFFFF

/-- A findings set as a byte, bit 0 DOUBLE to bit 7 NOROUTE (chapter 11). -/
def Findings.code (f : Findings) : Nat :=
  flagByte f.double + 2 * flagByte f.long + 4 * flagByte f.short + 8 * flagByte f.noSample +
    16 * flagByte f.unexpected + 32 * flagByte f.incomplete + 64 * flagByte f.jam + 128 * flagByte f.noRoute

/-- The lane a number names; above 7 none. -/
def laneOf (n : Nat) : Option (Fin 8) := if h : n < 8 then some ⟨n, h⟩ else none

/-- The item of sixteen a number names; above 15 none. -/
def sixteenOf (n : Nat) : Option (Fin 16) := if h : n < 16 then some ⟨n, h⟩ else none

/-! ### Enumerations, numbered from 0 in the manual's order (R196, R197) -/

def Role.ofCode : Nat → Option Role
  | 0 => some .motor
  | 1 => some .pick
  | 2 => some .divert
  | 3 => some .entry
  | 4 => some .exit
  | 5 => some .tray
  | 6 => some .cover
  | 7 => some .spare
  | _ => none

def Role.code : Role → Nat
  | .motor => 0
  | .pick => 1
  | .divert => 2
  | .entry => 3
  | .exit => 4
  | .tray => 5
  | .cover => 6
  | .spare => 7

def Level.ofCode : Nat → Option Level
  | 0 => some .high
  | 1 => some .low
  | _ => none

def Level.code : Level → Nat
  | .high => 0
  | .low => 1

def Direction.ofCode : Nat → Option Direction
  | 0 => some .output
  | 1 => some .input
  | _ => none

def Direction.code : Direction → Nat
  | .output => 0
  | .input => 1

def EventMode.ofCode : Nat → Option EventMode
  | 0 => some .edge
  | 1 => some .level
  | _ => none

def EventMode.code : EventMode → Nat
  | .edge => 0
  | .level => 1

def latchOfCode : Nat → Option Bool
  | 0 => some false
  | 1 => some true
  | _ => none

def Prescale.ofCode : Nat → Option Prescale
  | 1 => some .us1
  | 2 => some .us2
  | 4 => some .us4
  | 8 => some .us8
  | _ => none

def Sides.ofCode : Nat → Option Sides
  | 0 => some .simplex
  | 1 => some .duplex
  | _ => none

def Sides.code : Sides → Nat
  | .simplex => 0
  | .duplex => 1

def Action.ofCode : Nat → Option Action
  | 0 => some .stop
  | 1 => some .divert
  | 2 => some .flag
  | _ => none

def Action.code : Action → Nat
  | .stop => 0
  | .divert => 1
  | .flag => 2

def SeparatorAction.ofCode : Nat → Option SeparatorAction
  | 0 => some .docBreak
  | 1 => some .batchBreak
  | _ => none

def SeparatorAction.code : SeparatorAction → Nat
  | .docBreak => 0
  | .batchBreak => 1

def portOfCode : Nat → Option Port
  | 0 => some .a
  | 1 => some .b
  | _ => none

def portCode : Port → Nat
  | .a => 0
  | .b => 1

/-- A link state, UP 0 and DOWN 1, in the order in which R85 and R171 list them (R196, log 17). -/
def linkCode (up : Bool) : Nat := if up then 0 else 1

def Bank.ofCode : Nat → Option Bank
  | 0 => some .b0
  | 1 => some .b1
  | _ => none

def Bank.code : Bank → Nat
  | .b0 => 0
  | .b1 => 1

def Kind.code : Kind → Nat
  | .ordinary => 0
  | .separator => 1
  | .suspect => 2

def BatchState.code : BatchState → Nat
  | .queued => 0
  | .feeding => 1
  | .draining => 2
  | .ended => 3
  | .aborted => 5

def FinalState.code : FinalState → Nat
  | .closed => 4
  | .aborted => 5

def LaneState.code : LaneState → Nat
  | .off => 0
  | .spinup => 1
  | .idle => 2
  | .feeding => 3
  | .draining => 4
  | .halted => 5
  | .jammed => 6
  | .manual => 7

def SpinTarget.code : Option SpinTarget → Nat
  | some .feeding => 0
  | some .idle => 1
  | none => 0xFF

def DrainCause.code : DrainCause → Nat
  | .none => 0
  | .pause => 1
  | .feedEnd => 2
  | .abort => 3

def HaltReason.code : HaltReason → Nat
  | .none => 0
  | .held => 1
  | .suspect => 2
  | .misfeed => 3
  | .stackShort => 4
  | .tableFull => 5

def JamReason.code : JamReason → Nat
  | .none => 0
  | .gate => 1
  | .stray => 2
  | .exit => 3
  | .interlock => 4

def PickHeld.code : PickHeld → Nat
  | .none => 0
  | .table => 1
  | .store => 2

def SheetState.code : SheetState → Nat
  | .picking => 0
  | .inGate => 1
  | .imaging => 2
  | .ready => 3
  | .held => 4
  | .released => 5

def SheetOutcome.code : SheetOutcome → Nat
  | .released => 0
  | .held => 1

def Result.code : Result → Nat
  | .ok => 0
  | .clamped => 1
  | .partialDone => 2
  | .unknown => 3
  | .length => 4
  | .range => 5
  | .state => 6
  | .inUse => 7
  | .notFound => 8
  | .full => 9
  | .duplicate => 10
  | .heldPending => 11
  | .interlock => 12
  | .noRoute => 13
  | .config => 14
  | .busy => 15

/-- The number of a flag and the index of its lane or destination, 0 for a device flag (R195). -/
def Flag.number : Flag → Nat × Nat
  | .lane l f => (f.toFin.val, l.val)
  | .dest d f => (10 + f.toFin.val, d.val)
  | .device f => (12 + f.toFin.val, 0)

/-! ### Flag sets (R195) -/

/-- The number formed by bits, least significant first; the bits above them are 0 (log 36 where it is sent). -/
def bitsToNat : List Bool → Nat
  | [] => 0
  | b :: rest => flagByte b + 2 * bitsToNat rest

/-- The first places of a flag set that belong to lane `l`, ten of them. -/
def FlagSet.laneBits (fs : FlagSet) (l : Nat) : List Bool := (fs.toList.drop (10 * l)).take 10

/-- A flag set as its 33 bytes: two per lane, one per destination, the device byte (R195), as in the reply data of
EVENTS_READ (R191) and EVENTS_CLEAR (R192). R195 places no flag at bits 10 to 15 of a lane's two bytes, bits 2 to 7 of a
destination byte and bits 3 to 7 of the device byte, and no rule states what they are sent as: that they are sent as 0 is
the model's choice (DESIGN CHOICE, log 36). -/
def FlagSet.bytes (fs : FlagSet) : List Byte :=
  (List.range 8).flatMap (fun l => be 2 (bitsToNat (FlagSet.laneBits fs l))) ++
  (List.range 16).flatMap (fun d => be 1 (bitsToNat ((fs.toList.drop (80 + 2 * d)).take 2))) ++
  be 1 (bitsToNat (fs.toList.drop 112))

/-- The flag set that 33 bytes at offset `i` name; bits that stand for no flag are ignored (R196, log 17). -/
def rdFlagSet (bytes : List Byte) (i : Nat) : FlagSet :=
  Vector.ofFn (fun k : Fin 115 =>
    if k.val < 80 then (rd bytes (i + 2 * (k.val / 10)) 2).testBit (k.val % 10)
    else if k.val < 112 then (rd bytes (i + 16 + (k.val - 80) / 2) 1).testBit ((k.val - 80) % 2)
    else (rd bytes (i + 32) 1).testBit (k.val - 112))

/-! ### Station frames (R182, R195, R196) -/

/-- The part's own station address, 02-D0-57-00-ss-00 (R195). -/
def ownAddr (straps : BitVec 8) : Addr := 0x02D057000000 + BitVec.ofNat 48 (straps.toNat * 256)

/-- Whether the group bit of a station address is set: the least significant bit of its first byte (R195). -/
def groupBit (a : Addr) : Bool := a.getLsbD 40

/-- What a frame arriving at an archive port is (R182). -/
inductive StationArrival where
  | directive (d : Directive)
  | credit (source : Addr) (count : Nat)
  | discarded
  deriving DecidableEq, Repr

/-- The body of a station frame: the declared length, or what was received of it (R196). -/
def stationBody (frame : List Byte) : List Byte := (frame.drop 17).take (rd frame 15 2)

/-- Read a frame that arrived at port `p` of the part with address `own` (R182, R195, R196). -/
def readStationFrame (own : Addr) (p : Port) (frame : List Byte) : StationArrival :=
  if frame.length < 17 ∨ rd frame 12 2 ≠ 0x88B5 ∨ rd frame 0 6 ≠ own.toNat then .discarded
  else
    let body := stationBody frame
    match rd frame 14 1 with
    | 1 =>
      if body.length < 3 then .discarded
      else .directive ⟨p, BitVec.ofNat 48 (rd frame 6 6), rd body 0 2, BitVec.ofNat 8 (rd body 2 1), body.drop 3⟩
    | 4 => if body.length < 2 then .discarded else .credit (BitVec.ofNat 48 (rd frame 6 6)) (rd body 0 2)
    | _ => .discarded

/-- A station frame the part sends (R195). -/
def stationFrame (own dst : Addr) (kind : Nat) (body : List Byte) : List Byte :=
  be 6 dst.toNat ++ be 6 own.toNat ++ be 2 0x88B5 ++ be 1 kind ++ be 2 body.length ++ body

/-- A reply as the frame that carries it (R195). -/
def Reply.bytes (own : Addr) (r : Reply) : List Byte :=
  stationFrame own r.addressee 2 (be 2 r.number ++ [r.code] ++ be 1 r.result.code ++ r.data)

/-- The batch report record (chapter 11). -/
def Report.bytes (r : Report) : List Byte :=
  let b := r.batch
  be 2 b.id ++ be 1 b.lane.val ++ be 1 b.routeClass.toNat ++ be 1 b.profile.val ++ be 1 b.sides.code ++
  be 2 b.expected ++ be 1 b.action.code ++ be 1 b.mask.toNat ++ be 1 r.final.code ++ be 2 b.fed ++ be 2 b.settled ++
  be 2 b.released ++ be 2 b.holds ++ be 2 b.diverted ++ be 2 b.discarded ++ be 2 b.gaps ++ be 2 b.heldNow ++
  be 2 b.deliveriesPending ++ be 2 b.documents ++ be 2 b.document ++ be 2 b.page

/-- A notice as the frame that carries it (R195). -/
def Notice.bytes (own : Addr) (n : Notice) : List Byte :=
  stationFrame own n.addressee 3
    (match n.body with
     | .event f => be 1 1 ++ be 1 f.number.1 ++ be 1 f.number.2
     | .report r => be 1 2 ++ r.bytes)

/-! ### Lane link frames (R85, R199) -/

/-- One bit of the cyclic redundancy division with generator 0x04C11DB7 (R199). -/
def crcBit (reg : BitVec 32) (bit : Bool) : BitVec 32 :=
  if reg.msb ^^ bit then (reg <<< 1) ^^^ 0x04C11DB7#32 else reg <<< 1

/-- One byte of it, least significant bit first. -/
def crcByte (reg : BitVec 32) (b : Byte) : BitVec 32 :=
  (List.range 8).foldl (fun r i => crcBit r (b.getLsbD i)) reg

/-- The check of a frame: the inverted remainder (R199). -/
def crc32 (bytes : List Byte) : BitVec 32 := ~~~ (bytes.foldl crcByte 0xFFFFFFFF#32)

/-- A frame with its check behind it, most significant byte first (R199). -/
def withCheck (bytes : List Byte) : List Byte := bytes ++ be 4 (crc32 bytes).toNat

/-- What a frame from the head is (R85, R199). The tag stays a number: an unknown one is an orphan's matter (R88). -/
inductive LaneArrival where
  | strip (tag : Nat) (side : Side) (index : Nat) (last : Bool) (payload : List Byte)
  | patch (tag : Nat) (word : BitVec 32)
  | malformed
  deriving DecidableEq, Repr

/-- The checked part of a lane link frame, once its check is verified (R199). -/
def readLaneBody (body : List Byte) : LaneArrival :=
  match rd body 0 1 with
  | 1 =>
    let len := rd body 6 2
    if body.length < 8 ∨ len < 256 ∨ 8192 < len ∨ body.length ≠ 8 + len then .malformed
    else
      match rd body 3 1 with
      | 0 => .strip (rd body 1 2) .front (rd body 4 1) (rdFlag body 5) (body.drop 8)
      | 1 => .strip (rd body 1 2) .back (rd body 4 1) (rdFlag body 5) (body.drop 8)
      | _ => .malformed
  | 2 => if body.length ≠ 7 then .malformed else .patch (rd body 1 2) (BitVec.ofNat 32 (rd body 3 4))
  | _ => .malformed

/-- Read a frame from the head (R85, R199). -/
def readLaneFrame (frame : List Byte) : LaneArrival :=
  if frame.length < 4 then .malformed
  else
    let body := frame.take (frame.length - 4)
    if frame.drop (frame.length - 4) = be 4 (crc32 body).toNat then readLaneBody body else .malformed

/-- ANNOUNCE and WITHDRAW frames (section 11.4). -/
def announceFrame (t : Tag) : List Byte := withCheck (be 1 3 ++ be 2 (tagCode t))

def withdrawFrame (t : Tag) : List Byte := withCheck (be 1 4 ++ be 2 (tagCode t))

end Sys2Proof.Machine
end

