-- ==== Sys2Proof/Machine/Store.lean ====
section
/-!
DEFINITION. Operations of the page store and of the freeing of records: reserves, allocation, release, the low mark
(sections 5.4, 5.5, 6.6), and the frames to the heads (R85 to R87).
-/

namespace Sys2Proof.Machine

/-- The store's free count falls by `n`; a fall from at least the low mark to below it sets STORE_LOW (R98, log 13). -/
def lowerFree (n : Nat) (s : State) : State :=
  let s1 := { s with free := s.free - n }
  if s.lowMark ≤ s.free ∧ s1.free < s.lowMark then raise (.device .storeLow) s1 else s1

/-- Set `n` blocks aside for a sheet: free falls, reserved grows (R94). -/
def takeReserve (n : Nat) (s : State) : State := lowerFree n { s with reserved := s.reserved + n }

/-- A sheet's reserve remaining returns to the free pool (R95). -/
def returnReserve (t : Tag) (s : State) : State :=
  match s.sheet? t with
  | none => s
  | some r =>
    { s with free := s.free + r.reserve, reserved := s.reserved - r.reserve }.modSheet t
      (fun q => { q with reserve := 0 })

/-- Free a record: every block that holds one of its strips returns to the free pool with its directory entry marked
empty, any reserve remaining returns, and the tag is no longer live (R95, R124). -/
def freeRecord (t : Tag) (s : State) : State :=
  match s.sheet? t with
  | none => s
  | some r =>
    let blocks := r.front ++ r.back
    { s with
      sheets := s.sheets.filter (fun q => decide (q.tag ≠ t))
      directory := s.directory.filter (fun e => decide (e.block ∉ blocks))
      allocated := s.allocated - blocks.length
      free := s.free + blocks.length + r.reserve
      reserved := s.reserved - r.reserve }

/-- Free the lane's picking sheet, if any, with its reserve, and cancel its pick window (R11, R94). -/
def freePicking (l : Fin 8) (s : State) : State :=
  match (s.lane l).picking with
  | none => s
  | some t => (freeRecord t s).modLane l (fun x => { x with picking := none, pickWindow := none })

/-- Hand a frame to the lane link; while the link is DOWN it is discarded (R85). -/
def sendHead (l : Fin 8) (frame : List Byte) (s : State) : State :=
  if (s.lane l).linkUp then s.modLane l (fun x => { x with toHead := x.toHead ++ [frame] }) else s

/-- Whether a sheet's images are complete: every side its batch expects carries the last mark (R91). -/
def imagesComplete (s : State) (r : Sheet) : Bool :=
  match (s.batchOf r.batch).sides with
  | .simplex => r.frontLast
  | .duplex => r.frontLast && r.backLast

/-- Where a strip's block is drawn from (R90): the sheet's own reserve, else the free pool, else nowhere. -/
inductive BlockSource where
  | reserve | pool | nowhere
  deriving DecidableEq, Repr

/-- The source R90 names for a sheet's next block. -/
def blockSource (s : State) (r : Sheet) : BlockSource :=
  if 0 < r.reserve then .reserve else if 0 < s.free then .pool else .nowhere

/-- Take one block for sheet `t` from a source: one count falls and the allocated count grows (R90, R93). -/
def takeBlock (src : BlockSource) (t : Tag) (s : State) : State :=
  match src with
  | .reserve =>
    { s with reserved := s.reserved - 1, allocated := s.allocated + 1 }.modSheet t
      (fun q => { q with reserve := q.reserve - 1 })
  | .pool => lowerFree 1 { s with allocated := s.allocated + 1 }
  | .nowhere => s

/-- Append a block to a side's list, with the last mark when the strip carries the last flag (R90). -/
def Sheet.addStrip (side : Side) (b : Nat) (last : Bool) (r : Sheet) : Sheet :=
  match side with
  | .front => { r with front := r.front ++ [b], frontLast := r.frontLast || last }
  | .back => { r with back := r.back ++ [b], backLast := r.backLast || last }

/-- File a strip into the lowest-numbered empty block (R90). -/
def fileStrip (src : BlockSource) (t : Tag) (side : Side) (last : Bool) (payload : List Byte) (s : State) : State :=
  let b := lowestEmpty 0 s.directory
  let s1 := takeBlock src t s
  { s1 with
    dram := writeBytes s1.dram (b * blockBytes) payload
    directory := insertDir ⟨b, t, payload.length⟩ s1.directory }.modSheet t (Sheet.addStrip side b last)

end Sys2Proof.Machine
end

