-- ==== Sys2Proof/Machine/BatchOps.lean ====
section
/-!
DEFINITION. Operations of the batch unit and of the lane's states that move with it: counters, numbering, separator
matches, closure and end of abort, halts, end of feeding and drain completion (chapters 3 and 7).
-/

namespace Sys2Proof.Machine

/-! ### Numbering (R145) -/

/-- One numbering of a batch: a pending break opens a document, otherwise the page grows (R145). -/
def Batch.number (b : Batch) : Batch :=
  if b.breakPending then
    { b with document := addSat b.document 1, documents := addSat b.documents 1, page := 1, breakPending := false }
  else { b with page := addSat b.page 1 }

/-- Give a sheet its document and page numbers (R145). -/
def numberSheet (t : Tag) (s : State) : State :=
  match s.sheet? t with
  | none => s
  | some r =>
    let s1 := s.modBatch r.batch Batch.number
    let b := s1.batchOf r.batch
    s1.modSheet t (fun q => { q with document := some b.document, page := some b.page })

/-! ### Separators (R143) -/

/-- Whether a patch word matches a pattern (R143). -/
def Separator.fits (p : Separator) (w : BitVec 32) : Bool := p.valid && decide ((w ^^^ p.value) &&& p.mask = 0)

/-- The applying pattern of a sheet: no measurement finding, a patch word, and the first pattern of the batch's mask
that matches (R143). -/
def separatorMatch (s : State) (r : Sheet) : Option (Fin 8) :=
  if r.findings.measurement then none
  else
    match r.patch with
    | none => none
    | some w =>
      allLines.find? (fun i => (s.batchOf r.batch).mask.getLsbD i.val && (s.separators[i.val]).fits w)

/-! ### Closure and end of abort (R132, R137, R147) -/

/-- Free a batch's record and hand its report over. -/
def finishBatch (final : FinalState) (id : Nat) (s : State) : State :=
  match s.batch? id with
  | none => s
  | some b => handReport ⟨b, final⟩ { s with batches := s.batches.filter (fun c => decide (c.id ≠ id)) }

/-- The test for closure: an ENDED batch with nothing held and nothing pending closes (R132). -/
def testClosure (id : Nat) (s : State) : State :=
  match s.batch? id with
  | none => s
  | some b =>
    if b.state = .ended ∧ b.heldNow = 0 ∧ b.deliveriesPending = 0 then finishBatch .closed id s else s

/-- The test for the end of an abort: an ABORTED batch out of its lane's queue with nothing pending (R137). -/
def testAbort (id : Nat) (s : State) : State :=
  match s.batch? id with
  | none => s
  | some b =>
    if b.state = .aborted ∧ s.inLaneQueue b = false ∧ b.deliveriesPending = 0 then finishBatch .aborted id s else s

/-- Both tests; a batch is never in both states. -/
def testBatch (id : Nat) (s : State) : State := testAbort id (testClosure id s)

/-- The tests of several batches that one event has touched, in a free order (log 3). -/
def testBatches (ids : List Nat) (s : State) : State :=
  (freeOrder s.freeIndex ids.dedup).foldl (fun acc id => testBatch id acc) { s with freeIndex := s.freeIndex + 1 }

/-! ### Leaving the lane (R43, R131) -/

/-- The active batch leaves active feeding as the lane's drain cause directs, NONE treated as PAUSE; the drain cause
becomes NONE (R43, R64, R82, R131). -/
def batchLeaves (l : Fin 8) (s : State) : State :=
  let cause := (s.lane l).drainCause
  let s1 := s.modLane l (fun x => { x with drainCause := .none })
  match s.activeBatch l with
  | none => s1
  | some id =>
    let unqueue := fun (x : Lane) => { x with batchQueue := x.batchQueue.erase id }
    match cause with
    | .none | .pause => s1.modBatch id (fun b => { b with state := .queued })
    | .feedEnd =>
      testClosure id
        (raise (.lane l .batchEnd) ((s1.modBatch id (fun b => { b with state := .ended })).modLane l unqueue))
    | .abort => testAbort id (s1.modLane l unqueue)

/-! ### Lane transitions (R40, R42 to R44, R80) -/

/-- A transition out of SPINUP other than its end cancels the spin-up (R44). -/
def Lane.stopSpin (x : Lane) : Lane := { x with spinTarget := none, spinRemaining := none }

/-- Entry to IDLE starts the idle countdown at its full length (R80). -/
def Lane.enterIdle (x : Lane) : Lane := { x.stopSpin with state := .idle, idleRemaining := idleMs x.idleCode }

/-- Entry to DRAINING from SPINUP, FEEDING or HALTED (R42). -/
def Lane.enterDraining (x : Lane) : Lane := { x.stopSpin with state := .draining, haltReason := .none }

/-- Entry to OFF: the idle countdown stops (R80). A running pick or divert pulse ends at its own deadline (R70). -/
def Lane.enterOff (x : Lane) : Lane := { x.stopSpin with state := .off, idleRemaining := none }

/-- Entry to SPINUP: the countdown starts at the lane's spin-up time (R79). -/
def Lane.enterSpinup (target : SpinTarget) (x : Lane) : Lane :=
  { x with state := .spinup, spinTarget := some target, spinRemaining := some x.spinTime, idleRemaining := none }

/-- The lane states in which a halt cause halts a lane (the table of R40). -/
def haltsIn : HaltReason → LaneState → Bool
  | .held, .spinup | .held, .feeding | .suspect, .spinup | .suspect, .feeding => true
  | .stackShort, .feeding | .misfeed, .feeding => true
  | .tableFull, .spinup | .tableFull, .feeding | .tableFull, .draining => true
  | _, _ => false

/-- A halt cause (R40): in a state the table names, the lane enters HALTED with PICK released and HALT is flagged. -/
def halt (l : Fin 8) (r : HaltReason) (s : State) : State :=
  if haltsIn r (s.lane l).state then
    raise (.lane l .halt) (s.modLane l (fun x =>
      { x.stopSpin with state := .halted, haltReason := r, pickPulseEnd := none, pickDriven := false }))
  else s

/-- The end of feeding of the lane's active batch (R42, R130): the drain cause becomes END unless it is ABORT, a
FEEDING batch becomes DRAINING, and a lane in SPINUP or FEEDING enters DRAINING. -/
def endFeeding (l : Fin 8) (s : State) : State :=
  let x : Lane := s.lane l
  let s1 : State :=
    match s.activeBatch l with
    | none => s
    | some id => s.modBatch id (fun b => if b.state = .feeding then { b with state := .draining } else b)
  let y : Lane := { x with drainCause := if x.drainCause = .abort then .abort else .feedEnd }
  s1.setLane l (if x.state = .spinup ∨ x.state = .feeding then y.enterDraining else y)

/-- Whether a lane completes its drain (R43). -/
def Lane.drained (x : Lane) : Bool :=
  decide (x.state = .draining) && x.picking.isNone && x.path.isEmpty && x.settleOrder.isEmpty

/-- The test for drain completion (R43): the lane enters IDLE and its batch leaves. -/
def drainTest (l : Fin 8) (s : State) : State :=
  if (s.lane l).drained then batchLeaves l (s.modLane l Lane.enterIdle) else s

end Sys2Proof.Machine
end

