-- ==== Sys2Proof/Machine/RouteOps.lean ====
section
/-!
DEFINITION. Route lookup and the merging of a sheet's sides into delivery entries (R116, R151 to R154).
-/

namespace Sys2Proof.Machine

/-- The entries of the active bank (R150, R152). -/
def State.activeEntries (s : State) : Vector RouteEntry 64 :=
  match s.activeBank with
  | .b0 => s.bank0
  | .b1 => s.bank1

/-- Whether a route class matches an entry (R151). -/
def RouteEntry.matchesClass (e : RouteEntry) (c : BitVec 6) : Bool := decide ((c ^^^ e.classValue) &&& e.classMask = 0)

/-- Whether an entry routes a side. -/
def RouteEntry.hasSide (e : RouteEntry) : Side → Bool
  | .front => e.front
  | .back => e.back

/-- Whether an entry routes a kind. -/
def RouteEntry.hasKind (e : RouteEntry) : Kind → Bool
  | .ordinary => e.ordinary
  | .separator => e.separator
  | .suspect => e.suspect

/-- Whether an entry fits a key (R152). -/
def RouteEntry.fits (e : RouteEntry) (c : BitVec 6) (side : Side) (kind : Kind) : Bool :=
  e.valid && e.matchesClass c && e.hasSide side && e.hasKind kind

/-- The answer for a key: the winning entry's enabled destinations in list order, empty for no route (R152, R153). -/
def lookup (s : State) (c : BitVec 6) (side : Side) (kind : Kind) : List (Fin 16) :=
  match s.activeEntries.toList.find? (fun e => e.fits c side kind) with
  | none => []
  | some e => e.dests.filter (fun d => (s.dest d).enabled)

/-- The answer for one side of a sheet: `some []` for a side with no filed strip, which is not looked up, and `none`
for a side with strips and no route (R116, R154). -/
def routeSide (s : State) (r : Sheet) (side : Side) (kind : Kind) : Option (List (Fin 16)) :=
  let strips := match side with
    | .front => r.front
    | .back => r.back
  if strips = [] then some []
  else
    match lookup s (s.batchOf r.batch).routeClass side kind with
    | [] => none
    | ds => some ds

/-- The delivery entry of destination `d`, for the sides whose lookup named it (R116). -/
def entryFor (r : Sheet) (kind : Kind) (f b : List (Fin 16)) (d : Fin 16) : Option (Fin 16 × DeliveryEntry) :=
  let onFront := decide (d ∈ f)
  let onBack := decide (d ∈ b)
  if onFront || onBack then
    some (d, { sheet := r.tag, front := onFront, back := onBack, kind := kind,
               strips := (if onFront then r.front.length else 0) + (if onBack then r.back.length else 0) })
  else none

/-- A sheet's delivery entries in ascending destination order, or none when a side with strips has no route (R116). -/
def deliveryEntries (s : State) (r : Sheet) (kind : Kind) : Option (List (Fin 16 × DeliveryEntry)) :=
  match routeSide s r .front kind, routeSide s r .back kind with
  | some f, some b => some (allDests.filterMap (entryFor r kind f b))
  | _, _ => none

/-- The capacity of a destination's queue (R167). -/
def queueCapacity : Nat := 48

/-- The destinations among a sheet's entries whose queues are full (R117). -/
def fullDests (s : State) (es : List (Fin 16 × DeliveryEntry)) : List (Fin 16) :=
  (es.map Prod.fst).filter (fun d => decide (queueCapacity ≤ (s.dest d).queue.length))

/-- Append an entry at the tail of a destination's queue; a rise to the warning level sets WARN (R118, R168). -/
def appendEntry (s : State) (e : Fin 16 × DeliveryEntry) : State :=
  let q := s.dest e.1
  let s1 := s.modDest e.1 (fun x => { x with queue := x.queue ++ [e.2] })
  if 0 < q.warn ∧ q.queue.length + 1 = q.warn then raise (.dest e.1 .warn) s1 else s1

end Sys2Proof.Machine
end

