-- ==== Sys2Proof/Machine/Scheduler.lean ====
section
/-!
DEFINITION. The port scheduler: archive frames, participants, round robin, preemption and the choice at a frame
boundary (R170 to R175, R198).
-/

namespace Sys2Proof.Machine

/-! ### Archive frames (R175, R198) -/

/-- A strip of a delivery: its side, index within the side, block, and whether it is the last of its side. -/
structure StripRef where
  side : Side
  index : Nat
  block : Nat
  last : Bool
  deriving DecidableEq, Repr

/-- The strips of a side in index order. -/
def stripsOf (side : Side) (blocks : List Nat) : List StripRef :=
  blocks.zipIdx.map (fun x => ⟨side, x.2, x.1, decide (x.2 + 1 = blocks.length)⟩)

/-- The strips an entry sends, front then back (R175). -/
def entryStrips (r : Sheet) (e : DeliveryEntry) : List StripRef :=
  (if e.front then stripsOf .front r.front else []) ++ (if e.back then stripsOf .back r.back else [])

/-- The archive frame of a strip (R175, R198); bits 2 to 7 of the byte at offset 30 are sent as 0 (log 36). -/
def stripFrame (s : State) (c : Delivery) (r : Sheet) (x : StripRef) : List Byte :=
  let b := s.batchOf r.batch
  let suspect := decide (c.entry.kind = .suspect)
  let len := dirLength s.directory x.block
  let sep := match c.entry.kind, r.separatorMatch with
    | .separator, some i => i.val
    | _, _ => 0xFF
  be 6 (s.dest c.dest).addr.toNat ++ be 6 (ownAddr s.straps).toNat ++ be 2 0x88B6 ++
  be 2 (tagCode r.tag) ++ be 2 r.batch ++ be 1 b.routeClass.toNat ++ be 1 c.entry.kind.code ++
  be 2 (r.document.getD 0) ++ be 2 (r.page.getD 0) ++ be 1 sep ++ be 1 r.findings.code ++
  be 2 (if suspect then r.length.getD 0 else 0) ++
  be 2 (if suspect then (r.samples.map Samples.ratio).getD 0 else 0) ++
  be 1 ((match x.side with | .front => 0 | .back => 1) + 2 * flagByte x.last) ++ be 1 x.index ++
  be 2 (c.progress + 1) ++ be 2 c.entry.strips ++ be 2 len ++
  readBytes s.dram (x.block * blockBytes) len

/-- The next archive frame of a delivery; none only for a sheet or strip that is not there, which no run reaches. -/
def nextFrame (s : State) (c : Delivery) : Option (List Byte) :=
  match s.sheet? c.entry.sheet with
  | none => none
  | some r => ((entryStrips r c.entry)[c.progress]?).map (stripFrame s c r)

/-- Begin the next strip of a delivery on a port: its block is read into the transmit buffer (R97, R175). -/
def sendStrip (p : Port) (c : Delivery) (s : State) : State :=
  match nextFrame s c with
  | none => s
  | some bytes => s.modPort p (fun q => { q with tx := some (.archive bytes) })

/-! ### The choice at a frame boundary (R172 to R174) -/

/-- Whether a delivery is of a destination. -/
def isOf (d : Fin 16) : Option Delivery → Bool
  | none => false
  | some c => decide (c.dest = d)

/-- Whether destination `d` is a participant of a level at a boundary of port `p` (R172). -/
def participant (s : State) (p : Port) (level : Fin 4) (d : Fin 16) : Bool :=
  let x := s.dest d
  let q := s.port p
  decide (x.port = p) && x.enabled && decide (x.priority = level) && !isOf d q.current && !isOf d q.suspended &&
  (match x.queue with
   | [] => false
   | e :: _ => decide (e.strips ≤ x.credit))

/-- Round robin at a level: the first participant met from the index after the pointer, wrapping (R173). -/
def roundRobin (s : State) (p : Port) (level : Fin 4) : Option (Fin 16) :=
  (allDests.map (fun i => (s.port p).rr[level.val] + 1 + i)).find? (participant s p level)

/-- Start the delivery of a destination's head entry: it becomes current with progress 0, its strip count is taken from
the credit, the pointer of its level moves, and its first strip is chosen (R170, R172). -/
def startDelivery (p : Port) (d : Fin 16) (s : State) : State :=
  match (s.dest d).queue with
  | [] => s
  | e :: _ =>
    let c : Delivery := ⟨d, e, 0⟩
    sendStrip p c
      ((s.modDest d (fun x => { x with credit := x.credit - e.strips })).modPort p
        (fun q => { q with current := some c, rr := q.rr.set (s.dest d).priority.val d }))

/-- Begin the oldest waiting reply of a port; its place in the reply list, and its directive's place in the directive
queue, are free from then on (R172, R183). -/
def sendReply (p : Port) (r : Reply) (rest : List Reply) (s : State) : State :=
  s.modPort p (fun q => { q with replies := rest, tx := some (.reply (r.bytes (ownAddr s.straps))) })

/-- Begin the oldest waiting notice of a port; the freed place goes to a pending lost notice (R172, R188, R189). -/
def sendNotice (p : Port) (n : Notice) (s : State) : State :=
  (placePendingLost { s with notices := s.notices.eraseP (fun m => decide (m.port = p)) }).modPort p
    (fun q => { q with tx := some (.notice (n.bytes (ownAddr s.straps))) })

/-- Whether a current delivery can be preempted (R174). -/
def preemptible (s : State) (p : Port) (c : Delivery) : Bool :=
  decide ((s.dest c.dest).priority ≠ 3) && (s.port p).suspended.isNone

/-- Steps 2 and 3 of R172: the delivery in progress, an urgent one, a resumption, or the start of the next. -/
def chooseDelivery (p : Port) (s : State) : State :=
  let q := s.port p
  match q.current with
  | some c =>
    match roundRobin s p 3 with
    | some d =>
      if preemptible s p c then startDelivery p d (s.modPort p (fun q => { q with suspended := some c }))
      else sendStrip p c s
    | none => sendStrip p c s
  | none =>
    match roundRobin s p 3 with
    | some d => startDelivery p d s
    | none =>
      match q.suspended with
      | some c => sendStrip p c (s.modPort p (fun q => { q with current := some c, suspended := none }))
      | none =>
        match roundRobin s p 2 with
        | some d => startDelivery p d s
        | none =>
          match roundRobin s p 1 with
          | some d => startDelivery p d s
          | none =>
            match roundRobin s p 0 with
            | some d => startDelivery p d s
            | none => s

/-- A frame boundary of a port: with the link UP and no frame in transmission, the choice of R172 (R171). -/
def boundary (p : Port) (s : State) : State :=
  let q := s.port p
  if q.linkUp && q.tx.isNone then
    match q.replies with
    | r :: rest => sendReply p r rest s
    | [] =>
      match s.notices.find? (fun m => decide (m.port = p)) with
      | some n => sendNotice p n s
      | none => chooseDelivery p s
  else s

/-- The idle ports make their choice afresh at the end of an event that may have given them something to send (R171,
log 7). That this holds for an event that R171 does not list, a removal by BATCH_ABORT (R177) or DEST_DISABLE (R166) that
leaves an affordable head on another port than the reply's, is the model's choice (log 7). A notice begun on port B can
place a pending lost notice for port A, so port A is asked again. -/
def kickPorts (s : State) : State := boundary .a (boundary .b (boundary .a s))

end Sys2Proof.Machine
end

