-- ==== Sys2Proof/Machine/Settle.lean ====
section
/-!
DEFINITION. The settlement unit (chapter 6): readiness, the outcome decision, holding, releasing, waiting on full
queues, the held-sheet list, and what follows when delivery entries leave their queues.
-/

namespace Sys2Proof.Machine

/-! ### Readiness (R106, R108) -/

/-- Whether a sheet is divert-waiting (R108). -/
def divertWaiting (s : State) (r : Sheet) : Bool :=
  decide ((s.batchOf r.batch).action = .divert) && r.findings.measurement && !r.pastDivert && !r.divertDone &&
    decide ((s.lane r.tag.lane).state ≠ .jammed)

/-- Whether a sheet's batch is aborting (R106). -/
def batchAborting (s : State) (r : Sheet) : Bool := decide ((s.batchOf r.batch).state = .aborted)

/-- Whether a cursor sheet is ready (R106); a READY sheet that waits for queue space stays so. -/
def sheetReady (s : State) (r : Sheet) : Bool :=
  decide (r.state = .ready) || r.findings.jam || batchAborting s r || r.divertDone ||
    (r.trail.isSome && !divertWaiting s r && (imagesComplete s r || r.imageTimeout))

/-- Whether a hold reason holds: (a) to (d) of R110. -/
def holdReason (s : State) (r : Sheet) : Bool :=
  let action := (s.batchOf r.batch).action
  (decide (r.findings ≠ .empty) && decide (action = .stop)) ||
  (r.pastDivert && r.findings.measurement) ||
  (decide (action = .divert) && r.findings.measurement && !r.divertDone) ||
  r.findings.incomplete

/-! ### The outcomes (R109 to R114, R118) -/

/-- The effects every settlement has on the lane and the sheet (R109): the sheet leaves the settlement order, its image
deadline is cancelled and its queue wait emptied, its reserve returns, and a gate holder loses its samples (R12, R22). -/
def leaveOrder (l : Fin 8) (t : Tag) (s : State) : State :=
  let s1 := s.modLane l (fun x =>
    { x with
      settleOrder := x.settleOrder.erase t
      sampleDue := if x.gateHolder = some t then none else x.sampleDue
      acc := if x.gateHolder = some t then .empty else x.acc })
  (returnReserve t s1).modSheet t (fun q => { q with imageDeadline := none, queueWait := [] })

/-- Drop an unsettled sheet (R111, R112): WITHDRAW when its images are not complete, the batch's counters, and the
record freed. -/
def dropSheet (count : Batch → Batch) (l : Fin 8) (t : Tag) (s : State) : State :=
  match s.sheet? t with
  | none => s.modLane l (fun x => { x with settleOrder := x.settleOrder.erase t })
  | some r =>
    let s1 := (leaveOrder l t s).modBatch r.batch (fun b => count { b with settled := addSat b.settled 1 })
    freeRecord t (if imagesComplete s r then s1 else sendHead l (withdrawFrame t) s1)

/-- Settlement DISCARDED (R111). -/
def settleDiscarded (l : Fin 8) (t : Tag) (s : State) : State :=
  dropSheet (fun b => { b with discarded := addSat b.discarded 1 }) l t s

/-- Settlement DIVERTED (R112). -/
def settleDiverted (l : Fin 8) (t : Tag) (s : State) : State :=
  dropSheet (fun b => { b with diverted := addSat b.diverted 1 }) l t s

/-- The capacity of the held-sheet list (R120). -/
def heldCapacity : Nat := 48

/-- A hold that finds the list full (R114): numbered, then discarded as a gap, with HOLD_OVERFLOW. -/
def overflowHold (l : Fin 8) (t : Tag) (s : State) : State :=
  raise (.lane l .holdOverflow)
    (dropSheet (fun b => { b with discarded := addSat b.discarded 1, gaps := addSat b.gaps 1 }) l t (numberSheet t s))

/-- Settlement HELD (R113), or the overflow of R114. HELD is set before the HALT of R40, and so noticed first: the
model's choice (log 34). -/
def settleHeld (l : Fin 8) (t : Tag) (s : State) : State :=
  if heldCapacity ≤ s.held.length then overflowHold l t s
  else
    match s.sheet? t with
    | none => s
    | some r =>
      let s1 := (leaveOrder l t s).modBatch r.batch (fun b =>
        { b with settled := addSat b.settled 1, heldNow := addSat b.heldNow 1, holds := addSat b.holds 1 })
      let s2 := (numberSheet t s1).modSheet t (fun q => { q with state := .held, outcome := some .held })
      halt l .held (raise (.lane l .held) { s2 with held := s2.held ++ [⟨t, r.batch, r.findings⟩] })

/-- Record an applying match and apply its action (R144): DOC_BREAK and BATCH_BREAK set the break-pending mark, and
BATCH_BREAK is also the end of feeding. -/
def applyMatch (l : Fin 8) (t : Tag) (i : Fin 8) (s : State) : State :=
  match s.sheet? t with
  | none => s
  | some r =>
    let s1 := (s.modSheet t (fun q => { q with separatorMatch := some i })).modBatch r.batch
      (fun b => { b with breakPending := true })
    match (s.separators[i.val]).action with
    | .docBreak => s1
    | .batchBreak => endFeeding l s1

/-- Place a sheet's entries (R118): appended in ascending destination order, the pending counts raised, the state,
outcome, kind and route bank written. -/
def deliver (t : Tag) (kind : Kind) (es : List (Fin 16 × DeliveryEntry)) (s : State) : State :=
  match s.sheet? t with
  | none => s
  | some r =>
    ((es.foldl appendEntry s).modSheet t (fun q =>
      { q with state := .released, outcome := some .released, kind := some kind, routeBank := some s.activeBank,
               pendingDests := es.length })).modBatch r.batch (fun b =>
      { b with deliveriesPending := addSat b.deliveriesPending es.length })

/-- A release with no delivery entries frees the record (R124). -/
def freeIfIdle (t : Tag) (es : List (Fin 16 × DeliveryEntry)) (s : State) : State :=
  if es.isEmpty then freeRecord t s else s

/-- Count a settlement RELEASED (R109). -/
def countReleased (id : Nat) (s : State) : State :=
  s.modBatch id (fun b => { b with settled := addSat b.settled 1, released := addSat b.released 1 })

/-- Release through a route (R118): numbered, unless a kept separator, whose match is recorded and applied. -/
def settleReleased (l : Fin 8) (t : Tag) (id : Nat) (kind : Kind) (sep : Option (Fin 8))
    (es : List (Fin 16 × DeliveryEntry)) (s : State) : State :=
  let s1 := countReleased id (deliver t kind es (leaveOrder l t s))
  let s2 := match kind, sep with
    | .separator, some i => applyMatch l t i s1
    | _, _ => numberSheet t s1
  freeIfIdle t es s2

/-- Release of a separator without keep (R118): no entries, no number, the action applied, the record freed. -/
def settleSeparator (l : Fin 8) (t : Tag) (id : Nat) (i : Fin 8) (s : State) : State :=
  freeRecord t (applyMatch l t i (countReleased id (leaveOrder l t s)))

/-- The kind of a sheet that reaches step 5 (R115). -/
def chooseKind (r : Sheet) (sep : Option (Fin 8)) : Kind :=
  if r.findings ≠ .empty then .suspect else if sep.isSome then .separator else .ordinary

/-- Step 5 of R110: the route; then NOROUTE, waiting for queue space, or release (R115 to R118). -/
def routeSheet (l : Fin 8) (r : Sheet) (sep : Option (Fin 8)) (s : State) : State :=
  let kind := chooseKind r sep
  match deliveryEntries s r kind with
  | none => settleHeld l r.tag (s.modSheet r.tag (fun q => { q with findings := { q.findings with noRoute := true } }))
  | some es =>
    if fullDests s es = [] then settleReleased l r.tag r.batch kind sep es s
    else s.modSheet r.tag (fun q => { q with queueWait := fullDests s es })

/-- The outcome decision for a ready sheet, from step 1 (R110). -/
def decideOutcome (l : Fin 8) (r : Sheet) (s : State) : State :=
  if r.findings.jam || batchAborting s r then settleDiscarded l r.tag s
  else if r.divertDone then settleDiverted l r.tag s
  else if holdReason s r then settleHeld l r.tag s
  else
    match separatorMatch s r with
    | some i => if (s.separators[i.val]).keep then routeSheet l r (some i) s else settleSeparator l r.tag r.batch i s
    | none => routeSheet l r none s

/-- Settle the ready cursor sheet: it becomes READY and its outcome is decided (R103, R105). -/
def settleCursor (l : Fin 8) (t : Tag) (s : State) : State :=
  match s.sheet? t with
  | none => s.modLane l (fun x => { x with settleOrder := x.settleOrder.erase t })
  | some r => decideOutcome l { r with state := .ready } (s.modSheet t (fun q => { q with state := .ready }))

/-! ### The settlement cursor (R105, R117) -/

/-- Whether a tag's sheet can be settled at the cursor. -/
def cursorReady (s : State) (t : Tag) : Bool :=
  match s.sheet? t with
  | none => true
  | some r => sheetReady s r

/-- Settle from the cursor for as long as its sheet is ready and leaves the order (R105); the bound is the length of
the settlement order. -/
def settleLoop (l : Fin 8) : Nat → State → State
  | 0, s => s
  | k + 1, s =>
    match (s.lane l).settleOrder with
    | [] => s
    | t :: _ =>
      if cursorReady s t then
        let s1 := settleCursor l t s
        if (s1.lane l).settleOrder.head? = some t then s1 else settleLoop l k s1
      else s

/-- The queue wait of the lane's cursor sheet; empty when it does not wait. -/
def cursorWait (s : State) (l : Fin 8) : List (Fin 16) :=
  match (s.lane l).settleOrder with
  | [] => []
  | t :: _ =>
    match s.sheet? t with
    | none => []
    | some r => r.queueWait

/-- An event of R117 reaches the lane's cursor: it is settled again from step 1 even when it waits. -/
def poke (l : Fin 8) (s : State) : State := settleLoop l (s.lane l).settleOrder.length s

/-- The lane's cursor is examined (R105); a sheet that waits for queue space is left waiting. -/
def examine (l : Fin 8) (s : State) : State := if cursorWait s l = [] then poke l s else s

/-- Examination, then the test for drain completion (R43). -/
def settleLane (l : Fin 8) (s : State) : State := drainTest l (examine l s)

/-- A retry, then the test for drain completion. -/
def pokeLane (l : Fin 8) (s : State) : State := drainTest l (poke l s)

/-- INCOMPLETE is added to a sheet's findings (R89, R90, R107); a new finding of the cursor sheet settles it again. -/
def addIncomplete (t : Tag) (s : State) : State :=
  match s.sheet? t with
  | none => s
  | some r =>
    if r.findings.incomplete then s
    else
      let s1 := s.modSheet t (fun q => { q with findings := { q.findings with incomplete := true } })
      if (s1.lane t.lane).settleOrder.head? = some t then pokeLane t.lane s1 else s1

/-- Whether the lane's cursor sheet waits on one of the destinations. -/
def waitsOn (s : State) (ds : List (Fin 16)) (l : Fin 8) : Bool := (cursorWait s l).any (fun d => decide (d ∈ ds))

/-- Entries have left the queues of `ds`: every sheet waiting on one of them is retried, in a free order (R117, R119,
log 3). -/
def retryWaiting (ds : List (Fin 16)) (s : State) : State :=
  (freeOrder s.freeIndex (allLanes.filter (waitsOn s ds))).foldl (fun acc l => pokeLane l acc)
    { s with freeIndex := s.freeIndex + 1 }

/-! ### Held sheets and entries that leave (R122, R123, R124, R166, R176, R177) -/

/-- Discard a held sheet (R122, R123): its entry, its record, and the batch's counters; no WITHDRAW. -/
def discardHeld (e : HeldEntry) (s : State) : State :=
  freeRecord e.tag
    ({ s with held := s.held.filter (fun h => decide (h.tag ≠ e.tag)) }.modBatch e.batch (fun b =>
      { b with heldNow := b.heldNow - 1, discarded := addSat b.discarded 1, gaps := addSat b.gaps 1 }))

/-- Discard a batch's held sheets in list order (R123). -/
def discardBatchHeld (id : Nat) (s : State) : State :=
  (s.held.filter (fun h => decide (h.batch = id))).foldl (fun acc e => discardHeld e acc) s

/-- An entry of a sheet has left its queue: the pending counts fall, and the record is freed when the sheet's count is 0
and it is not held (R124, R140, R176). -/
def lowerPending (t : Tag) (s : State) : State :=
  match s.sheet? t with
  | none => s
  | some r =>
    let s1 := (s.modSheet t (fun q => { q with pendingDests := q.pendingDests - 1 })).modBatch r.batch (fun b =>
      { b with deliveriesPending := b.deliveriesPending - 1 })
    if r.pendingDests - 1 = 0 ∧ r.state ≠ .held then freeRecord t s1 else s1

/-- An entry removed before its delivery ended (R166, R177): counted as undelivered. -/
def removeUndelivered (d : Fin 16) (s : State) (e : DeliveryEntry) : State :=
  lowerPending e.sheet (s.modDest d (fun x => { x with undelivered := addSat x.undelivered 1 }))

/-- The batch of an entry's sheet. -/
def entryBatch (s : State) (e : DeliveryEntry) : Option Nat := (s.sheet? e.sheet).map Sheet.batch

end Sys2Proof.Machine
end

