-- ==== Sys2Proof/Machine/Measure.lean ====
section
/-!
DEFINITION. The sheet measurement unit: the sample accumulator, the over test, the trail computation and
working-baseline tracking (chapter 2).
-/

namespace Sys2Proof.Machine

/-- The accumulator opened for a sheet at its lead, with the profile's settings copied (R18). -/
def openAccumulator (t : Tag) (i : Fin 16) (p : Profile) : Accumulator :=
  { sheet := some t, profile := i, guardE := p.guardE, threshold := p.threshold, runLength := p.runLength,
    nominal := p.nominal, tolerance := p.tolerance, m := 0, delay := [], n := 0, sum := 0, run := 0, longest := 0 }

/-- The over test of a counted sample against the working baseline `b` (R20). -/
def sampleOver (threshold b smp : Nat) : Bool := decide (b * threshold ≤ smp * 256) || decide (smp = 4095)

/-- Count a sample that leaves the delay line (R20, R21). -/
def Accumulator.count (b smp : Nat) (a : Accumulator) : Accumulator :=
  let run := if sampleOver a.threshold b smp then a.run + 1 else 0
  { a with n := a.n + 1, sum := a.sum + smp, run := run, longest := max a.longest run }

/-- One sample read for the sheet, with the working baseline `b` as it stands (R19): the leading guard is dropped, later
samples pass through the delay line, and the oldest leaves once the line already held E. -/
def Accumulator.read (b smp : Nat) (a : Accumulator) : Accumulator :=
  let a1 := { a with m := a.m + 1 }
  if a1.m ≤ a.guardE then a1
  else
    let line := a.delay ++ [smp]
    if a.delay.length < a.guardE then { a1 with delay := line }
    else
      match line with
      | [] => a1
      | oldest :: rest => Accumulator.count b oldest { a1 with delay := rest }

/-- The length of a sheet from its elapsed ticks and the lane's pitch (R25). -/
def sheetLength (ticks pitch : Nat) : Nat := min 9999 (ticks * pitch / 4096)

/-- The mean of the counted samples (R28). -/
def Accumulator.mean (a : Accumulator) : Nat := a.sum / a.n

/-- The mean ratio with the working baseline `b`; 0 when nothing was counted (R28). -/
def Accumulator.ratio (b : Nat) (a : Accumulator) : Nat := if a.n = 0 then 0 else min 1023 (a.mean * 256 / b)

/-- The findings of the trail computation added to a sheet's findings (R26, R27, R29). -/
def trailFindings (a : Accumulator) (len : Nat) (f : Findings) : Findings :=
  { f with
    long := f.long || (decide (0 < a.nominal) && decide (a.nominal + a.tolerance < len))
    short := f.short || (decide (0 < a.nominal) && decide (len + a.tolerance < a.nominal))
    double := f.double || decide (a.runLength ≤ a.longest)
    noSample := f.noSample || decide (a.n = 0) }

/-- The bounds of a profile's band (R37). -/
def bandLow (b0 : Nat) : Nat := max 1 (3 * b0 / 4)

def bandHigh (b0 : Nat) : Nat := min 4095 (5 * b0 / 4)

/-- The working baseline moved toward a mean (R37): a sixteenth of the way, truncated toward zero, within the band. -/
def moveBaseline (mean : Nat) (p : Profile) : Nat :=
  max (bandLow p.b0) (min (bandHigh p.b0) ((p.working : Int) + ((mean : Int) - p.working).tdiv 16).toNat)

/-- The update of a profile at a trail computation: with tracking on and no finding (R36, R37). -/
def trackProfile (a : Accumulator) (f : Findings) (p : Profile) : Profile :=
  if p.tracking && decide (f = .empty) then { p with working := moveBaseline a.mean p } else p

/-- The trail computation of sheet `r`, whose trail is captured at `cap` (R24 to R29, R36): the results are written into
the record together, the sheet becomes IMAGING, and the profile may move. -/
def trailComputation (l : Fin 8) (r : Sheet) (cap : Tick) (s : State) : State :=
  let x := s.lane l
  let a := x.acc
  let p := s.profile a.profile
  let len := sheetLength (elapsed (r.lead.getD 0) cap) x.config.pitch
  let f := trailFindings a len r.findings
  ((s.modSheet r.tag (fun q =>
      { q with trail := some cap, length := some len, findings := f, state := .imaging,
               samples := some ⟨a.m, a.n, a.longest, a.ratio p.working⟩ })).modProfile a.profile
      (trackProfile a f)).modLane l (fun y => { y with acc := { y.acc with sheet := none } })

end Sys2Proof.Machine
end

