-- ==== Sys2Proof/Machine/Feed.lean ====
section
/-!
DEFINITION. The feed sequencer's shared operations: jams, picks, leads, the double-feed action check (chapter 3).
-/

namespace Sys2Proof.Machine

/-! ### Jams (R41, R59) -/

/-- The gate holder, if its record is live and unsettled, gets finding JAM (R41). -/
def jamHolder (l : Fin 8) (s : State) : State :=
  match (s.lane l).gateHolder with
  | none => s
  | some t =>
    s.modSheet t (fun q =>
      if q.state.unsettled then { q with findings := { q.findings with jam := true } } else q)

/-- What entering JAMMED does to the lane's lines, deadlines and reasons first (R41): reason, forced lines, spin-up. -/
def Lane.jamLines (reason : JamReason) (x : Lane) : Lane :=
  { x.stopSpin with
    state := .jammed, jamReason := reason, haltReason := .none, pickPulseEnd := none, pickDriven := false,
    divertEnd := none, divertDriven := false }

/-- What it does to the gate, the exit holder and the deadlines of the path (R16, R22, R41). -/
def Lane.jamPath (x : Lane) : Lane :=
  { x with
    sampleDue := none, gateLimit := none, nextPick := .none
    acc := if x.gateHolder.isSome then .empty else x.acc
    gateHolder := none, exitHolder := none
    path := x.path.map (fun e => { e with exitWindow := none }) }

/-- A jam cause (R59): in SPINUP, FEEDING, DRAINING or HALTED the lane enters JAMMED with the effects of R41, and the
settlement cursor is examined (R105, R117). In any other state nothing happens. -/
def jam (l : Fin 8) (reason : JamReason) (s : State) : State :=
  if (s.lane l).state.attributing then
    let s1 := raise (.lane l .jam) (s.modLane l (Lane.jamLines reason))
    pokeLane l ((jamHolder l (freePicking l s1)).modLane l Lane.jamPath)
  else s

/-! ### Picks (R46 to R48) -/

/-- Open sheets of a lane: PICKING, IN_GATE, IMAGING or READY (R46). -/
def openSheets (s : State) (l : Fin 8) : Nat :=
  (s.sheets.filter (fun r => decide (r.tag.lane = l) && (r.state.unsettled || decide (r.state = .picking)))).length

/-- Whether the active batch still feeds by its expected count (condition 4 of R46). -/
def batchFeeds (s : State) (l : Fin 8) : Bool :=
  match s.activeBatch l with
  | none => false
  | some id => decide ((s.batchOf id).expected = 0) || decide ((s.batchOf id).fed < (s.batchOf id).expected)

/-- A FEEDING lane with conditions 1 to 4 of R46. -/
def pickWanted (s : State) (l : Fin 8) : Bool :=
  let x := s.lane l
  decide (x.state = .feeding) && decide (x.nextPick = .passed) && x.picking.isNone &&
    decide (openSheets s l < x.config.depth) && batchFeeds s l

/-- The capacity of the sheet table (R102). -/
def tableCapacity : Nat := 128

/-- Condition 5 of R46: the sheet table has a free record. -/
def tableHasRoom (s : State) : Bool := decide (s.sheets.length < tableCapacity)

/-- Condition 6 of R46: the free blocks number at least the lane's reserve. -/
def reserveFits (s : State) (l : Fin 8) : Bool := decide ((s.lane l).config.reserve ≤ s.free)

/-- Whether every pick condition of R46 holds. -/
def canPick (s : State) (l : Fin 8) : Bool := pickWanted s l && tableHasRoom s && reserveFits s l

/-- The pick-held reason (R46). -/
def pickHeld (s : State) (l : Fin 8) : PickHeld :=
  if pickWanted s l then
    if tableHasRoom s then (if reserveFits s l then .none else .store) else .table
  else .none

/-- The first sequence value, from `q` on, that names no live record of the lane (R102). -/
def freshSequence (s : State) (l : Fin 8) : Nat → Fin 4096 → Fin 4096
  | 0, q => q
  | k + 1, q => if (s.sheet? ⟨l, q⟩).isSome then freshSequence s l k (q + 1) else q

/-- The tag the lane's next record takes (R102). -/
def freshTag (s : State) (l : Fin 8) : Tag := ⟨l, freshSequence s l tableCapacity (s.lane l).sequence⟩

/-- A new record (R48, R52). -/
def Sheet.create (t : Tag) (batch : Nat) (state : SheetState) (f : Findings) (reserve : Nat) : Sheet :=
  { tag := t, batch := batch, state := state, retries := 0, lead := none, trail := none, exitLead := none,
    exitTrail := none, length := none, samples := none, findings := f, pastDivert := false, divertDone := false,
    imageTimeout := false, imageDeadline := none, patch := none, separatorMatch := none, front := [],
    frontLast := false, back := [], backLast := false, reserve := reserve, queueWait := [], outcome := none,
    kind := none, document := none, page := none, routeBank := none, pendingDests := 0 }

/-- Enter a new record into the sheet table and take its reserve; the lane's sequence passes it (R48, R94, R102). -/
def createSheet (l : Fin 8) (batch : Nat) (state : SheetState) (f : Findings) (reserve : Nat) (s : State) : State :=
  let t := freshTag s l
  takeReserve reserve
    ({ s with sheets := s.sheets ++ [Sheet.create t batch state f reserve] }.modLane l
      (fun x => { x with sequence := t.seq + 1 }))

/-- Drive PICK at the counter value of the pick and arm the pulse end and the pick window (R11). -/
def Lane.drivePick (x : Lane) : Lane :=
  { x with
    pickDriven := true
    pickPulseEnd := some (armAt x.counter x.config.pickPulse)
    pickWindow := some (armAt x.counter x.config.pickWindow) }

/-- A pick (R48). -/
def makePick (l : Fin 8) (s : State) : State :=
  match s.activeBatch l with
  | none => s
  | some id =>
    let t := freshTag s l
    (createSheet l id .picking .empty (s.lane l).config.reserve s).modLane l
      (fun x => { x.drivePick with picking := some t })

/-! ### The double-feed action check (R54) -/

/-- The check on a sheet, after its trail computation or at an unexpected lead (R54). -/
def doubleFeedCheck (l : Fin 8) (t : Tag) (s : State) : State :=
  match s.sheet? t with
  | none => s
  | some r =>
    if r.findings.measurement then
      let s1 := raise (.lane l .suspect) s
      if (s.batchOf r.batch).action = .stop ∨ r.pastDivert = true then halt l .suspect s1 else s1
    else s

/-! ### Leads (R6, R51, R52) -/

/-- The lane's side of a lead taken by sheet `t` (R6, R12, R18, R51): the two lists, the gate, its deadlines and the
accumulator. -/
def Lane.takeLead (t : Tag) (i : Fin 16) (p : Profile) (x : Lane) : Lane :=
  { x with
    path := x.path ++ [⟨t, false, none⟩]
    settleOrder := x.settleOrder ++ [t]
    gateHolder := some t
    sampleDue := some (armAt x.counter x.config.sampleInterval)
    gateLimit := some (armAt x.counter x.config.gateLimit)
    acc := openAccumulator t i p }

/-- Whether a batch's fed count has reached its expected count, above 0 (R42, R51). -/
def feedingDone (b : Batch) : Bool := decide (0 < b.expected) && decide (b.fed = b.expected)

/-- A lead taken by the live sheet `t` of batch `id` (R51): stamped, entered in the lists, measured, announced, counted
as fed, which may end the feeding. -/
def takeLead (l : Fin 8) (t : Tag) (id : Nat) (s : State) : State :=
  let i := (s.batchOf id).profile
  let s1 := (s.modSheet t (fun q => { q with lead := some (s.lane l).counter, state := .inGate })).modLane l
    (Lane.takeLead t i (s.profile i))
  let s2 := (sendHead l (announceFrame t) s1).modBatch id (fun b => { b with fed := addSat b.fed 1 })
  if feedingDone (s2.batchOf id) then endFeeding l s2 else s2

/-- An unexpected lead (R52). -/
def unexpectedLead (l : Fin 8) (s : State) : State :=
  match s.activeBatch l with
  | none => jam l .stray s
  | some id =>
    if tableHasRoom s then
      let t := freshTag s l
      let reserve := if reserveFits s l then (s.lane l).config.reserve else 0
      let s1 := createSheet l id .inGate { Findings.empty with unexpected := true } reserve s
      settleLane l (doubleFeedCheck l t (takeLead l t id s1))
    else halt l .tableFull s

/-- The lead of the picking sheet (R6, R51). -/
def pickedLead (l : Fin 8) (t : Tag) (s : State) : State :=
  let id := (s.sheet? t).elim 0 Sheet.batch
  settleLane l (takeLead l t id (s.modLane l (fun x => { x with picking := none, pickWindow := none })))

/-- The capacity of a path order (R53). -/
def pathCapacity : Nat := 128

/-- Attribution of a lead in an attributing state (R6, R53). -/
def attributeLead (l : Fin 8) (s : State) : State :=
  let x := s.lane l
  if pathCapacity ≤ x.path.length then jam l .stray s
  else
    match x.picking with
    | some t => pickedLead l t s
    | none => unexpectedLead l s

end Sys2Proof.Machine
end

