-- ==== Sys2Proof/Machine/Expiries.lean ====
section
/-!
DEFINITION. The commands that are deadline and countdown expiries, and the pick. A deadline expires when the counter is
equal to it (R4); a command for a deadline that is not armed at the counter's value is no expiry and changes nothing
(log 1).
-/

namespace Sys2Proof.Machine

/-- The answer of every command: a next state. -/
abbrev Answer := Host.Outcome State Fault Refusal

/-- Whether a deadline is due: armed at the counter's value (R4). -/
def due (counter : Tick) (d : Option Tick) : Bool := decide (d = some counter)

/-- NEXT_PICK_EXPIRY (R10): an ARMED next pick that is due becomes PASSED. -/
def execNextPickExpiry (l : Fin 8) (s : State) : Answer :=
  .next (if (s.lane l).nextPick = .armed (s.lane l).counter then s.modLane l (fun x => { x with nextPick := .passed }) else s)

/-- PICK_PULSE_END (R11): PICK is released. -/
def execPickPulseEnd (l : Fin 8) (s : State) : Answer :=
  .next (if due (s.lane l).counter (s.lane l).pickPulseEnd then
      s.modLane l (fun x => { x with pickPulseEnd := none, pickDriven := false })
    else s)

/-- The retries of the lane's picking sheet. -/
def pickingRetries (s : State) (l : Fin 8) : Nat :=
  match (s.lane l).picking with
  | none => 0
  | some t => (s.sheet? t).elim 0 Sheet.retries

/-- The pick window of a FEEDING lane has expired (R49): tray empty, a repeated pick, or a misfeed. -/
def feedingWindow (l : Fin 8) (s : State) : State :=
  let x := s.lane l
  if x.trayEmpty then
    let endless := match s.activeBatch l with
      | none => false
      | some id => decide ((s.batchOf id).expected = 0)
    if endless then drainTest l (endFeeding l (freePicking l s)) else halt l .stackShort (freePicking l s)
  else if pickingRetries s l < x.config.retryLimit then
    match x.picking with
    | none => s
    | some t => (s.modSheet t (fun q => { q with retries := q.retries + 1 })).modLane l Lane.drivePick
  else halt l .misfeed (raise (.lane l .misfeed) (freePicking l s))

/-- PICK_WINDOW_EXPIRY (R49, R50). -/
def execPickWindowExpiry (l : Fin 8) (s : State) : Answer :=
  .next (if due (s.lane l).counter (s.lane l).pickWindow then
      let s1 := s.modLane l (fun x => { x with pickWindow := none })
      match (s.lane l).state with
      | .feeding => kickPorts (feedingWindow l s1)
      | .draining | .halted => kickPorts (drainTest l (freePicking l s1))
      | .off | .spinup | .idle | .jammed | .manual => s1
    else s)

/-- The accumulator's own baseline: its profile's working baseline as it stands (R20). -/
def laneBaseline (s : State) (l : Fin 8) : Nat := (s.profile (s.lane l).acc.profile).working

/-- SAMPLE_EXPIRY (R12, R17, R19, R22): one reading, kept as the last sample; the deadline is re-armed at its own value
plus S, unless m has reached 4095. -/
def execSampleExpiry (l : Fin 8) (reading : BitVec 12) (s : State) : Answer :=
  .next (if due (s.lane l).counter (s.lane l).sampleDue then
      s.modLane l (fun x =>
        let a := x.acc.read (laneBaseline s l) reading.toNat
        { x with
          lastSample := reading.toNat
          acc := a
          sampleDue := if a.m = 4095 then none else some (armAt x.counter x.config.sampleInterval) })
    else s)

/-- GATE_LIMIT_EXPIRY (R12, R59): the lane jams with reason GATE. -/
def execGateLimitExpiry (l : Fin 8) (s : State) : Answer :=
  .next (if due (s.lane l).counter (s.lane l).gateLimit then
      kickPorts (jam l .gate (s.modLane l (fun x => { x with gateLimit := none })))
    else s)

/-- IMAGE_DEADLINE_EXPIRY (R13, R107): the image time-out mark, INCOMPLETE when the images are not complete, and the
cursor examined (R105). -/
def execImageDeadlineExpiry (t : Tag) (s : State) : Answer :=
  .next (match s.sheet? t with
    | none => s
    | some r =>
      if due (s.lane t.lane).counter r.imageDeadline then
        let s1 := s.modSheet t (fun q => { q with imageTimeout := true, imageDeadline := none })
        let s2 := if imagesComplete s r then s1 else addIncomplete t s1
        kickPorts (settleLane t.lane s2)
      else s)

/-- EXIT_WINDOW_EXPIRY (R14, R59): a path entry's exit window that is due jams the lane with reason EXIT. -/
def execExitWindowExpiry (l : Fin 8) (s : State) : Answer :=
  .next (if (s.lane l).path.any (fun e => due (s.lane l).counter e.exitWindow) then
      kickPorts (jam l .exit (s.modLane l (fun x =>
        { x with path := x.path.map (fun e => if due x.counter e.exitWindow then { e with exitWindow := none } else e) })))
    else s)

/-- DIVERT_END (R15): DIVERT is released. -/
def execDivertEnd (l : Fin 8) (s : State) : Answer :=
  .next (if due (s.lane l).counter (s.lane l).divertEnd then
      s.modLane l (fun x => { x with divertEnd := none, divertDriven := false })
    else s)

/-- END_OF_SPINUP (R44, R79): the lane moves to its spin-up target. -/
def execEndOfSpinup (l : Fin 8) (s : State) : Answer :=
  .next (if (s.lane l).state = .spinup ∧ (s.lane l).spinRemaining = some 0 then
      match (s.lane l).spinTarget with
      | some .feeding => s.modLane l (fun x => { x.stopSpin with state := .feeding })
      | some .idle => s.modLane l Lane.enterIdle
      | none => s.modLane l Lane.stopSpin
    else s)

/-- IDLE_COUNTDOWN_EXPIRY (R80): the lane enters OFF and OFF is flagged. -/
def execIdleCountdownExpiry (l : Fin 8) (s : State) : Answer :=
  .next (if (s.lane l).state = .idle ∧ (s.lane l).idleRemaining = some 0 then
      kickPorts (raise (.lane l .off) (s.modLane l Lane.enterOff))
    else s)

/-- PICK (R46, R48): once every pick condition holds. -/
def execPick (l : Fin 8) (s : State) : Answer :=
  .next (if canPick s l then kickPorts (makePick l s) else s)

end Sys2Proof.Machine
end

