-- ==== Sys2Proof/Machine/Edges.lean ====
section
/-!
DEFINITION. The commands that are changes on lane lines (R5 to R9, R71, R74 to R76) and the inputs of the lane link
(R85 to R92).
-/

namespace Sys2Proof.Machine

/-! ### ENTRY and EXIT -/

/-- LEAD (R5, R6): an edge of ENTRY to active is captured and, in an attributing state, attributed. -/
def execLead (l : Fin 8) (s : State) : Answer :=
  .next (match (s.lane l).edgeTo .entry true with
    | none => s
    | some x =>
      let s1 := s.setLane l { x with lastLead := x.counter }
      if x.state.attributing then kickPorts (attributeLead l s1) else s1)

/-- Arm the exit window of the first entry of a tag that has not exited (R7, R14). -/
def armExitWindow (t : Tag) (at_ : Tick) : List PathEntry → List PathEntry
  | [] => []
  | e :: rest =>
    if e.tag = t ∧ e.exited = false then { e with exitWindow := some at_ } :: rest else e :: armExitWindow t at_ rest

/-- The lane's side of an attributed trail (R7, R10, R12, R14, R55). -/
def Lane.takeTrail (t : Tag) (x : Lane) : Lane :=
  { x with
    gateHolder := none, sampleDue := none, gateLimit := none
    nextPick := .armed (armAt x.counter x.config.gap)
    path := armExitWindow t (armAt x.counter x.config.exitWindow) x.path }

/-- Attribution of a trail to the gate holder `t` (R7, R24, R54, R55): an unsettled sheet is measured, becomes IMAGING
with its image deadline armed, and is checked; a settled one is only stamped, if its record is live. -/
def attributeTrail (l : Fin 8) (t : Tag) (s : State) : State :=
  let x := s.lane l
  let s1 := s.modLane l (Lane.takeTrail t)
  match s.sheet? t with
  | none => s1
  | some r =>
    if r.state.unsettled then
      let s2 := trailComputation l r x.counter s1
      let s3 := s2.modSheet t (fun q => { q with imageDeadline := some (armAt x.counter x.config.imageWindow) })
      settleLane l (doubleFeedCheck l t s3)
    else s1.modSheet t (fun q => { q with trail := some x.counter })

/-- TRAIL (R5, R7): an edge of ENTRY to inactive. -/
def execTrail (l : Fin 8) (s : State) : Answer :=
  .next (match (s.lane l).edgeTo .entry false with
    | none => s
    | some x =>
      let s1 := s.setLane l { x with lastTrail := x.counter }
      match x.gateHolder with
      | none => s1
      | some t => if x.state.attributing then kickPorts (attributeTrail l t s1) else s1)

/-- Mark the exit cursor, the first entry without the exited mark, and cancel its exit window (R8, R53). -/
def markExited : List PathEntry → List PathEntry
  | [] => []
  | e :: rest => if e.exited then e :: markExited rest else { e with exited := true, exitWindow := none } :: rest

/-- Whether a sheet at its exit lead is to be diverted (R57). -/
def toDivert (s : State) (r : Sheet) : Bool :=
  r.state.unsettled && !r.pastDivert && decide ((s.batchOf r.batch).action = .divert) && r.findings.measurement

/-- The divert and past-divert rules at the exit lead of sheet `t` (R8, R56, R57). -/
def divertSheet (l : Fin 8) (t : Tag) (s : State) : State :=
  let x := s.lane l
  match s.sheet? t with
  | none => s
  | some r =>
    if x.gateHolder = some t then s.modSheet t (fun q => { q with pastDivert := true })
    else if toDivert s r then
      settleLane l ((s.modSheet t (fun q => { q with divertDone := true })).modLane l (fun y =>
        { y with divertDriven := true, divertEnd := some (armAt y.counter y.config.divertPulse) }))
    else s

/-- Attribution of an exit lead through the exit cursor (R8, R56). -/
def attributeExitLead (l : Fin 8) (s : State) : State :=
  let x := s.lane l
  match x.path.find? (fun e => !e.exited) with
  | none => jam l .stray s
  | some e =>
    let s1 := s.modLane l (fun y => { y with path := markExited y.path, exitHolder := some e.tag })
    divertSheet l e.tag (s1.modSheet e.tag (fun q => { q with exitLead := some x.counter }))

/-- EXIT_LEAD (R5, R8): an edge of EXIT to active. -/
def execExitLead (l : Fin 8) (s : State) : Answer :=
  .next (match (s.lane l).edgeTo .exit true with
    | none => s
    | some x =>
      let s1 := s.setLane l { x with lastExitLead := x.counter }
      if x.state.attributing then kickPorts (attributeExitLead l s1) else s1)

/-- Attribution of an exit trail to the exit holder (R9, R58). -/
def attributeExitTrail (l : Fin 8) (t : Tag) (s : State) : State :=
  let x := s.lane l
  drainTest l ((s.modSheet t (fun q => { q with exitTrail := some x.counter })).modLane l (fun y =>
    { y with exitHolder := none, path := y.path.eraseP (fun e => decide (e.tag = t) && e.exited) }))

/-- EXIT_TRAIL (R5, R9): an edge of EXIT to inactive. -/
def execExitTrail (l : Fin 8) (s : State) : Answer :=
  .next (match (s.lane l).edgeTo .exit false with
    | none => s
    | some x =>
      let s1 := s.setLane l { x with lastExitTrail := x.counter }
      match x.exitHolder with
      | none => s1
      | some t => if x.state.attributing then kickPorts (attributeExitTrail l t s1) else s1)

/-! ### COVER, TRAY and SPARE -/

/-- What the COVER condition becoming active does by lane state (R76). -/
def coverOpened (l : Fin 8) (s : State) : State :=
  match (s.lane l).state with
  | .spinup | .feeding | .draining | .halted => jam l .interlock s
  | .idle => raise (.lane l .off) (s.modLane l Lane.enterOff)
  | .off | .jammed | .manual => s

/-- COVER_ACTIVE (R76): an edge of COVER to active. -/
def execCoverActive (l : Fin 8) (s : State) : Answer :=
  .next (match (s.lane l).edgeTo .cover true with
    | none => s
    | some x => kickPorts (coverOpened l (s.setLane l x)))

/-- COVER_INACTIVE (R76): an edge of COVER to inactive changes no lane state. -/
def execCoverInactive (l : Fin 8) (s : State) : Answer :=
  .next (match (s.lane l).edgeTo .cover false with
    | none => s
    | some x => s.setLane l x)

/-- TRAY_EDGE (R71): the line's other level is sensed, and nobody is told. -/
def execTrayEdge (l : Fin 8) (s : State) : Answer :=
  .next (match (s.lane l).edgeTo .tray (!(s.lane l).trayEmpty) with
    | none => s
    | some x => s.setLane l x)

/-- SPARE_EDGE (R74, R75): an edge of a SPARE input; to active, it sets the lane's SPARE flag in either mode. -/
def execSpareEdge (l : Fin 8) (line : Fin 8) (s : State) : Answer :=
  let r := (s.lane l).line line
  .next (if r.role = .spare ∧ r.spareDirection = .input then
      let s1 := s.setLane l ((s.lane l).setLine line { r with sensed := r.sensed.opposite })
      if r.isActive then s1 else kickPorts (raise (.lane l .spare) s1)
    else s)

/-! ### The lane link -/

/-- LINK_STATE_CHANGE (R85). -/
def execLinkStateChange (l : Fin 8) (up : Bool) (s : State) : Answer :=
  .next (s.modLane l (fun x => { x with linkUp := up }))

/-- The live record a head's frame names, when its tag is of this lane and the sheet is unsettled past its lead: checks
1 and 2 (R88, R92). -/
def intakeSheet (s : State) (l : Fin 8) (tag : Nat) : Option Sheet :=
  match tagOf tag with
  | none => none
  | some t =>
    if t.lane = l then
      match s.sheet? t with
      | none => none
      | some r => if r.state.unsettled then some r else none
    else none

/-- The orphan outcome (R88). -/
def orphanStrip (l : Fin 8) (s : State) : State :=
  raise (.lane l .orphan) (s.modLane l (fun x => { x with orphans := addSat x.orphans 1 }))

/-- Checks 3 and 4 of a strip (R89). -/
def stripInTurn (s : State) (r : Sheet) (side : Side) (index : Nat) : Bool :=
  match side with
  | .front => !r.frontLast && decide (index = r.front.length) && decide (index < 128)
  | .back =>
    decide ((s.batchOf r.batch).sides = .duplex) && !r.backLast && decide (index = r.back.length) &&
      decide (index < 128)

/-- A STRIP frame taken whole (R88 to R91): orphan, dropped with INCOMPLETE, or filed; a strip that completes the images
has the cursor examined. -/
def takeStrip (l : Fin 8) (tag : Nat) (side : Side) (index : Nat) (last : Bool) (payload : List Byte) (s : State) :
    State :=
  match intakeSheet s l tag with
  | none => orphanStrip l s
  | some r =>
    if stripInTurn s r side index then
      match blockSource s r with
      | .nowhere => addIncomplete r.tag s
      | src =>
        let s1 := fileStrip src r.tag side last payload s
        if !imagesComplete s r && imagesComplete s (Sheet.addStrip side 0 last r) then settleLane l s1 else s1
    else addIncomplete r.tag s

/-- A PATCH frame taken whole (R92): the first word of an unsettled sheet is stored. -/
def takePatch (l : Fin 8) (tag : Nat) (word : BitVec 32) (s : State) : State :=
  match intakeSheet s l tag with
  | none => s
  | some r => s.modSheet r.tag (fun q => { q with patch := some (q.patch.getD word) })

/-- A malformed frame (R85). -/
def countMalformed (l : Fin 8) (s : State) : State := s.modLane l (fun x => { x with malformed := addSat x.malformed 1 })

/-- A frame from the head is handled by what its bytes are (R85, R199), whichever row brought it (log 20). -/
def laneFrameArrives (l : Fin 8) (frame : List Byte) (s : State) : State :=
  match readLaneFrame frame with
  | .strip tag side index last payload => kickPorts (takeStrip l tag side index last payload s)
  | .patch tag word => takePatch l tag word s
  | .malformed => countMalformed l s

/-- STRIP (R89). -/
def execStrip (l : Fin 8) (frame : List Byte) (s : State) : Answer := .next (laneFrameArrives l frame s)

/-- PATCH (R92). -/
def execPatch (l : Fin 8) (frame : List Byte) (s : State) : Answer := .next (laneFrameArrives l frame s)

/-- MALFORMED_FRAME (R85). -/
def execMalformedFrame (l : Fin 8) (frame : List Byte) (s : State) : Answer := .next (laneFrameArrives l frame s)

end Sys2Proof.Machine
end

