-- ==== Sys2Proof/Machine/Station.lean ====
section
/-!
DEFINITION. The station interface: frames arriving at the archive ports, admission to the directive queue, execution of
the oldest waiting directive, replies (sections 10.1 and 10.2), and the commands UNKNOWN, CREDIT and
DISCARDED_STATION_FRAME.
-/

namespace Sys2Proof.Machine

/-! ### Admission (R183) -/

/-- The directive queue's places in use: directives waiting, and executed ones whose reply has not begun (R183). -/
def queuePlaces (s : State) : Nat :=
  s.dirQueue.length + (s.portA.replies.countP Reply.holdsPlace) + (s.portB.replies.countP Reply.holdsPlace)

/-- The places of a port's reply list in use: held by a waiting reply, or reserved for a directive waiting for
execution that arrived on the port (R183). -/
def replyPlaces (s : State) (p : Port) : Nat :=
  (s.port p).replies.length + s.dirQueue.countP (fun d => decide (d.port = p))

/-- The newest waiting reply of a port (R184). -/
def pushReply (p : Port) (r : Reply) (s : State) : State := s.modPort p (fun q => { q with replies := q.replies ++ [r] })

/-- The reply BUSY to a directive that was not carried out; it holds no place of the directive queue (R183, R193). -/
def busyReply (d : Directive) : Reply :=
  { addressee := d.source, number := d.number, code := d.code, result := .busy, data := [], holdsPlace := false }

/-- A directive arrives: admitted, answered BUSY, or discarded and counted (R183). -/
def offerDirective (d : Directive) (s : State) : State :=
  if replyPlaces s d.port < 16 then
    if queuePlaces s < 8 then { s with dirQueue := s.dirQueue ++ [d] } else pushReply d.port (busyReply d) s
  else s.modPort d.port (fun q => { q with unanswered := addSat q.unanswered 1 })

/-! ### Credit (R169) -/

/-- The enabled destination a credit frame reaches: by its source address and the port it arrived on (R169). -/
def creditedDest (s : State) (p : Port) (source : Addr) : Option (Fin 16) :=
  allDests.find? (fun d => (s.dest d).enabled && decide ((s.dest d).addr = source) && decide ((s.dest d).port = p))

/-- A credit frame (R169). -/
def takeCredit (p : Port) (source : Addr) (count : Nat) (s : State) : State :=
  if 1 ≤ count ∧ count ≤ 4095 then
    match creditedDest s p source with
    | none => s
    | some d => s.modDest d (fun x => { x with credit := min 4095 (x.credit + count) })
  else s

/-! ### Frames arriving (R182) -/

/-- A frame that arrived complete on a port is handled by what its bytes are, while the port's link is UP (R182),
whichever row brought it (log 20). -/
def stationFrameArrives (p : Port) (frame : List Byte) (s : State) : State :=
  if (s.port p).linkUp then
    match readStationFrame (ownAddr s.straps) p frame with
    | .directive d => kickPorts (offerDirective d s)
    | .credit source count => kickPorts (takeCredit p source count s)
    | .discarded => s
  else s

/-- DIRECTIVE (R183). -/
def execDirective (p : Port) (frame : List Byte) (s : State) : Answer := .next (stationFrameArrives p frame s)

/-- CREDIT (R169). -/
def execCredit (p : Port) (frame : List Byte) (s : State) : Answer := .next (stationFrameArrives p frame s)

/-- DISCARDED_STATION_FRAME (R182). -/
def execDiscardedStationFrame (p : Port) (frame : List Byte) (s : State) : Answer :=
  .next (stationFrameArrives p frame s)

/-! ### Execution (R184) -/

/-- The directive rows of the table: what a waiting directive executes as. -/
inductive DirectiveRow where
  | unknown | laneSet | laneStart | lanePause | laneResume | laneClear | laneManualEnter | laneManualLeave | laneRead
  | linesMap | linesSet | linesRead | lanePowerOff | lanePowerIdle | lanePowerSet | lanePowerStandby | profileLoad
  | profileRead | storeSet | storeRead | resolveAccept | resolveReview | resolveDiscard | heldList | sheetRead
  | batchOpen | batchClose | batchAbort | batchRead | separatorLoad | separatorRead | routeLoad | routeSwap | routeRead
  | destSet | destEnable | destDisable | destRead | portRead | reportSet | eventsRead | eventsClear | restart
  deriving DecidableEq, Repr

/-- The row of a waiting directive: its code (R195), and for LANE_MANUAL, LANE_POWER and RESOLVE its choice or form byte
(R197). One whose choice is undefined or missing belongs to the first row of its code, which refuses it (log 18). -/
def Directive.row (d : Directive) : DirectiveRow :=
  match d.code.toNat with
  | 0x01 => .laneSet
  | 0x02 => .laneStart
  | 0x03 => .lanePause
  | 0x04 => .laneResume
  | 0x05 => .laneClear
  | 0x06 => if rd d.params 1 1 = 1 then .laneManualLeave else .laneManualEnter
  | 0x07 => .laneRead
  | 0x08 => .linesMap
  | 0x09 => .linesSet
  | 0x0A => .linesRead
  | 0x0B =>
    match rd d.params 1 1 with
    | 1 => .lanePowerIdle
    | 2 => .lanePowerSet
    | 3 => .lanePowerStandby
    | _ => .lanePowerOff
  | 0x0C => .profileLoad
  | 0x0D => .profileRead
  | 0x0E => .storeSet
  | 0x0F => .storeRead
  | 0x10 =>
    match rd d.params 2 1 with
    | 1 => .resolveReview
    | 2 => .resolveDiscard
    | _ => .resolveAccept
  | 0x11 => .heldList
  | 0x12 => .sheetRead
  | 0x13 => .batchOpen
  | 0x14 => .batchClose
  | 0x15 => .batchAbort
  | 0x16 => .batchRead
  | 0x17 => .separatorLoad
  | 0x18 => .separatorRead
  | 0x19 => .routeLoad
  | 0x1A => .routeSwap
  | 0x1B => .routeRead
  | 0x1C => .destSet
  | 0x1D => .destEnable
  | 0x1E => .destDisable
  | 0x1F => .destRead
  | 0x20 => .portRead
  | 0x21 => .reportSet
  | 0x22 => .eventsRead
  | 0x23 => .eventsClear
  | 0x24 => .restart
  | _ => .unknown

/-- What an executed directive gives: its result code, its reply data, and the state it leaves. -/
structure Executed where
  result : Result
  data : List Byte
  state : State

/-- A refused directive changes nothing, and its reply carries no data (R184, R185). -/
def refuse (r : Result) (s : State) : Executed := ⟨r, [], s⟩

/-- An accepted directive without reply data. -/
def accept (s : State) : Executed := ⟨.ok, [], s⟩

/-- An accepted directive that reads. -/
def answerData (data : List Byte) (s : State) : Executed := ⟨.ok, data, s⟩

/-- OK, or CLAMPED when a setting had to be brought into range (R185). -/
def acceptClamped (clamped : Bool) (s : State) : Executed := ⟨if clamped then .clamped else .ok, [], s⟩

/-- The oldest directive waiting for execution, when it is of a row, with the state without it (R184). -/
def takeDirective (row : DirectiveRow) (s : State) : Option (Directive × State) :=
  match s.dirQueue with
  | [] => none
  | d :: rest => if d.row = row then some (d, { s with dirQueue := rest }) else none

/-- The reply to an executed directive: it echoes number and code, and holds the directive's place until its
transmission begins (R183, R184). -/
def replyTo (d : Directive) (r : Result) (data : List Byte) : Reply :=
  { addressee := d.source, number := d.number, code := d.code, result := r, data := data, holdsPlace := true }

/-- Execute the oldest waiting directive when it is of a row (R184): `body` gives the result, the data and the effects;
the reply takes the reserved place as the newest waiting reply of the arriving port. With no such directive there is
nothing to execute and nothing changes (log 1). The free index passes on, for the reply's free bytes (log 29). -/
def runDirective (row : DirectiveRow) (body : List Byte → State → Executed) (s : State) : State :=
  match takeDirective row s with
  | none => s
  | some (d, s1) =>
    let o := body d.params s1
    kickPorts (pushReply d.port (replyTo d o.result o.data) { o.state with freeIndex := o.state.freeIndex + 1 })

/-- The length check of directives whose rules do not check length themselves (R184, R197). -/
def withLength (n : Nat) (body : List Byte → State → Executed) : List Byte → State → Executed :=
  fun ps s => if ps.length = n then body ps s else refuse .length s

/-- The check of the lane number, before any other (R60). -/
def withLane (body : Fin 8 → List Byte → State → Executed) : List Byte → State → Executed :=
  fun ps s =>
    match laneOf (rd ps 0 1) with
    | none => refuse .range s
    | some l => body l ps s

/-- The check of an item number 0..15. -/
def withSixteen (body : Fin 16 → List Byte → State → Executed) : List Byte → State → Executed :=
  fun ps s =>
    match sixteenOf (rd ps 0 1) with
    | none => refuse .range s
    | some d => body d ps s

/-- UNKNOWN (R184): a code that names no directive. -/
def execUnknown (s : State) : Answer := .next (runDirective .unknown (fun _ s => refuse .unknown s) s)

end Sys2Proof.Machine
end

