-- ==== Sys2Proof/Machine/LaneDirectives.lean ====
section
/-!
DEFINITION. The lane directives of chapter 3: LANE_SET, LANE_START, LANE_PAUSE, LANE_RESUME, LANE_CLEAR and LANE_MANUAL.
-/

namespace Sys2Proof.Machine

/-! ### LANE_SET (R2, R3, R30, R45) -/

/-- The settings a LANE_SET carries, as carried (R197), with the prescale its byte names. -/
def carriedConfig (ps : List Byte) (pre : Prescale) : LaneConfig :=
  { prescale := pre, gap := rd ps 2 3, pickPulse := rd ps 5 3, pickWindow := rd ps 8 3, sampleInterval := rd ps 11 2,
    gateLimit := rd ps 13 3, imageWindow := rd ps 16 3, exitWindow := rd ps 19 3, divertPulse := rd ps 22 3,
    depth := rd ps 25 1, retryLimit := rd ps 26 1, reserve := rd ps 27 2, pitch := rd ps 29 2 }

/-- Each setting brought into its range (R3, R30, R45). -/
def LaneConfig.clamp (c : LaneConfig) : LaneConfig :=
  { prescale := c.prescale
    gap := clampTo 1 524287 c.gap
    pickPulse := clampTo 1 524287 c.pickPulse
    pickWindow := clampTo 1 524287 c.pickWindow
    sampleInterval := clampTo 1 1023 c.sampleInterval
    gateLimit := clampTo 1 524287 c.gateLimit
    imageWindow := clampTo 1 524287 c.imageWindow
    exitWindow := clampTo 1 524287 c.exitWindow
    divertPulse := clampTo 1 524287 c.divertPulse
    depth := clampTo 1 6 c.depth
    retryLimit := min 7 c.retryLimit
    reserve := clampTo 1 256 c.reserve
    pitch := clampTo 1 65535 c.pitch }

/-- Store a configuration; a prescale change sets the partial count to 0 (R2). -/
def Lane.storeConfig (c : LaneConfig) (x : Lane) : Lane :=
  { x with config := c, partialCount := if c.prescale = x.config.prescale then x.partialCount else 0 }

/-- The states in which a change of prescale or depth is accepted (R2, R45). -/
def LaneState.atRest : LaneState → Bool
  | .off | .idle => true
  | .spinup | .feeding | .draining | .halted | .jammed | .manual => false

/-- The effect of LANE_SET (R2, R45). An undefined prescale is refused with RANGE before a depth change is refused with
STATE: the model's choice (log 30). -/
def laneSet (l : Fin 8) (ps : List Byte) (s : State) : Executed :=
  match Prescale.ofCode (rd ps 1 1) with
  | none => refuse .range s
  | some pre =>
    let x := s.lane l
    let raw := carriedConfig ps pre
    let c := raw.clamp
    if (c.prescale ≠ x.config.prescale ∨ c.depth ≠ x.config.depth) ∧ x.state.atRest = false then refuse .state s
    else acceptClamped (decide (c ≠ raw)) (s.modLane l (Lane.storeConfig c))

/-- LANE_SET (R45). -/
def execLaneSet (s : State) : Answer := .next (runDirective .laneSet (withLength 31 (withLane laneSet)) s)

/-! ### LANE_START, LANE_PAUSE, LANE_RESUME (R61 to R63) -/

/-- Whether the map has ENTRY, EXIT, MOTOR and PICK (R61, R63). -/
def Lane.canFeed (x : Lane) : Bool := x.hasRole .entry && x.hasRole .exit && x.hasRole .motor && x.hasRole .pick

/-- Whether the held-sheet list holds a sheet of the lane (R61, R63). -/
def laneHeld (s : State) (l : Fin 8) : Bool := s.held.any (fun h => decide (h.tag.lane = l))

/-- LANE_START (R61, R130): checks in their order; the head batch becomes FEEDING, the next pick PASSED, and the lane
enters SPINUP from OFF or FEEDING from IDLE. -/
def laneStart (l : Fin 8) (_ : List Byte) (s : State) : Executed :=
  let x := s.lane l
  if x.state.atRest = false then refuse .state s
  else if x.canFeed = false then refuse .config s
  else if x.coverCondition then refuse .interlock s
  else if laneHeld s l then refuse .heldPending s
  else
    match x.batchQueue with
    | [] => refuse .notFound s
    | id :: _ =>
      if (s.batchOf id).action = .divert ∧ x.hasRole .divert = false then refuse .config s
      else
        accept ((s.modBatch id (fun b => { b with state := .feeding })).modLane l (fun y =>
          let z := { y with drainCause := .none, haltReason := .none, nextPick := .passed }
          if y.state = .off then z.enterSpinup .feeding else { z with state := .feeding, idleRemaining := none }))

/-- LANE_START (R61). -/
def execLaneStart (s : State) : Answer := .next (runDirective .laneStart (withLength 1 (withLane laneStart)) s)

/-- The states in which LANE_PAUSE is accepted (R62). -/
def Lane.canPause (x : Lane) : Bool :=
  decide (x.drainCause = .none) &&
    (match x.state with
     | .feeding | .halted => true
     | .spinup => decide (x.spinTarget = some .feeding)
     | .off | .idle | .draining | .jammed | .manual => false)

/-- LANE_PAUSE (R42, R62, R130): the drain cause becomes PAUSE, the batch DRAINING, the lane DRAINING, and the drain is
tested. -/
def lanePause (l : Fin 8) (_ : List Byte) (s : State) : Executed :=
  if (s.lane l).canPause then
    let s1 : State := match s.activeBatch l with
      | none => s
      | some id => s.modBatch id (fun b => if b.state = .feeding then { b with state := .draining } else b)
    accept (drainTest l (s1.modLane l (fun x => { x.enterDraining with drainCause := .pause })))
  else refuse .state s

/-- LANE_PAUSE (R62). -/
def execLanePause (s : State) : Answer := .next (runDirective .lanePause (withLength 1 (withLane lanePause)) s)

/-- LANE_RESUME (R63). -/
def laneResume (l : Fin 8) (_ : List Byte) (s : State) : Executed :=
  let x := s.lane l
  if x.state ≠ .halted then refuse .state s
  else if x.canFeed = false then refuse .config s
  else if x.coverCondition then refuse .interlock s
  else if laneHeld s l then refuse .heldPending s
  else if x.drainCause = .none then
    accept (s.modLane l (fun y => { y with state := .feeding, haltReason := .none }))
  else accept (drainTest l (s.modLane l Lane.enterDraining))

/-- LANE_RESUME (R63). -/
def execLaneResume (s : State) : Answer := .next (runDirective .laneResume (withLength 1 (withLane laneResume)) s)

/-! ### LANE_CLEAR (R64) -/

/-- Settle every sheet of the settlement order DISCARDED, oldest lead first (step 2 of R64). -/
def discardOrder (l : Fin 8) (s : State) : State :=
  (s.lane l).settleOrder.foldl (fun acc t => settleDiscarded l t acc) s

/-- Step 3 of R64, with the deadlines of R16: the path order is emptied, the gate's deadlines cancelled, the holders
made absent. -/
def Lane.clearPath (x : Lane) : Lane :=
  { x with settleOrder := [], path := [], gateLimit := none, sampleDue := none, gateHolder := none, exitHolder := none }

/-- LANE_CLEAR (R64). A lane neither JAMMED nor HALTED whose COVER is active is refused with STATE, not INTERLOCK: the
model's choice (log 30). -/
def laneClear (l : Fin 8) (_ : List Byte) (s : State) : Executed :=
  let x := s.lane l
  if x.state ≠ .jammed ∧ x.state ≠ .halted then refuse .state s
  else if x.coverCondition then refuse .interlock s
  else
    let s1 := discardOrder l (freePicking l s)
    let s2 := s1.modLane l (fun y => { y.clearPath.enterIdle with haltReason := .none, jamReason := .none })
    accept (batchLeaves l s2)

/-- LANE_CLEAR (R64). -/
def execLaneClear (s : State) : Answer := .next (runDirective .laneClear (withLength 1 (withLane laneClear)) s)

/-! ### LANE_MANUAL (R65) -/

/-- A next pick that is not armed; an ARMED one becomes NONE, as at every other cancelling of it (R16). -/
def NextPick.disarmed : NextPick → NextPick
  | .armed _ => .none
  | .none => .none
  | .passed => .passed

/-- A lane with no armed pick, sample, gate-limit, exit-window or divert deadline and no sheet in its gate, as R65 has it
in MANUAL. -/
def Lane.disarmed (x : Lane) : Lane :=
  { x with
    nextPick := x.nextPick.disarmed, pickPulseEnd := none, pickDriven := false, pickWindow := none, sampleDue := none
    gateLimit := none, gateHolder := none, path := x.path.map (fun e => { e with exitWindow := none })
    divertEnd := none, divertDriven := false }

/-- LANE_MANUAL ENTER (R11, R15, R65): from OFF; the drive latches are cleared, and no deadline stays armed. An undefined
choice is refused with RANGE (R196). That an ARMED next pick becomes NONE, and a gate holder left by a sheet that settled
in the gate absent, is the model's choice (log 31). -/
def laneManualEnter (l : Fin 8) (ps : List Byte) (s : State) : Executed :=
  if rd ps 1 1 ≠ 0 then refuse .range s
  else if (s.lane l).state ≠ .off then refuse .state s
  else accept (s.modLane l (fun x => { x.clearDriveLatches.disarmed with state := .manual }))

/-- LANE_MANUAL ENTER (R65). -/
def execLaneManualEnter (s : State) : Answer :=
  .next (runDirective .laneManualEnter (withLength 2 (withLane laneManualEnter)) s)

/-- LANE_MANUAL LEAVE (R65). -/
def laneManualLeave (l : Fin 8) (_ : List Byte) (s : State) : Executed :=
  if (s.lane l).state ≠ .manual then refuse .state s
  else
    accept (s.modLane l (fun x =>
      { x.clearDriveLatches with
        state := .off, pickPulseEnd := none, pickDriven := false, divertEnd := none, divertDriven := false }))

/-- LANE_MANUAL LEAVE (R65). -/
def execLaneManualLeave (s : State) : Answer :=
  .next (runDirective .laneManualLeave (withLength 2 (withLane laneManualLeave)) s)

end Sys2Proof.Machine
end

