-- ==== Sys2Proof/Machine/LineDirectives.lean ====
section
/-!
DEFINITION. The line and power directives of chapter 4: LINES_MAP, LINES_SET, LINES_READ and the four forms of
LANE_POWER.
-/

namespace Sys2Proof.Machine

/-! ### LINES_MAP (R69) -/

/-- The role a LINES_MAP names for line `n` (R197). -/
def mapRole (ps : List Byte) (n : Fin 8) : Option Role := Role.ofCode (rd ps (1 + 2 * n.val) 1)

/-- The active level a LINES_MAP names for line `n` (R197). -/
def mapLevel (ps : List Byte) (n : Fin 8) : Option Level := Level.ofCode (rd ps (2 + 2 * n.val) 1)

/-- Whether every entry names a role and a level, and no role but SPARE is named twice (R69, R196). -/
def mapInRange (ps : List Byte) : Bool :=
  allLines.all (fun n => (mapRole ps n).isSome && (mapLevel ps n).isSome) &&
  allLines.all (fun n => allLines.all (fun k =>
    decide (n = k) || decide (mapRole ps n ≠ mapRole ps k) || decide (mapRole ps n = some .spare)))

/-- A line under a new role and active level (R69): a changed role clears latch and event mode, and a line that becomes
SPARE is INPUT; an input's sensed level is taken afresh from the pin (R71). -/
def Line.remap (pins : BitVec 8) (n : Nat) (role : Role) (lvl : Level) (r : Line) : Line :=
  let q : Line :=
    if role = r.role then { r with activeLevel := lvl }
    else
      { r with
        role := role, activeLevel := lvl, latch := false, mode := .edge
        spareDirection := if role = .spare then .input else r.spareDirection }
  if q.direction = .input then { q with sensed := pinLevel pins n } else q

/-- The lane with the carried map (R69). -/
def Lane.remap (pins : BitVec 8) (ps : List Byte) (x : Lane) : Lane :=
  { x with lines := Vector.ofFn (fun n : Fin 8 =>
      (x.line n).remap pins n.val ((mapRole ps n).getD .spare) ((mapLevel ps n).getD .high)) }

/-- LINES_MAP (R69, R75): checked whole, then stored; a LEVEL-mode SPARE input that is active sets SPARE. An undefined
role or level byte (R196), which R69's checks do not place, is refused with RANGE before the check for STATE: the model's
choice (log 30). -/
def linesMap (pins : BitVec 8) (l : Fin 8) (ps : List Byte) (s : State) : Executed :=
  if mapInRange ps = false then refuse .range s
  else if (s.lane l).state ≠ .off then refuse .state s
  else
    let s1 := s.modLane l (Lane.remap pins ps)
    accept (if (s1.lane l).holdsSpare then raise (.lane l .spare) s1 else s1)

/-- LINES_MAP (R69). -/
def execLinesMap (pins : BitVec 8) (s : State) : Answer :=
  .next (runDirective .linesMap (withLength 17 (withLane (linesMap pins))) s)

/-! ### LINES_SET (R72) -/

/-- One entry of a LINES_SET as carried (R197). -/
structure LineSetting where
  line : Nat
  parts : Nat
  direction : Nat
  latch : Nat
  mode : Nat
  deriving DecidableEq, Repr

/-- The `i`-th entry of a LINES_SET. -/
def lineSettingAt (ps : List Byte) (i : Nat) : LineSetting :=
  ⟨rd ps (2 + 5 * i) 1, rd ps (3 + 5 * i) 1, rd ps (4 + 5 * i) 1, rd ps (5 + 5 * i) 1, rd ps (6 + 5 * i) 1⟩

/-- The parts an entry holds: direction, latch, event mode (R197). -/
def LineSetting.hasDirection (e : LineSetting) : Bool := e.parts.testBit 0

def LineSetting.hasLatch (e : LineSetting) : Bool := e.parts.testBit 1

def LineSetting.hasMode (e : LineSetting) : Bool := e.parts.testBit 2

/-- Checks 2 to 4 of R72 for one entry, with every part in its defined values (R196). -/
def LineSetting.inRange (x : Lane) (e : LineSetting) : Bool :=
  match laneOf e.line with
  | none => false
  | some n =>
    let role := (x.line n).role
    (!e.hasDirection || (decide (role = .spare) && (Direction.ofCode e.direction).isSome)) &&
    (!e.hasMode || (decide (role = .spare) && (EventMode.ofCode e.mode).isSome)) &&
    (!e.hasLatch || (!role.isSense && (latchOfCode e.latch).isSome))

/-- Check 5 of R72 for one entry: a latch for a drive-role line outside MANUAL. -/
def LineSetting.latchBarred (x : Lane) (e : LineSetting) : Bool :=
  match laneOf e.line with
  | none => false
  | some n => e.hasLatch && (x.line n).role.isDrive && decide (x.state ≠ .manual)

/-- A line with an entry's parts (R72): the latch first, then the event mode, then the direction; a line that turns
input takes its sensed level from the pin (R71). -/
def Line.set (pins : BitVec 8) (n : Nat) (e : LineSetting) (r : Line) : Line :=
  let r1 := if e.hasLatch then { r with latch := (latchOfCode e.latch).getD r.latch } else r
  let r2 := if e.hasMode then { r1 with mode := (EventMode.ofCode e.mode).getD r1.mode } else r1
  if e.hasDirection then
    let d := (Direction.ofCode e.direction).getD r2.spareDirection
    { r2 with
      spareDirection := d
      sensed := if d = .input ∧ r2.spareDirection = .output then pinLevel pins n else r2.sensed }
  else r2

/-- Apply one entry (R72, R75): a line that becomes a LEVEL-mode input while active sets SPARE. Whether it does is judged
on the line as the whole entry leaves it, not part by part: the model's choice (log 32). -/
def applyLineSetting (pins : BitVec 8) (l : Fin 8) (s : State) (e : LineSetting) : State :=
  match laneOf e.line with
  | none => s
  | some n =>
    let r := ((s.lane l).line n).set pins n.val e
    let s1 := s.setLane l ((s.lane l).setLine n r)
    if (e.hasDirection || e.hasMode) && r.levelSpareActive then raise (.lane l .spare) s1 else s1

/-- LINES_SET (R72, R197): the entry count, the length that it gives, the lane, then checks 2 to 5 over the entries. A
length that does not match is LENGTH whatever the lane; a body too short to hold a count has no matching length (log 22).
An undefined direction, latch or event mode (R196), which R72's checks do not place, is refused with RANGE before check 5:
the model's choice (log 30). -/
def linesSet (pins : BitVec 8) (ps : List Byte) (s : State) : Executed :=
  let k := rd ps 1 1
  if ps.length < 2 then refuse .length s
  else if k < 1 ∨ 8 < k then refuse .range s
  else if ps.length ≠ 2 + 5 * k then refuse .length s
  else
    match laneOf (rd ps 0 1) with
    | none => refuse .range s
    | some l =>
      let es := (List.range k).map (lineSettingAt ps)
      let x := s.lane l
      if es.all (LineSetting.inRange x) = false then refuse .range s
      else if es.any (LineSetting.latchBarred x) then refuse .state s
      else accept (es.foldl (applyLineSetting pins l) s)

/-- LINES_SET (R72). -/
def execLinesSet (pins : BitVec 8) (s : State) : Answer := .next (runDirective .linesSet (linesSet pins) s)

/-! ### LINES_READ (R73) -/

/-- One line record as LINES_READ reports it (R73, R197). -/
def lineRecord (x : Lane) (n : Fin 8) : List Byte :=
  let r := x.line n
  be 1 r.role.code ++ be 1 r.activeLevel.code ++ be 1 r.direction.code ++ be 1 (flagByte r.latch) ++
    be 1 r.mode.code ++ be 1 (x.level r).code

/-- LINES_READ (R73). -/
def linesRead (l : Fin 8) (_ : List Byte) (s : State) : Executed :=
  let x := s.lane l
  answerData (allLines.flatMap (lineRecord x) ++ be 1 (flagByte x.coverCondition)) s

/-- LINES_READ (R73). -/
def execLinesRead (s : State) : Answer := .next (runDirective .linesRead (withLength 1 (withLane linesRead)) s)

/-! ### LANE_POWER (R78, R81, R82) -/

/-- LANE_POWER OFF (R81); an undefined form is refused with RANGE (R196). -/
def lanePowerOff (l : Fin 8) (ps : List Byte) (s : State) : Executed :=
  if rd ps 1 1 ≠ 0 then refuse .range s
  else if (s.lane l).state ≠ .idle then refuse .state s
  else accept (s.modLane l Lane.enterOff)

/-- LANE_POWER OFF (R81). -/
def execLanePowerOff (s : State) : Answer :=
  .next (runDirective .lanePowerOff (withLength 5 (withLane lanePowerOff)) s)

/-- LANE_POWER IDLE (R81). -/
def lanePowerIdle (l : Fin 8) (_ : List Byte) (s : State) : Executed :=
  let x := s.lane l
  match x.state with
  | .off =>
    if x.hasRole .motor = false then refuse .config s
    else if x.coverCondition then refuse .interlock s
    else accept (s.modLane l (Lane.enterSpinup .idle))
  | .idle => accept (s.modLane l (fun y => { y with idleRemaining := idleMs y.idleCode }))
  | .spinup | .feeding | .draining | .halted | .jammed | .manual => refuse .state s

/-- LANE_POWER IDLE (R81). -/
def execLanePowerIdle (s : State) : Answer :=
  .next (runDirective .lanePowerIdle (withLength 5 (withLane lanePowerIdle)) s)

/-- LANE_POWER SET (R78): both settings stored in range; on an IDLE lane the countdown restarts under the new code. -/
def lanePowerSet (l : Fin 8) (ps : List Byte) (s : State) : Executed :=
  let spin := rd ps 2 2
  let code := rd ps 4 1
  acceptClamped (decide (2000 < spin) || decide (120 < code))
    (s.modLane l (fun x =>
      { x with
        spinTime := min 2000 spin, idleCode := min 120 code
        idleRemaining := if x.state = .idle then idleMs (min 120 code) else x.idleRemaining }))

/-- LANE_POWER SET (R78). -/
def execLanePowerSet (s : State) : Answer :=
  .next (runDirective .lanePowerSet (withLength 5 (withLane lanePowerSet)) s)

/-- Whether a HALTED lane has nothing in progress (R82). -/
def Lane.nothingInProgress (x : Lane) : Bool := x.picking.isNone && x.path.isEmpty && x.settleOrder.isEmpty

/-- LANE_POWER STANDBY (R82). -/
def lanePowerStandby (l : Fin 8) (_ : List Byte) (s : State) : Executed :=
  let x := s.lane l
  match x.state with
  | .idle => accept (s.modLane l Lane.enterOff)
  | .halted =>
    if x.nothingInProgress then
      accept (batchLeaves l (s.modLane l (fun y => { y.enterOff with haltReason := .none })))
    else refuse .state s
  | .off | .spinup | .feeding | .draining | .jammed | .manual => refuse .state s

/-- LANE_POWER STANDBY (R82). -/
def execLanePowerStandby (s : State) : Answer :=
  .next (runDirective .lanePowerStandby (withLength 5 (withLane lanePowerStandby)) s)

end Sys2Proof.Machine
end

