-- ==== Sys2Proof/Machine/TableDirectives.lean ====
section
/-!
DEFINITION. Directives on shared tables: PROFILE_LOAD, PROFILE_READ, STORE_SET, STORE_READ, SEPARATOR_LOAD,
SEPARATOR_READ (chapters 2, 5 and 7).
-/

namespace Sys2Proof.Machine

/-- The record number `i` of size `n` in a list directive, behind its one-byte count (chapter 11). -/
def recordAt (ps : List Byte) (n i : Nat) : List Byte := (ps.drop (1 + n * i)).take n

/-- The records of a list directive. -/
def records (ps : List Byte) (n : Nat) : List (List Byte) := (List.range (rd ps 0 1)).map (recordAt ps n)

/-- The entry count within `1..max` and the length that fits it (R32, R142, R155). -/
def listFits (ps : List Byte) (n max : Nat) : Bool :=
  decide (1 ≤ rd ps 0 1) && decide (rd ps 0 1 ≤ max) && decide (ps.length = 1 + n * rd ps 0 1)

/-- Whether a batch is FEEDING or DRAINING, which makes its profile and patterns in use (R130). -/
def Batch.inUse (b : Batch) : Bool := decide (b.state = .feeding) || decide (b.state = .draining)

/-! ### Profiles (R32 to R34) -/

/-- A profile as carried by a PROFILE_LOAD record (R33, R196); the working baseline carried is ignored. -/
def carriedProfile (rec : List Byte) : Profile :=
  { valid := rdFlag rec 1, b0 := rd rec 2 2 % 4096, working := rd rec 2 2 % 4096, threshold := rd rec 6 2 % 1024,
    runLength := rd rec 8 1, guardE := rd rec 9 1, nominal := rd rec 10 2, tolerance := rd rec 12 2,
    tracking := rdFlag rec 14 }

/-- Each value brought into its range (R33); the working baseline is the stored B0. -/
def Profile.clamp (p : Profile) : Profile :=
  { p with
    b0 := max 1 p.b0, working := max 1 p.b0, threshold := max 257 p.threshold, runLength := max 1 p.runLength
    guardE := min 31 p.guardE, nominal := min 9999 p.nominal, tolerance := min 999 p.tolerance }

/-- Whether a carried profile had to be changed (R33). -/
def Profile.needsClamp (p : Profile) : Bool := decide (p.clamp ≠ { p with working := p.clamp.working })

/-- Store one record of an accepted PROFILE_LOAD (R32, R33). -/
def storeProfile (s : State) (rec : List Byte) : State :=
  match sixteenOf (rd rec 0 1) with
  | none => s
  | some i => s.modProfile i (fun _ => (carriedProfile rec).clamp)

/-- Whether a record names a profile in use (R32). -/
def profileInUse (s : State) (rec : List Byte) : Bool :=
  s.batches.any (fun b => b.inUse && decide (b.profile.val = rd rec 0 1))

/-- PROFILE_LOAD (R32). -/
def profileLoad (ps : List Byte) (s : State) : Executed :=
  if listFits ps 15 16 = false then refuse .length s
  else
    let rs := records ps 15
    if rs.any (fun r => decide (15 < rd r 0 1)) then refuse .range s
    else if rs.any (profileInUse s) then refuse .inUse s
    else acceptClamped (rs.any (fun r => (carriedProfile r).needsClamp)) (rs.foldl storeProfile s)

/-- PROFILE_LOAD (R32). -/
def execProfileLoad (s : State) : Answer := .next (runDirective .profileLoad profileLoad s)

/-- A profile record (section 11.2). -/
def profileRecord (i : Fin 16) (p : Profile) : List Byte :=
  be 1 i.val ++ be 1 (flagByte p.valid) ++ be 2 p.b0 ++ be 2 p.working ++ be 2 p.threshold ++ be 1 p.runLength ++
    be 1 p.guardE ++ be 2 p.nominal ++ be 2 p.tolerance ++ be 1 (flagByte p.tracking)

/-- PROFILE_READ (R34). -/
def profileRead (i : Fin 16) (_ : List Byte) (s : State) : Executed := answerData (profileRecord i (s.profile i)) s

/-- PROFILE_READ (R34). -/
def execProfileRead (s : State) : Answer :=
  .next (runDirective .profileRead (withLength 1 (withSixteen profileRead)) s)

/-! ### The store's low mark (R98, R99) -/

/-- STORE_SET (R98): a mark newly above the free count sets STORE_LOW. -/
def storeSet (ps : List Byte) (s : State) : Executed :=
  let v := rd ps 0 2
  let mark := min 4096 v
  let s1 := { s with lowMark := mark }
  acceptClamped (decide (4096 < v))
    (if s.lowMark ≤ s.free ∧ s.free < mark then raise (.device .storeLow) s1 else s1)

/-- STORE_SET (R98). -/
def execStoreSet (s : State) : Answer := .next (runDirective .storeSet (withLength 2 storeSet) s)

/-- STORE_READ (R99). -/
def storeRead (_ : List Byte) (s : State) : Executed :=
  answerData (be 2 s.free ++ be 2 s.reserved ++ be 2 s.allocated ++ be 2 s.lowMark) s

/-- STORE_READ (R99). -/
def execStoreRead (s : State) : Answer := .next (runDirective .storeRead (withLength 0 storeRead) s)

/-! ### Separators (R142) -/

/-- Whether a SEPARATOR_LOAD record is in range (R142). -/
def separatorInRange (rec : List Byte) : Bool :=
  decide (rd rec 0 1 < 8) && (SeparatorAction.ofCode (rd rec 10 1)).isSome

/-- Whether a record names a pattern in use (R142). -/
def separatorInUse (s : State) (rec : List Byte) : Bool :=
  s.batches.any (fun b => b.inUse && b.mask.getLsbD (rd rec 0 1))

/-- A pattern as carried (R142, R197). -/
def carriedSeparator (rec : List Byte) : Separator :=
  { valid := rdFlag rec 1, value := BitVec.ofNat 32 (rd rec 2 4), mask := BitVec.ofNat 32 (rd rec 6 4),
    action := (SeparatorAction.ofCode (rd rec 10 1)).getD .docBreak, keep := rdFlag rec 11 }

/-- Store one record of an accepted SEPARATOR_LOAD (R142). -/
def storeSeparator (s : State) (rec : List Byte) : State :=
  match laneOf (rd rec 0 1) with
  | none => s
  | some i => { s with separators := s.separators.set i.val (carriedSeparator rec) }

/-- SEPARATOR_LOAD (R142). -/
def separatorLoad (ps : List Byte) (s : State) : Executed :=
  if listFits ps 12 8 = false then refuse .length s
  else
    let rs := records ps 12
    if rs.all separatorInRange = false then refuse .range s
    else if rs.any (separatorInUse s) then refuse .inUse s
    else accept (rs.foldl storeSeparator s)

/-- SEPARATOR_LOAD (R142). -/
def execSeparatorLoad (s : State) : Answer := .next (runDirective .separatorLoad separatorLoad s)

/-- A separator record of SEPARATOR_READ (R197). -/
def separatorRecord (i : Nat) (p : Separator) : List Byte :=
  be 1 i ++ be 1 (flagByte p.valid) ++ be 4 p.value.toNat ++ be 4 p.mask.toNat ++ be 1 p.action.code ++
    be 1 (flagByte p.keep)

/-- SEPARATOR_READ (R142). -/
def separatorRead (ps : List Byte) (s : State) : Executed :=
  match laneOf (rd ps 0 1) with
  | none => refuse .range s
  | some i => answerData (separatorRecord i.val (s.separators[i.val])) s

/-- SEPARATOR_READ (R142). -/
def execSeparatorRead (s : State) : Answer := .next (runDirective .separatorRead (withLength 1 separatorRead) s)

end Sys2Proof.Machine
end

