-- ==== Sys2Proof/Machine/SheetDirectives.lean ====
section
/-!
DEFINITION. Directives on sheets: the three choices of RESOLVE, HELD_LIST and SHEET_READ (sections 6.5 and 6.7).
-/

namespace Sys2Proof.Machine

/-! ### RESOLVE (R121, R122) -/

/-- The checks of R121: the tag and the choice, then the held-sheet list. -/
def withHeld (choice : Nat) (body : HeldEntry → State → Executed) : List Byte → State → Executed :=
  fun ps s =>
    match tagOf (rd ps 0 2) with
    | none => refuse .range s
    | some t =>
      if rd ps 2 1 ≠ choice then refuse .range s
      else
        match s.held.find? (fun h => decide (h.tag = t)) with
        | none => refuse .notFound s
        | some e => body e s

/-- The kind an ACCEPT gives, with the match it records (R121). -/
def acceptKind (s : State) (r : Sheet) : Kind × Option (Fin 8) :=
  match separatorMatch s r with
  | some i => if (s.separators[i.val]).keep then (.separator, some i) else (.ordinary, none)
  | none => (.ordinary, none)

/-- Release a held sheet under a kind (R121): NO_ROUTE, FULL, or removed from the list and its entries placed. A sheet
with no strips needs no lookup and is freed at once. -/
def resolveRelease (e : HeldEntry) (kind : Kind) (sep : Option (Fin 8)) (s : State) : Executed :=
  match s.sheet? e.tag with
  | none => refuse .notFound s
  | some r =>
    match deliveryEntries s r kind with
    | none => refuse .noRoute s
    | some es =>
      if fullDests s es ≠ [] then refuse .full s
      else
        let s1 := { s with held := s.held.filter (fun h => decide (h.tag ≠ e.tag)) }.modBatch e.batch (fun b =>
          { b with heldNow := b.heldNow - 1, released := addSat b.released 1 })
        let s2 := (deliver e.tag kind es s1).modSheet e.tag (fun q =>
          { q with separatorMatch := if sep.isSome then sep else q.separatorMatch })
        accept (testBatch e.batch (freeIfIdle e.tag es s2))

/-- RESOLVE ACCEPT (R121). -/
def resolveAccept (e : HeldEntry) (s : State) : Executed :=
  let k : Kind × Option (Fin 8) := match s.sheet? e.tag with
    | none => (.ordinary, none)
    | some r => acceptKind s r
  resolveRelease e k.1 k.2 s

/-- RESOLVE ACCEPT (R121). -/
def execResolveAccept (s : State) : Answer :=
  .next (runDirective .resolveAccept (withLength 3 (withHeld 0 resolveAccept)) s)

/-- RESOLVE REVIEW (R121). -/
def resolveReview (e : HeldEntry) (s : State) : Executed := resolveRelease e .suspect none s

/-- RESOLVE REVIEW (R121). -/
def execResolveReview (s : State) : Answer :=
  .next (runDirective .resolveReview (withLength 3 (withHeld 1 resolveReview)) s)

/-- RESOLVE DISCARD (R122, R132). -/
def resolveDiscard (e : HeldEntry) (s : State) : Executed := accept (testBatch e.batch (discardHeld e s))

/-- RESOLVE DISCARD (R122). -/
def execResolveDiscard (s : State) : Answer :=
  .next (runDirective .resolveDiscard (withLength 3 (withHeld 2 resolveDiscard)) s)

/-! ### HELD_LIST and SHEET_READ (R125, R126) -/

/-- HELD_LIST (R125). -/
def heldList (_ : List Byte) (s : State) : Executed :=
  answerData (be 1 s.held.length ++
    s.held.flatMap (fun h => be 2 (tagCode h.tag) ++ be 2 h.batch ++ be 1 h.findings.code)) s

/-- HELD_LIST (R125). -/
def execHeldList (s : State) : Answer := .next (runDirective .heldList (withLength 0 heldList) s)

/-- The number formed by a set of destinations, bit `n` for destination `n` (section 11.2). -/
def destBits (ds : List (Fin 16)) : Nat := bitsToNat (allDests.map (fun d => decide (d ∈ ds)))

/-- The presence word of the sheet report (section 11.2); bits 12 to 15 are sent as 0 (log 36). -/
def Sheet.presence (r : Sheet) : Nat :=
  bitsToNat [r.lead.isSome, r.trail.isSome, r.exitLead.isSome, r.exitTrail.isSome, r.samples.isSome, r.patch.isSome,
    r.separatorMatch.isSome, !r.queueWait.isEmpty, r.outcome.isSome, r.kind.isSome, r.document.isSome,
    r.routeBank.isSome]

/-- The marks byte of the sheet report (section 11.2); bits 5 to 7 are sent as 0 (log 36). -/
def Sheet.marks (r : Sheet) : Nat :=
  bitsToNat [r.pastDivert, r.divertDone, r.imageTimeout, r.frontLast, r.backLast]

/-- An optional capture, zeros when absent. -/
def captureField (c : Option Tick) : List Byte := be 3 ((c.map BitVec.toNat).getD 0)

/-- The sheet report (section 11.2). -/
def sheetReport (r : Sheet) : List Byte :=
  let sm := r.samples.getD ⟨0, 0, 0, 0⟩
  be 2 r.presence ++ be 2 (tagCode r.tag) ++ be 2 r.batch ++ be 1 r.state.code ++ be 1 r.retries ++
  captureField r.lead ++ captureField r.trail ++ captureField r.exitLead ++ captureField r.exitTrail ++
  be 2 (r.length.getD 0) ++ be 2 sm.m ++ be 2 sm.n ++ be 2 sm.longest ++ be 2 sm.ratio ++
  be 1 r.findings.code ++ be 1 r.marks ++ be 4 ((r.patch.map BitVec.toNat).getD 0) ++
  be 1 ((r.separatorMatch.map Fin.val).getD 0) ++ be 2 r.reserve ++ be 2 (destBits r.queueWait) ++
  be 1 ((r.outcome.map SheetOutcome.code).getD 0) ++ be 1 ((r.kind.map Kind.code).getD 0) ++ be 1 0 ++
  be 2 (r.document.getD 0) ++ be 2 (r.page.getD 0) ++ be 1 ((r.routeBank.map Bank.code).getD 0) ++
  be 1 r.pendingDests ++ be 1 r.front.length ++ be 1 r.back.length ++ (r.front ++ r.back).flatMap (be 2)

/-- SHEET_READ (R126). -/
def sheetRead (ps : List Byte) (s : State) : Executed :=
  match tagOf (rd ps 0 2) with
  | none => refuse .range s
  | some t =>
    match s.sheet? t with
    | none => refuse .notFound s
    | some r => answerData (sheetReport r) s

/-- SHEET_READ (R126). -/
def execSheetRead (s : State) : Answer := .next (runDirective .sheetRead (withLength 2 sheetRead) s)

end Sys2Proof.Machine
end

