-- ==== Sys2Proof/Machine/BatchDirectives.lean ====
section
/-!
DEFINITION. The batch directives (section 7.3) and the internal steps DRAIN_COMPLETION, SETTLEMENT, QUEUE_WAIT_RETRY,
BATCH_CLOSURE and END_OF_ABORT as commands of their own.
-/

namespace Sys2Proof.Machine

/-- The check of a batch id, 0 refused with RANGE (R133). -/
def withId (body : Nat → List Byte → State → Executed) : List Byte → State → Executed :=
  fun ps s => if rd ps 0 2 = 0 then refuse .range s else body (rd ps 0 2) ps s

/-! ### BATCH_OPEN (R134) -/

/-- A batch as opened: QUEUED, every counter 0, break-pending set (R134). -/
def Batch.opened (id : Nat) (l : Fin 8) (cls : BitVec 6) (prof : Fin 16) (sides : Sides) (expected : Nat)
    (action : Action) (mask : BitVec 8) : Batch :=
  { id := id, lane := l, routeClass := cls, profile := prof, sides := sides, expected := expected, action := action,
    mask := mask, state := .queued, fed := 0, settled := 0, released := 0, heldNow := 0, holds := 0, diverted := 0,
    discarded := 0, gaps := 0, deliveriesPending := 0, document := 0, page := 0, documents := 0, breakPending := true }

/-- The batch a BATCH_OPEN carries, when its fields are in range (check 2 of R134). -/
def carriedBatch (ps : List Byte) : Option Batch :=
  match laneOf (rd ps 2 1), sixteenOf (rd ps 4 1), Sides.ofCode (rd ps 5 1), Action.ofCode (rd ps 8 1) with
  | some l, some prof, some sides, some action =>
    if rd ps 0 2 = 0 ∨ 63 < rd ps 3 1 then none
    else some (Batch.opened (rd ps 0 2) l (BitVec.ofNat 6 (rd ps 3 1)) prof sides (rd ps 6 2) action
      (BitVec.ofNat 8 (rd ps 9 1)))
  | _, _, _, _ => none

/-- BATCH_OPEN (R134): checks in their order; the record is made live and joins the tail of its lane's queue. -/
def batchOpen (ps : List Byte) (s : State) : Executed :=
  match carriedBatch ps with
  | none => refuse .range s
  | some b =>
    if (s.batch? b.id).isSome then refuse .duplicate s
    else if (s.profile b.profile).valid = false then refuse .notFound s
    else if 16 ≤ s.batches.length ∨ 4 ≤ (s.lane b.lane).batchQueue.length then refuse .full s
    else accept ({ s with batches := s.batches ++ [b] }.modLane b.lane (fun x =>
      { x with batchQueue := x.batchQueue ++ [b.id] }))

/-- BATCH_OPEN (R134). -/
def execBatchOpen (s : State) : Answer := .next (runDirective .batchOpen (withLength 10 batchOpen) s)

/-! ### BATCH_CLOSE (R135) -/

/-- BATCH_CLOSE (R135). -/
def batchClose (id : Nat) (ps : List Byte) (s : State) : Executed :=
  match s.batch? id with
  | none => refuse .notFound s
  | some b =>
    if b.state ≠ .ended then refuse .state s
    else if 0 < b.heldNow ∧ rdFlag ps 2 = false then refuse .heldPending s
    else accept (testClosure id (discardBatchHeld id s))

/-- BATCH_CLOSE (R135). -/
def execBatchClose (s : State) : Answer := .next (runDirective .batchClose (withLength 3 (withId batchClose)) s)

/-! ### BATCH_ABORT (R136 to R138, R177) -/

/-- Whether the head entry of a destination's queue is current or suspended on its port (R167). -/
def headInProgress (s : State) (d : Fin 16) : Bool :=
  isOf d (s.port (s.dest d).port).current || isOf d (s.port (s.dest d).port).suspended

/-- The entries of a destination's queue that are neither current nor suspended. -/
def waitingEntries (s : State) (d : Fin 16) : List DeliveryEntry :=
  if headInProgress s d then (s.dest d).queue.drop 1 else (s.dest d).queue

/-- The entries of a batch's sheets that an abort removes from destination `d` (R177). -/
def abortedEntries (id : Nat) (s : State) (d : Fin 16) : List DeliveryEntry :=
  (waitingEntries s d).filter (fun e => decide (entryBatch s e = some id))

/-- Remove them from the queue, head to tail, each as undelivered (R177). -/
def abortDest (id : Nat) (s : State) (d : Fin 16) : State :=
  let q := (s.dest d).queue
  let kept := (if headInProgress s d then q.take 1 else []) ++
    (waitingEntries s d).filter (fun e => decide (entryBatch s e ≠ some id))
  (abortedEntries id s d).foldl (removeUndelivered d) (s.modDest d (fun x => { x with queue := kept }))

/-- Step 5 of R136 over the destinations in ascending order, then the retries of the sheets that waited on them (R177). -/
def abortEntries (id : Nat) (s : State) : State :=
  let touched := allDests.filter (fun d => !(abortedEntries id s d).isEmpty)
  retryWaiting touched (allDests.foldl (abortDest id) s)

/-- Steps 1 to 3 of R136 for the active batch of lane `l`: the picking sheet freed, batch and drain cause ABORTED and
ABORT, the lane draining, the settlement order discarded. -/
def abortActive (id : Nat) (l : Fin 8) (s : State) : State :=
  let s1 := (freePicking l s).modBatch id (fun b => { b with state := .aborted })
  poke l (s1.modLane l (fun x =>
    let y := match x.state with
      | .spinup | .feeding | .halted => x.enterDraining
      | .off | .idle | .draining | .jammed | .manual => x
    { y with drainCause := .abort }))

/-- Steps 4 and 5 of R136. -/
def abortRest (id : Nat) (s : State) : State := abortEntries id (discardBatchHeld id s)

/-- BATCH_ABORT (R136, R137). The drain and the end of the abort are tested once the five steps are done (log 11). -/
def batchAbort (id : Nat) (_ : List Byte) (s : State) : Executed :=
  match s.batch? id with
  | none => refuse .notFound s
  | some b =>
    match b.state with
    | .aborted => refuse .state s
    | .feeding | .draining => accept (testAbort id (drainTest b.lane (abortRest id (abortActive id b.lane s))))
    | .queued | .ended =>
      accept (testAbort id (abortRest id
        ((s.modBatch id (fun c => { c with state := .aborted })).modLane b.lane (fun x =>
          { x with batchQueue := x.batchQueue.erase id }))))

/-- BATCH_ABORT (R136). -/
def execBatchAbort (s : State) : Answer := .next (runDirective .batchAbort (withLength 2 (withId batchAbort)) s)

/-! ### BATCH_READ (R139) -/

/-- The live form of BATCH_READ's reply (R197). -/
def batchRecord (s : State) (b : Batch) : List Byte :=
  be 2 b.id ++ be 1 b.lane.val ++ be 1 b.routeClass.toNat ++ be 1 b.profile.val ++ be 1 b.sides.code ++
  be 2 b.expected ++ be 1 b.action.code ++ be 1 b.mask.toNat ++ be 1 b.state.code ++
  be 1 (flagByte (s.inLaneQueue b)) ++ be 2 b.fed ++ be 2 b.settled ++ be 2 b.released ++ be 2 b.heldNow ++
  be 2 b.holds ++ be 2 b.diverted ++ be 2 b.discarded ++ be 2 b.gaps ++ be 2 b.deliveriesPending ++
  be 2 b.document ++ be 2 b.page ++ be 2 b.documents ++ be 1 (flagByte b.breakPending)

/-- BATCH_READ (R139). -/
def batchRead (id : Nat) (_ : List Byte) (s : State) : Executed :=
  match s.batch? id, s.lastReport with
  | some b, _ => answerData (be 1 1 ++ batchRecord s b) s
  | none, some r => if r.batch.id = id then answerData (be 1 0 ++ r.bytes) s else refuse .notFound s
  | none, none => refuse .notFound s

/-- BATCH_READ (R139). -/
def execBatchRead (s : State) : Answer := .next (runDirective .batchRead (withLength 2 (withId batchRead)) s)

/-! ### The internal steps as commands -/

/-- SETTLEMENT (R105, R110): the lane's cursor is examined and settled while it is ready. -/
def execSettlement (l : Fin 8) (s : State) : Answer := .next (kickPorts (settleLane l s))

/-- QUEUE_WAIT_RETRY (R117): a waiting cursor sheet is settled again from step 1. -/
def execQueueWaitRetry (l : Fin 8) (s : State) : Answer :=
  .next (if cursorWait s l = [] then s else kickPorts (pokeLane l s))

/-- DRAIN_COMPLETION (R43). -/
def execDrainCompletion (l : Fin 8) (s : State) : Answer := .next (kickPorts (drainTest l s))

/-- BATCH_CLOSURE (R132). -/
def execBatchClosure (id : Nat) (s : State) : Answer := .next (kickPorts (testClosure id s))

/-- END_OF_ABORT (R137). -/
def execEndOfAbort (id : Nat) (s : State) : Answer := .next (kickPorts (testAbort id s))

end Sys2Proof.Machine
end

