-- ==== Sys2Proof/Machine/RouteDirectives.lean ====
section
/-!
DEFINITION. The route directives ROUTE_LOAD, ROUTE_SWAP and ROUTE_READ (sections 8.3 to 8.5).
-/

namespace Sys2Proof.Machine

/-- Free bytes of a reply's data: `n` of them from place `k` on (log 29). -/
def fill (s : State) (k n : Nat) : List Byte := (List.range n).map (fun i => Config.fillByte s.freeIndex (k + i))

/-! ### ROUTE_LOAD (R155 to R157) -/

/-- Reasons of a bad load entry (R156). -/
inductive LoadReason where
  | index | empty | count | destination | repeated
  deriving DecidableEq, Repr

/-- The reason byte (R196). -/
def LoadReason.code : LoadReason → Nat
  | .index => 1
  | .empty => 2
  | .count => 3
  | .destination => 4
  | .repeated => 5

/-- The destination slots in use: the first count of the three (R155). -/
def usedSlots (rec : List Byte) : List Nat := [rd rec 7 1, rd rec 8 1, rd rec 9 1].take (rd rec 6 1)

/-- The checks of R156 in their order; a load entry with its valid flag clear is subject to check 1 alone. -/
def loadReason (rec : List Byte) : Option LoadReason :=
  if 63 < rd rec 0 1 then some .index
  else if rdFlag rec 1 = false then none
  else if rd rec 6 1 = 0 then some .empty
  else if 3 < rd rec 6 1 then some .count
  else if (usedSlots rec).any (fun d => decide (15 < d)) then some .destination
  else if ¬ (usedSlots rec).Nodup then some .repeated
  else none

/-- What a good load entry stores (R157, R196). -/
def carriedRoute (rec : List Byte) : RouteEntry :=
  if rdFlag rec 1 then
    { valid := true, classValue := BitVec.ofNat 6 (rd rec 2 1), classMask := BitVec.ofNat 6 (rd rec 3 1),
      front := (rd rec 4 1).testBit 0, back := (rd rec 4 1).testBit 1, ordinary := (rd rec 5 1).testBit 0,
      separator := (rd rec 5 1).testBit 1, suspect := (rd rec 5 1).testBit 2,
      dests := (usedSlots rec).filterMap sixteenOf }
  else .invalid

/-- Write entry `i` of the shadow bank (R150, R156). -/
def writeShadow (i : Nat) (e : RouteEntry) (s : State) : State :=
  match s.activeBank with
  | .b0 => { s with bank1 := s.bank1.setIfInBounds i e }
  | .b1 => { s with bank0 := s.bank0.setIfInBounds i e }

/-- Examine and store load entries one at a time, up to the first bad one (R156): the number stored, and the reason of
the bad one. -/
def loadEntries : List (List Byte) → Nat → State → Nat × Option LoadReason × State
  | [], n, s => (n, none, s)
  | rec :: rest, n, s =>
    match loadReason rec with
    | some r => (n, some r, s)
    | none => loadEntries rest (n + 1) (writeShadow (rd rec 0 1) (carriedRoute rec) s)

/-- ROUTE_LOAD (R155, R156). -/
def routeLoad (ps : List Byte) (s : State) : Executed :=
  if listFits ps 10 16 = false then refuse .length s
  else
    match loadEntries (records ps 10) 0 s with
    | (_, none, s1) => accept s1
    | (n, some r, s1) => ⟨.partialDone, be 1 n ++ be 1 r.code, s1⟩

/-- ROUTE_LOAD (R155). -/
def execRouteLoad (s : State) : Answer := .next (runDirective .routeLoad routeLoad s)

/-! ### ROUTE_SWAP and ROUTE_READ (R158, R161) -/

/-- The other bank. -/
def Bank.other : Bank → Bank
  | .b0 => .b1
  | .b1 => .b0

/-- ROUTE_SWAP (R158). -/
def routeSwap (_ : List Byte) (s : State) : Executed := accept { s with activeBank := s.activeBank.other }

/-- ROUTE_SWAP (R158). -/
def execRouteSwap (s : State) : Answer := .next (runDirective .routeSwap (withLength 0 routeSwap) s)

/-- The entries of a bank. -/
def State.bank (s : State) : Bank → Vector RouteEntry 64
  | .b0 => s.bank0
  | .b1 => s.bank1

/-- A route entry record (section 11.2); slots beyond the destination count are free bytes (log 29); the
bits of the side set and of the kind set that stand for nothing are sent as 0 (log 36). -/
def routeRecord (s : State) (i : Nat) (e : RouteEntry) : List Byte :=
  be 1 i ++ be 1 (flagByte e.valid) ++ be 1 e.classValue.toNat ++ be 1 e.classMask.toNat ++
  be 1 (bitsToNat [e.front, e.back]) ++ be 1 (bitsToNat [e.ordinary, e.separator, e.suspect]) ++
  be 1 e.dests.length ++
  (e.dests.flatMap (fun d => be 1 d.val) ++ fill s (10 * i + 7 + e.dests.length) 3).take 3

/-- ROUTE_READ (R161). -/
def routeRead (ps : List Byte) (s : State) : Executed :=
  match Bank.ofCode (rd ps 0 1) with
  | none => refuse .range s
  | some b =>
    let first := rd ps 1 1
    let count := rd ps 2 1
    if 63 < first ∨ count = 0 ∨ 16 < count ∨ 64 < first + count then refuse .range s
    else
      let entries := ((s.bank b).toList.drop first).take count
      answerData (be 1 s.activeBank.code ++ (entries.zipIdx first).flatMap (fun x => routeRecord s x.2 x.1)) s

/-- ROUTE_READ (R161). -/
def execRouteRead (s : State) : Answer := .next (runDirective .routeRead (withLength 3 routeRead) s)

end Sys2Proof.Machine
end

