-- ==== Sys2Proof/Machine/DestDirectives.lean ====
section
/-!
DEFINITION. The destination and port directives DEST_SET, DEST_ENABLE, DEST_DISABLE, DEST_READ and PORT_READ (chapter 9).
-/

namespace Sys2Proof.Machine

/-! ### DEST_SET and DEST_ENABLE (R164, R165) -/

/-- DEST_SET (R164). -/
def destSet (d : Fin 16) (ps : List Byte) (s : State) : Executed :=
  let addr : Addr := BitVec.ofNat 48 (rd ps 1 6)
  match portOfCode (rd ps 7 1) with
  | none => refuse .range s
  | some p =>
    if h : rd ps 8 1 < 4 then
      if groupBit addr then refuse .range s
      else if (s.dest d).enabled || (s.dest d).closing then refuse .state s
      else acceptClamped (decide (48 < rd ps 9 1)) (s.modDest d (fun x =>
        { x with addr := addr, port := p, priority := ⟨rd ps 8 1, h⟩, warn := min 48 (rd ps 9 1) }))
    else refuse .range s

/-- DEST_SET (R164). -/
def execDestSet (s : State) : Answer := .next (runDirective .destSet (withLength 10 (withSixteen destSet)) s)

/-- Whether another enabled destination has the address and port of `d` (R165). -/
def addressTaken (s : State) (d : Fin 16) : Bool :=
  allDests.any (fun e => decide (e ≠ d) && (s.dest e).enabled && decide ((s.dest e).addr = (s.dest d).addr) &&
    decide ((s.dest e).port = (s.dest d).port))

/-- DEST_ENABLE (R165). -/
def destEnable (d : Fin 16) (_ : List Byte) (s : State) : Executed :=
  if (s.dest d).enabled || (s.dest d).closing then refuse .state s
  else if addressTaken s d then refuse .duplicate s
  else accept (s.modDest d (fun x => { x with enabled := true, credit := 0 }))

/-- DEST_ENABLE (R165). -/
def execDestEnable (s : State) : Answer := .next (runDirective .destEnable (withLength 1 (withSixteen destEnable)) s)

/-! ### DEST_DISABLE (R166) -/

/-- Whether an archive frame is in transmission. -/
def TxFrame.isArchive : Option TxFrame → Bool
  | some (.archive _) => true
  | some (.reply _) | some (.notice _) | none => false

/-- Whether the head entry of a destination is the current delivery of its port with one of its frames in transmission
(step 2 of R166). -/
def finishing (s : State) (d : Fin 16) : Bool :=
  isOf d (s.port (s.dest d).port).current && TxFrame.isArchive (s.port (s.dest d).port).tx

/-- The deliveries of a destination leave its port, but for one that is finishing its last frame (R166). -/
def PortState.dropDeliveries (d : Fin 16) (kept : Bool) (q : PortState) : PortState :=
  { q with
    current := if isOf d q.current && !kept then none else q.current
    suspended := if isOf d q.suspended then none else q.suspended }

/-- Steps 1 to 3 of R166: the flag and the credit, the closing mark, and every entry but a closing one removed from the
head to the tail. -/
def closeDest (d : Fin 16) (s : State) : State :=
  let kept := finishing s d
  let q := (s.dest d).queue
  let s1 := (s.modPort (s.dest d).port (PortState.dropDeliveries d kept)).modDest d (fun x =>
    { x with enabled := false, credit := 0, closing := kept, queue := if kept then q.take 1 else [] })
  (if kept then q.drop 1 else q).foldl (removeUndelivered d) s1

/-- The entries a disable removes. -/
def closedEntries (s : State) (d : Fin 16) : List DeliveryEntry :=
  if finishing s d then (s.dest d).queue.drop 1 else (s.dest d).queue

/-- What follows entries removed as undelivered (R166): DISABLED_DROP, the retries of the sheets waiting on the
destination, the tests of the batches whose pending count fell. -/
def afterDrop (d : Fin 16) (ids : List Nat) (s : State) : State :=
  testBatches ids (retryWaiting [d] (raise (.dest d .disabledDrop) s))

/-- DEST_DISABLE (R166). -/
def destDisable (d : Fin 16) (_ : List Byte) (s : State) : Executed :=
  if (s.dest d).enabled = false then refuse .state s
  else
    let removed := closedEntries s d
    let s1 := closeDest d s
    accept (if removed.isEmpty then s1 else afterDrop d (removed.filterMap (entryBatch s)) s1)

/-- DEST_DISABLE (R166). -/
def execDestDisable (s : State) : Answer :=
  .next (runDirective .destDisable (withLength 1 (withSixteen destDisable)) s)

/-! ### DEST_READ and PORT_READ (R179, R180) -/

/-- The status byte of a queue's entry and its progress: only the head can be current or suspended (R167, R197). -/
def headProgress (s : State) (d : Fin 16) : Option (Nat × Nat) :=
  let q := s.port (s.dest d).port
  match q.current, q.suspended with
  | some c, some u => if c.dest = d then some (1, c.progress) else if u.dest = d then some (2, u.progress) else none
  | some c, none => if c.dest = d then some (1, c.progress) else none
  | none, some u => if u.dest = d then some (2, u.progress) else none
  | none, none => none

/-- One entry of DEST_READ (R197); the progress of a waiting entry is free bytes (log 29); bits 2 to 7 of its sides byte
are sent as 0 (log 36). -/
def entryRecord (s : State) (d : Fin 16) (i : Nat) (e : DeliveryEntry) : List Byte :=
  be 2 (tagCode e.sheet) ++ be 1 (bitsToNat [e.front, e.back]) ++ be 2 e.strips ++ be 1 e.kind.code ++
  (match (if i = 0 then headProgress s d else none) with
   | some (status, progress) => be 1 status ++ be 2 progress
   | none => be 1 0 ++ fill s (2 * i) 2)

/-- DEST_READ (R179). -/
def destRead (d : Fin 16) (_ : List Byte) (s : State) : Executed :=
  let x := s.dest d
  answerData (be 1 d.val ++ be 1 (flagByte x.enabled) ++ be 1 (flagByte x.closing) ++ be 6 x.addr.toNat ++
    be 1 (portCode x.port) ++ be 1 x.priority.val ++ be 1 x.warn ++ be 2 x.credit ++ be 2 x.undelivered ++
    be 1 x.queue.length ++ x.queue.zipIdx.flatMap (fun e => entryRecord s d e.2 e.1)) s

/-- DEST_READ (R179). -/
def execDestRead (s : State) : Answer := .next (runDirective .destRead (withLength 1 (withSixteen destRead)) s)

/-- The number of a frame in transmission (R197). -/
def TxFrame.code : Option TxFrame → Nat
  | none => 0
  | some (.reply _) => 1
  | some (.notice _) => 2
  | some (.archive _) => 3

/-- A delivery of PORT_READ (R197), its present byte 1 (log 35); where it is absent, its tag is 0xFFFF and the other fields
are free bytes (log 29). -/
def deliveryRecord (s : State) (k : Nat) : Option Delivery → List Byte
  | some c => be 1 1 ++ be 1 c.dest.val ++ be 2 (tagCode c.entry.sheet) ++ be 2 c.entry.strips ++ be 2 c.progress
  | none => be 1 0 ++ fill s k 1 ++ tagField none ++ fill s (k + 1) 4

/-- The notices waiting for a port (R188). -/
def noticesFor (s : State) (p : Port) : Nat := s.notices.countP (fun n => decide (n.port = p))

/-- PORT_READ (R180); the link state is numbered as R196 states (log 17). -/
def portRead (ps : List Byte) (s : State) : Executed :=
  match portOfCode (rd ps 0 1) with
  | none => refuse .range s
  | some p =>
    let q := s.port p
    answerData (be 1 (linkCode q.linkUp) ++ be 1 (TxFrame.code q.tx) ++ deliveryRecord s 0 q.current ++
      deliveryRecord s 5 q.suspended ++ q.rr.toList.flatMap (fun d => be 1 d.val) ++ be 1 q.replies.length ++
      be 1 (noticesFor s p)) s

/-- PORT_READ (R180). -/
def execPortRead (s : State) : Answer := .next (runDirective .portRead (withLength 1 portRead) s)

end Sys2Proof.Machine
end

