-- ==== Sys2Proof/Machine/EventDirectives.lean ====
section
/-!
DEFINITION. The station interface's own directives: REPORT_SET, EVENTS_READ, EVENTS_CLEAR and RESTART (sections 10.3 to
10.5).
-/

namespace Sys2Proof.Machine

/-! ### REPORT_SET and EVENTS_READ (R187, R191) -/

/-- REPORT_SET (R187). -/
def reportSet (ps : List Byte) (s : State) : Executed :=
  let addr : Addr := BitVec.ofNat 48 (rd ps 33 6)
  match portOfCode (rd ps 39 1) with
  | none => refuse .range s
  | some p =>
    if groupBit addr then refuse .range s
    else accept { s with mask := rdFlagSet ps 0, reportStation := some ⟨addr, p⟩ }

/-- REPORT_SET (R187). -/
def execReportSet (s : State) : Answer := .next (runDirective .reportSet (withLength 40 reportSet) s)

/-- The report station in EVENTS_READ (R197), its present byte 1 (log 35); the address of an absent one is free bytes
(log 29). -/
def stationField (s : State) : List Byte :=
  match s.reportStation with
  | some st => be 1 1 ++ be 6 st.addr.toNat ++ be 1 (portCode st.port)
  | none => be 1 0 ++ fill s 0 6 ++ be 1 0xFF

/-- EVENTS_READ (R191). -/
def eventsRead (_ : List Byte) (s : State) : Executed :=
  answerData (FlagSet.bytes s.flags ++ FlagSet.bytes s.mask ++ stationField s ++ be 1 s.notices.length ++
    be 1 (flagByte s.pendingLost.isSome) ++ be 2 s.lostCount ++ be 2 s.portA.unanswered ++ be 2 s.portB.unanswered) s

/-- EVENTS_READ (R191). -/
def execEventsRead (s : State) : Answer := .next (runDirective .eventsRead (withLength 0 eventsRead) s)

/-! ### EVENTS_CLEAR (R75, R192) -/

/-- Whether a clear of the flag at a place leaves it set: a lane's SPARE flag while a LEVEL-mode SPARE input of the lane
is active (R75). -/
def staysSet (s : State) (k : Nat) : Bool :=
  if h : k < 80 then decide (k % 10 = 9) && (s.lane ⟨k / 10, by omega⟩).holdsSpare else false

/-- Clear the named flags that are set (R75, R192). -/
def clearedFlags (named : FlagSet) (s : State) : FlagSet :=
  Vector.ofFn (fun k : Fin 115 => s.flags[k.val] && (!named[k.val] || staysSet s k.val))

/-- Clear named flags; clearing NOTICE_LOST drops the pending lost notice (R189, R192). -/
def clearFlags (named : FlagSet) (s : State) : State :=
  { s with
    flags := clearedFlags named s
    pendingLost := if s.flag noticeLostFlag && named[noticeLostFlag.index.val] then none else s.pendingLost }

/-- EVENTS_CLEAR (R192). -/
def eventsClear (ps : List Byte) (s : State) : Executed :=
  let s1 := clearFlags (rdFlagSet ps 0) s
  answerData (FlagSet.bytes s1.flags) s1

/-- EVENTS_CLEAR (R192). -/
def execEventsClear (s : State) : Answer := .next (runDirective .eventsClear (withLength 33 eventsClear) s)

/-! ### RESTART (R87, R193) -/

/-- Whether RESTART sends WITHDRAW for a sheet: it took a lead and its images are not complete (R87). -/
def toWithdraw (s : State) (r : Sheet) : Bool := r.lead.isSome && !imagesComplete s r

/-- The tags of a lane that get WITHDRAW at RESTART: those in the settlement order, in that order, then the settled ones
in a free order (R87, log 3). -/
def withdrawTags (s : State) (l : Fin 8) : List Tag :=
  let order := (s.lane l).settleOrder
  order.filter (fun t => (s.sheet? t).any (toWithdraw s)) ++
  freeOrder (s.freeIndex + l.val) ((s.sheets.filter (fun r =>
    decide (r.tag.lane = l) && decide (r.tag ∉ order) && toWithdraw s r)).map Sheet.tag)

/-- Send a lane's WITHDRAW frames of RESTART (R87). -/
def sendWithdraws (l : Fin 8) (s : State) : State :=
  (withdrawTags s l).foldl (fun acc t => sendHead l (withdrawFrame t) acc) s

/-- A lane after RESTART (R1, R3, R16, R17, R35, R67, R84, R100, R129): counter, configuration, lines, power settings,
link and frames for the head kept. -/
def Lane.restart (x : Lane) : Lane :=
  { Lane.powerOn 0 x.linkUp with
    counter := x.counter, partialCount := x.partialCount, config := x.config, lines := x.clearDriveLatches.lines,
    spinTime := x.spinTime, idleCode := x.idleCode, toHead := x.toHead }

/-- A destination after RESTART (R163, R178): settings and enabled flag kept. -/
def Dest.restart (x : Dest) : Dest := { x with credit := 0, undelivered := 0, closing := false, queue := [] }

/-- A port after RESTART (R171, R178, R193): the link, the frame in transmission and the waiting replies stay. -/
def PortState.restart (q : PortState) : PortState :=
  { q with current := none, suspended := none, rr := #v[15, 15, 15, 15], unanswered := 0 }

/-- The part after RESTART, but for the directive queue and the replies (R193 and the rules of its table). -/
def restartPart (s : State) : State :=
  let s1 := allLanes.foldl (fun acc l => sendWithdraws l acc) s
  let s2 := clearFlags (Vector.replicate 115 true) s1
  { s2 with
    lanes := s2.lanes.map Lane.restart
    profiles := s2.profiles.map (fun p => { p with working := p.b0 })
    sheets := [], free := 4096, reserved := 0, allocated := 0, directory := [], held := [], batches := [],
    lastReport := none, dests := s2.dests.map Dest.restart, portA := s2.portA.restart, portB := s2.portB.restart,
    notices := [], pendingLost := none, lostCount := 0, freeIndex := s2.freeIndex + 8 }

/-- Every directive still waiting is answered BUSY, in arrival order, and leaves the queue (R193, log 10). -/
def busyAll (s : State) : State :=
  s.dirQueue.foldl (fun acc d => pushReply d.port (busyReply d) acc) { s with dirQueue := [] }

/-- RESTART as executed for directive `d` (R193): refused with LENGTH when its body is not empty (R184); otherwise its
reply goes to the head of its port's reply list. -/
def restartFor (d : Directive) (s : State) : State :=
  if d.params.length = 0 then
    (busyAll (restartPart s)).modPort d.port (fun q => { q with replies := replyTo d .ok [] :: q.replies })
  else pushReply d.port (replyTo d .length []) s

/-- RESTART (R193). -/
def execRestart (s : State) : Answer :=
  .next (match takeDirective .restart s with
    | none => s
    | some (d, s1) => kickPorts { restartFor d s1 with freeIndex := (restartFor d s1).freeIndex + 1 })

end Sys2Proof.Machine
end

