-- ==== Sys2Proof/Machine/PortCommands.lean ====
section
/-!
DEFINITION. The commands of the port schedulers, FRAME_END, FRAME_BOUNDARY, PORT_LINK_UP and PORT_LINK_DOWN (R166, R171,
R176), the placing of a pending lost notice (R189), and POWER_ON.
-/

namespace Sys2Proof.Machine

/-- The current delivery of a port leaves, with the head entry of its destination and a closing mark (R166, R176). -/
def endCurrent (p : Port) (d : Fin 16) (s : State) : State :=
  (s.modDest d (fun x => { x with queue := x.queue.drop 1, closing := false })).modPort p
    (fun q => { q with current := none })

/-- The test of the batch whose pending count fell. -/
def testEntryBatch (id : Option Nat) (s : State) : State :=
  match id with
  | none => s
  | some b => testBatch b s

/-- Delivery end (R176): pending counts, freeing, retries, and the batch's tests. -/
def deliveryEnd (p : Port) (c : Delivery) (s : State) : State :=
  testEntryBatch (entryBatch s c.entry)
    (retryWaiting [c.dest] (lowerPending c.entry.sheet (endCurrent p c.dest s)))

/-- The frame of a closing destination ends before its delivery's last (R166): removed as undelivered. -/
def closingEnd (p : Port) (c : Delivery) (s : State) : State :=
  afterDrop c.dest (entryBatch s c.entry).toList (removeUndelivered c.dest (endCurrent p c.dest s) c.entry)

/-- An archive frame of the current delivery has been sent (R166, R171, R176). -/
def stripSent (p : Port) (c : Delivery) (s : State) : State :=
  if c.progress + 1 = c.entry.strips then deliveryEnd p c s
  else if (s.dest c.dest).closing then closingEnd p c s
  else s.modPort p (fun q => { q with current := some { c with progress := c.progress + 1 } })

/-- The frame in transmission on a port ends (R171). After RESTART an archive frame has no delivery (R178). -/
def frameEnds (p : Port) (s : State) : State :=
  let s1 := s.modPort p (fun q => { q with tx := none })
  match (s.port p).tx, (s.port p).current with
  | some (.archive _), some c => stripSent p c s1
  | _, _ => s1

/-- FRAME_END (R171): the frame in transmission ends, and the frame boundary makes its choice with the state left. -/
def execFrameEnd (p : Port) (s : State) : Answer :=
  .next (if (s.port p).tx.isSome then kickPorts (boundary p (frameEnds p s)) else s)

/-- FRAME_BOUNDARY (R172). -/
def execFrameBoundary (p : Port) (s : State) : Answer := .next (kickPorts (boundary p s))

/-- PENDING_LOST_NOTICE (R189): it takes a place of the notice queue when one is free. -/
def execPendingLostNotice (s : State) : Answer := .next (kickPorts (placePendingLost s))

/-- PORT_LINK_UP (R171). -/
def execPortLinkUp (p : Port) (s : State) : Answer :=
  .next (kickPorts (boundary p (s.modPort p (fun q => { q with linkUp := true }))))

/-- PORT_LINK_DOWN (R171): no frame is started while the link is DOWN, and a frame in transmission ends as sent. -/
def execPortLinkDown (p : Port) (s : State) : Answer :=
  .next (kickPorts (frameEnds p (s.modPort p (fun q => { q with linkUp := false }))))

/-- POWER_ON (R1, R194 and the power-on values of every chapter): power, or the RESET line. -/
def execPowerOn (pins : Vector (BitVec 8) 8) (straps laneLinks : BitVec 8) (linkA linkB : Bool) (s : State) : Answer :=
  .next { State.powerOn pins straps laneLinks linkA linkB with pending := s.pending }

end Sys2Proof.Machine
end

