-- ==== Sys2Proof/Machine/LaneRead.lean ====
section
/-!
DEFINITION. LANE_READ (R1, R23, R66, R83, R101, R129), with the reply data of R197.
-/

namespace Sys2Proof.Machine

/-- The number of the next-pick condition, and its value; without an ARMED value the field is free bytes (R197, log 29). -/
def nextPickField (s : State) : NextPick → List Byte
  | .none => be 1 0 ++ fill s 1 3
  | .passed => be 1 1 ++ fill s 1 3
  | .armed v => be 1 2 ++ be 3 v.toNat

/-- The picking sheet's tag and retries; the retries of an absent one are a free byte (R197, log 29). -/
def pickingField (s : State) (l : Fin 8) : List Byte :=
  match (s.lane l).picking with
  | none => tagField none ++ fill s 0 1
  | some t => tagField (some t) ++ be 1 (pickingRetries s l)

/-- The lane configuration as LANE_SET carries it after the lane byte (R197). -/
def LaneConfig.bytes (c : LaneConfig) : List Byte :=
  be 1 c.prescale.toNat ++ be 3 c.gap ++ be 3 c.pickPulse ++ be 3 c.pickWindow ++ be 2 c.sampleInterval ++
  be 3 c.gateLimit ++ be 3 c.imageWindow ++ be 3 c.exitWindow ++ be 3 c.divertPulse ++ be 1 c.depth ++
  be 1 c.retryLimit ++ be 2 c.reserve ++ be 2 c.pitch

/-- The feed sequencer's part (R66). -/
def sequencerPart (s : State) (l : Fin 8) : List Byte :=
  let x := s.lane l
  be 1 x.state.code ++ be 1 (SpinTarget.code x.spinTarget) ++ be 1 x.drainCause.code ++ be 1 x.haltReason.code ++
  be 1 x.jamReason.code ++ be 1 (pickHeld s l).code ++ be 2 ((s.activeBatch l).getD 0) ++ pickingField s l ++
  be 1 (openSheets s l) ++ tagField x.gateHolder ++ tagField x.exitHolder ++ nextPickField s x.nextPick ++
  be 2 x.sequence.val ++ x.config.bytes

/-- The timer's part (R1, R5). -/
def Lane.timerPart (x : Lane) : List Byte :=
  be 3 x.counter.toNat ++ be 3 x.lastLead.toNat ++ be 3 x.lastTrail.toNat ++ be 3 x.lastExitLead.toNat ++
  be 3 x.lastExitTrail.toNat

/-- The measurement's part (R17, R23): zero counts when no sheet is being measured. -/
def Lane.measurePart (x : Lane) : List Byte :=
  let a := if x.acc.sheet.isSome then x.acc else .empty
  tagField a.sheet ++ be 2 a.m ++ be 2 a.n ++ be 2 a.run ++ be 2 a.longest ++ be 2 x.lastSample

/-- A countdown's remaining milliseconds; an absent one is all ones (R197). -/
def countdownField (k : Nat) : Option Nat → List Byte
  | some ms => be k ms
  | none => List.replicate k 0xFF

/-- The line block's and the intake's part (R83, R101); the link state is numbered as R196 states (log 17). -/
def Lane.linePart (x : Lane) : List Byte :=
  be 2 x.spinTime ++ be 1 x.idleCode ++ countdownField 2 x.spinRemaining ++ countdownField 4 x.idleRemaining ++
  be 1 (flagByte x.coverCondition) ++
  be 1 (bitsToNat (allLines.map (fun n => decide (x.level (x.line n) = .high)))) ++
  be 1 (linkCode x.linkUp) ++ be 2 x.orphans ++ be 2 x.malformed

/-- The lists: batch queue, path order, settlement order (R53, R129). -/
def listPart (s : State) (l : Fin 8) : List Byte :=
  let x := s.lane l
  be 1 x.batchQueue.length ++ x.batchQueue.flatMap (fun id => be 2 id ++ be 1 (s.batchOf id).state.code) ++
  be 1 x.path.length ++ x.path.flatMap (fun e => be 2 (tagCode e.tag) ++ be 1 (flagByte e.exited)) ++
  be 1 x.settleOrder.length ++ x.settleOrder.flatMap (fun t => be 2 (tagCode t))

/-- LANE_READ (R66). -/
def laneRead (l : Fin 8) (_ : List Byte) (s : State) : Executed :=
  let x := s.lane l
  answerData (sequencerPart s l ++ x.timerPart ++ x.measurePart ++ x.linePart ++ listPart s l) s

/-- LANE_READ (R66). -/
def execLaneRead (s : State) : Answer := .next (runDirective .laneRead (withLength 1 (withLane laneRead)) s)

end Sys2Proof.Machine
end

