-- ==== Sys2Proof/Machine/Idle.lean ====
section
/-!
DEFINITION. What the part does of itself when no command waits (log 2): the events that are its own and are due, in a
free order, enter the command queue; when none is due, one microsecond of the time base passes.
-/

namespace Sys2Proof.Machine

/-! ### Events that are due -/

/-- The command of a due deadline, if it is due. -/
def whenDue (b : Bool) (i : Instr) : List Instr := if b then [i] else []

/-- The due deadlines and countdowns of a lane, and its pick (R4, R46, R79, R80). -/
def laneEvents (s : State) (l : Fin 8) : List Instr :=
  let x := s.lane l
  whenDue (decide (x.nextPick = .armed x.counter)) (.nextPickExpiry l) ++
  whenDue (due x.counter x.pickPulseEnd) (.pickPulseEnd l) ++
  whenDue (due x.counter x.pickWindow) (.pickWindowExpiry l) ++
  whenDue (due x.counter x.sampleDue) (.sampleExpiry l (Config.reading s.freeIndex l.val)) ++
  whenDue (due x.counter x.gateLimit) (.gateLimitExpiry l) ++
  whenDue (x.path.any (fun e => due x.counter e.exitWindow)) (.exitWindowExpiry l) ++
  whenDue (due x.counter x.divertEnd) (.divertEnd l) ++
  whenDue (decide (x.state = .spinup) && decide (x.spinRemaining = some 0)) (.endOfSpinup l) ++
  whenDue (decide (x.state = .idle) && decide (x.idleRemaining = some 0)) (.idleCountdownExpiry l) ++
  whenDue (canPick s l) (.pick l)

/-- The due image deadlines (R13). -/
def imageEvents (s : State) : List Instr :=
  (s.sheets.filter (fun r => due (s.lane r.tag.lane).counter r.imageDeadline)).map (fun r =>
    .imageDeadlineExpiry r.tag)

/-- The command that executes a directive of a row; the pins of a line map or line setting are the environment's. -/
def DirectiveRow.command (k : Nat) : DirectiveRow → Instr
  | .unknown => .unknown
  | .laneSet => .laneSet
  | .laneStart => .laneStart
  | .lanePause => .lanePause
  | .laneResume => .laneResume
  | .laneClear => .laneClear
  | .laneManualEnter => .laneManualEnter
  | .laneManualLeave => .laneManualLeave
  | .laneRead => .laneRead
  | .linesMap => .linesMap (Config.pinLevels k)
  | .linesSet => .linesSet (Config.pinLevels k)
  | .linesRead => .linesRead
  | .lanePowerOff => .lanePowerOff
  | .lanePowerIdle => .lanePowerIdle
  | .lanePowerSet => .lanePowerSet
  | .lanePowerStandby => .lanePowerStandby
  | .profileLoad => .profileLoad
  | .profileRead => .profileRead
  | .storeSet => .storeSet
  | .storeRead => .storeRead
  | .resolveAccept => .resolveAccept
  | .resolveReview => .resolveReview
  | .resolveDiscard => .resolveDiscard
  | .heldList => .heldList
  | .sheetRead => .sheetRead
  | .batchOpen => .batchOpen
  | .batchClose => .batchClose
  | .batchAbort => .batchAbort
  | .batchRead => .batchRead
  | .separatorLoad => .separatorLoad
  | .separatorRead => .separatorRead
  | .routeLoad => .routeLoad
  | .routeSwap => .routeSwap
  | .routeRead => .routeRead
  | .destSet => .destSet
  | .destEnable => .destEnable
  | .destDisable => .destDisable
  | .destRead => .destRead
  | .portRead => .portRead
  | .reportSet => .reportSet
  | .eventsRead => .eventsRead
  | .eventsClear => .eventsClear
  | .restart => .restart

/-- The execution of the oldest waiting directive (R184). -/
def directiveEvents (s : State) : List Instr :=
  match s.dirQueue with
  | [] => []
  | d :: _ => [d.row.command s.freeIndex]

/-- Every event of the part's own that is due. -/
def dueEvents (s : State) : List Instr := allLanes.flatMap (laneEvents s) ++ imageEvents s ++ directiveEvents s

/-! ### Time (R1, R79, R80) -/

/-- One microsecond of a lane's prescaler and counter (R1). -/
def Lane.tick (x : Lane) : Lane :=
  if x.config.prescale.toNat ≤ x.partialCount + 1 then { x with partialCount := 0, counter := x.counter + 1 }
  else { x with partialCount := x.partialCount + 1 }

/-- One millisecond of a lane's countdowns (R79, R80). -/
def Lane.tickMs (x : Lane) : Lane :=
  { x with spinRemaining := x.spinRemaining.map (· - 1), idleRemaining := x.idleRemaining.map (· - 1) }

/-- One microsecond passes: every lane's prescaler, and at each thousandth the countdowns (log 6). -/
def tick (s : State) : State :=
  if 999 ≤ s.usPhase then { s with usPhase := 0, lanes := s.lanes.map (fun x => x.tick.tickMs) }
  else { s with usPhase := s.usPhase + 1, lanes := s.lanes.map Lane.tick }

/-- What the part does on an empty command queue (log 2). -/
def idle (s : State) : State :=
  match dueEvents s with
  | [] => tick s
  | es => { s with pending := freeOrder s.freeIndex es, freeIndex := s.freeIndex + 1 }

end Sys2Proof.Machine
end

