-- ==== Sys2Proof/Machine/Dispatch.lean ====
section
/-!
DEFINITION. One arm per command: each calls its own meaning.
-/

namespace Sys2Proof.Machine

def exec (i : Instr) (s : State) : Host.Outcome State Fault Refusal :=
  match i with
  | .powerOn pins straps laneLinks linkA linkB => Sys2Proof.Machine.execPowerOn pins straps laneLinks linkA linkB s
  | .directive p frame => Sys2Proof.Machine.execDirective p frame s
  | .credit p frame => Sys2Proof.Machine.execCredit p frame s
  | .discardedStationFrame p frame => Sys2Proof.Machine.execDiscardedStationFrame p frame s
  | .unknown => Sys2Proof.Machine.execUnknown s
  | .laneSet => Sys2Proof.Machine.execLaneSet s
  | .laneStart => Sys2Proof.Machine.execLaneStart s
  | .lanePause => Sys2Proof.Machine.execLanePause s
  | .laneResume => Sys2Proof.Machine.execLaneResume s
  | .laneClear => Sys2Proof.Machine.execLaneClear s
  | .laneManualEnter => Sys2Proof.Machine.execLaneManualEnter s
  | .laneManualLeave => Sys2Proof.Machine.execLaneManualLeave s
  | .laneRead => Sys2Proof.Machine.execLaneRead s
  | .linesMap pins => Sys2Proof.Machine.execLinesMap pins s
  | .linesSet pins => Sys2Proof.Machine.execLinesSet pins s
  | .linesRead => Sys2Proof.Machine.execLinesRead s
  | .lanePowerOff => Sys2Proof.Machine.execLanePowerOff s
  | .lanePowerIdle => Sys2Proof.Machine.execLanePowerIdle s
  | .lanePowerSet => Sys2Proof.Machine.execLanePowerSet s
  | .lanePowerStandby => Sys2Proof.Machine.execLanePowerStandby s
  | .profileLoad => Sys2Proof.Machine.execProfileLoad s
  | .profileRead => Sys2Proof.Machine.execProfileRead s
  | .storeSet => Sys2Proof.Machine.execStoreSet s
  | .storeRead => Sys2Proof.Machine.execStoreRead s
  | .resolveAccept => Sys2Proof.Machine.execResolveAccept s
  | .resolveReview => Sys2Proof.Machine.execResolveReview s
  | .resolveDiscard => Sys2Proof.Machine.execResolveDiscard s
  | .heldList => Sys2Proof.Machine.execHeldList s
  | .sheetRead => Sys2Proof.Machine.execSheetRead s
  | .batchOpen => Sys2Proof.Machine.execBatchOpen s
  | .batchClose => Sys2Proof.Machine.execBatchClose s
  | .batchAbort => Sys2Proof.Machine.execBatchAbort s
  | .batchRead => Sys2Proof.Machine.execBatchRead s
  | .separatorLoad => Sys2Proof.Machine.execSeparatorLoad s
  | .separatorRead => Sys2Proof.Machine.execSeparatorRead s
  | .routeLoad => Sys2Proof.Machine.execRouteLoad s
  | .routeSwap => Sys2Proof.Machine.execRouteSwap s
  | .routeRead => Sys2Proof.Machine.execRouteRead s
  | .destSet => Sys2Proof.Machine.execDestSet s
  | .destEnable => Sys2Proof.Machine.execDestEnable s
  | .destDisable => Sys2Proof.Machine.execDestDisable s
  | .destRead => Sys2Proof.Machine.execDestRead s
  | .portRead => Sys2Proof.Machine.execPortRead s
  | .reportSet => Sys2Proof.Machine.execReportSet s
  | .eventsRead => Sys2Proof.Machine.execEventsRead s
  | .eventsClear => Sys2Proof.Machine.execEventsClear s
  | .restart => Sys2Proof.Machine.execRestart s
  | .nextPickExpiry l => Sys2Proof.Machine.execNextPickExpiry l s
  | .pickPulseEnd l => Sys2Proof.Machine.execPickPulseEnd l s
  | .pickWindowExpiry l => Sys2Proof.Machine.execPickWindowExpiry l s
  | .sampleExpiry l reading => Sys2Proof.Machine.execSampleExpiry l reading s
  | .gateLimitExpiry l => Sys2Proof.Machine.execGateLimitExpiry l s
  | .imageDeadlineExpiry t => Sys2Proof.Machine.execImageDeadlineExpiry t s
  | .exitWindowExpiry l => Sys2Proof.Machine.execExitWindowExpiry l s
  | .divertEnd l => Sys2Proof.Machine.execDivertEnd l s
  | .endOfSpinup l => Sys2Proof.Machine.execEndOfSpinup l s
  | .idleCountdownExpiry l => Sys2Proof.Machine.execIdleCountdownExpiry l s
  | .lead l => Sys2Proof.Machine.execLead l s
  | .trail l => Sys2Proof.Machine.execTrail l s
  | .exitLead l => Sys2Proof.Machine.execExitLead l s
  | .exitTrail l => Sys2Proof.Machine.execExitTrail l s
  | .coverActive l => Sys2Proof.Machine.execCoverActive l s
  | .coverInactive l => Sys2Proof.Machine.execCoverInactive l s
  | .trayEdge l => Sys2Proof.Machine.execTrayEdge l s
  | .spareEdge l line => Sys2Proof.Machine.execSpareEdge l line s
  | .linkStateChange l up => Sys2Proof.Machine.execLinkStateChange l up s
  | .strip l frame => Sys2Proof.Machine.execStrip l frame s
  | .patch l frame => Sys2Proof.Machine.execPatch l frame s
  | .malformedFrame l frame => Sys2Proof.Machine.execMalformedFrame l frame s
  | .pick l => Sys2Proof.Machine.execPick l s
  | .settlement l => Sys2Proof.Machine.execSettlement l s
  | .queueWaitRetry l => Sys2Proof.Machine.execQueueWaitRetry l s
  | .drainCompletion l => Sys2Proof.Machine.execDrainCompletion l s
  | .batchClosure id => Sys2Proof.Machine.execBatchClosure id s
  | .endOfAbort id => Sys2Proof.Machine.execEndOfAbort id s
  | .frameEnd p => Sys2Proof.Machine.execFrameEnd p s
  | .frameBoundary p => Sys2Proof.Machine.execFrameBoundary p s
  | .pendingLostNotice => Sys2Proof.Machine.execPendingLostNotice s
  | .portLinkUp p => Sys2Proof.Machine.execPortLinkUp p s
  | .portLinkDown p => Sys2Proof.Machine.execPortLinkDown p s

end Sys2Proof.Machine
end

