-- ==== Sys2Proof/Safety.lean ====
section
/-!
DEFINITION. The predicates that statements about the part use: what an executed directive leaves, what stays the same,
the bounds and balances of the shared tables.
-/

namespace Sys2Proof.Machine

/-! ### The interior: everything but the traffic that leaves -/

/-- A port less its traffic: link state and unanswered count. -/
def PortState.interior (q : PortState) : PortState := { PortState.powerOn q.linkUp with unanswered := q.unanswered }

/-- The state less what forming, placing and sending replies, notices and strips changes (R170 to R176, R183, R188, R189):
ports' frames, deliveries, pointers and reply lists, credits, the directive queue, the notice queue with its pending
notice, lost count and NOTICE_LOST flag, and the free index. Two states with one interior agree on everything else. -/
def State.interior (s : State) : State :=
  { s with
    dests := s.dests.map (fun x => { x with credit := 0 })
    portA := s.portA.interior, portB := s.portB.interior
    dirQueue := [], flags := s.flags.set noticeLostFlag.index.val false, notices := [], pendingLost := none,
    lostCount := 0, freeIndex := 0 }

/-- No port can begin a frame: each has one in transmission, or its link DOWN (R171). -/
def portsBusy (s : State) : Prop := ∀ p : Port, (s.port p).linkUp = false ∨ (s.port p).tx.isSome = true

/-! ### Directives -/

/-- Directive `d` is the oldest waiting one and is of a row (R184). -/
abbrev waiting (row : DirectiveRow) (d : Directive) (s : State) : Prop := s.dirQueue.head? = some d ∧ d.row = row

/-- The directive's parameters are `k` bytes long and their first byte is `n`: its lane, index or port (R60, R197). -/
abbrev names (d : Directive) (k n : Nat) : Prop := d.params.length = k ∧ rd d.params 0 1 = n

/-- A port's list of waiting replies has become `rs`, or `rs` with its oldest already begun (R172, R183). -/
def repliesBecome (p : Port) (rs : List Reply) (s t : State) : Prop :=
  (t.port p).replies = rs ∨
  ∃ r0 rest, rs = r0 :: rest ∧ (t.port p).replies = rest ∧
    (t.port p).tx = some (.reply (r0.bytes (ownAddr s.straps)))

/-- Directive `d` has been taken from the queue and answered once, as the newest waiting reply of its port (R184). -/
def answered (d : Directive) (r : Result) (data : List Byte) (s t : State) : Prop :=
  t.dirQueue = s.dirQueue.tail ∧ repliesBecome d.port ((s.port d.port).replies ++ [replyTo d r data]) s t

/-- Whether a result reports an accepted directive (R185). -/
def Result.accepted : Result → Bool
  | .ok | .clamped | .partialDone => true
  | .unknown | .length | .range | .state | .inUse | .notFound | .full | .duplicate | .heldPending | .interlock
  | .noRoute | .config | .busy => false

/-! ### Settlement -/

/-- A sheet has been released under a kind with its delivery entries (R118, R121): an entry at the tail of each
destination's queue, the record kept as RELEASED; with no entries it is freed. -/
def releasedAs (r : Sheet) (es : List (Fin 16 × DeliveryEntry)) (r' : Sheet) (s t : State) : Prop :=
  (∀ x : Fin 16, (t.dest x).queue = (s.dest x).queue ++ (es.filter (fun y => decide (y.1 = x))).map Prod.snd) ∧
  (∀ x : Fin 16, { t.dest x with queue := (s.dest x).queue, credit := (s.dest x).credit } = s.dest x) ∧
  (es = [] → t.sheet? r.tag = none) ∧ (es ≠ [] → t.sheet? r.tag = some r') ∧
  ∀ h, h ≠ r.tag → t.sheet? h = s.sheet? h

/-- The state with the record of sheet `r` freed, its blocks and its reserve returned (R95, R124). -/
def freedOf (r : Sheet) (s : State) : State :=
  { s with
    sheets := s.sheets.filter (fun q => decide (q.tag ≠ r.tag))
    directory := s.directory.filter (fun x => decide (x.block ∉ r.front ++ r.back))
    allocated := s.allocated - (r.front ++ r.back).length
    free := s.free + (r.front ++ r.back).length + r.reserve
    reserved := s.reserved - r.reserve }

/-- The state with the live batch `b` freed and its report handed over (R132, R137, R147). -/
def reportedOf (b : Batch) (final : FinalState) (s : State) : State :=
  ({ s with batches := s.batches.filter (fun c => decide (c.id ≠ b.id)), lastReport := some ⟨b, final⟩ } : State).setFlag
    (.device .batchReport) true

/-- The state with unsettled sheet `r` dropped from lane `l` (R87, R109, R111, R112, R114): out of the settlement order
and freed, its samples ended while it is in the gate, and WITHDRAW sent when its images are not complete and the link is
UP. -/
def dropped (l : Fin 8) (r : Sheet) (s : State) : State :=
  (freedOf r s).modLane l (fun x => { x with
    settleOrder := x.settleOrder.erase r.tag
    sampleDue := if x.gateHolder = some r.tag then none else x.sampleDue
    acc := if x.gateHolder = some r.tag then .empty else x.acc
    toHead := if x.linkUp = true ∧ imagesComplete s r = false then x.toHead ++ [withdrawFrame r.tag] else x.toHead })

/-- The state with the batch `id` gone from active feeding as a drain cause directs, NONE treated as PAUSE; `rest` is what
then waits behind it in the lane's queue (R43, R131). -/
def leftLane (l : Fin 8) (id : Nat) (rest : List Nat) (cause : DrainCause) (s : State) : State :=
  match cause with
  | .none | .pause => s.modBatch id (fun c => { c with state := .queued })
  | .feedEnd =>
    ((s.modBatch id (fun c => { c with state := .ended })).modLane l (fun x => { x with batchQueue := rest })).setFlag
      (.lane l .batchEnd) true
  | .abort => s.modLane l (fun x => { x with batchQueue := rest })

/-- Batch `b`, of the id `id`, is the active batch of lane `l`, its own, with `rest` waiting behind it there (R39, R129,
R130); where the drain cause is ABORT it is aborted (R136). -/
abbrev activeWith (s : State) (l : Fin 8) (id : Nat) (rest : List Nat) (b : Batch) : Prop :=
  (s.lane l).batchQueue = id :: rest ∧ id ∉ rest ∧ s.batch? id = some b ∧ b.lane = l ∧
    (b.state = .feeding ∨ b.state = .draining ∨ b.state = .aborted) ∧
    ((s.lane l).drainCause = .abort → b.state = .aborted)

/-- The state with the batch `id` gone from active feeding as a drain cause directs, and tested at once: with nothing of it
held or pending an ENDED batch is closed (R132), with nothing pending an aborted one is ended (R137). -/
def departed (l : Fin 8) (id : Nat) (rest : List Nat) (cause : DrainCause) (s : State) : State :=
  let b := s.batchOf id
  match cause with
  | .none | .pause => leftLane l id rest cause s
  | .feedEnd =>
    if b.heldNow = 0 ∧ b.deliveriesPending = 0 then
      reportedOf { b with state := .ended } .closed (leftLane l id rest cause s)
    else leftLane l id rest cause s
  | .abort =>
    if b.deliveriesPending = 0 then reportedOf b .aborted (leftLane l id rest cause s) else leftLane l id rest cause s

/-- A lane that has entered IDLE with nothing left in it (R43, R44, R80): its idle countdown at its full length, no spin-up,
and no drain cause. -/
def Lane.rested (x : Lane) : Lane :=
  { x with
    state := .idle, idleRemaining := idleMs x.idleCode, spinTarget := none, spinRemaining := none, drainCause := .none }

/-- The state with the drain of lane `l` completed (R43): the lane in IDLE, its active batch `id` gone as its drain cause
directs. -/
def drainDone (l : Fin 8) (id : Nat) (rest : List Nat) (s : State) : State :=
  departed l id rest (s.lane l).drainCause (s.modLane l Lane.rested)

/-- How many of the delivery entries removed from a queue are of a sheet. -/
def entriesOf (g : Tag) (removed : List DeliveryEntry) : Nat := removed.countP (fun e => decide (e.sheet = g))

/-- How many of them are of a batch's sheets. -/
def entriesOfBatch (s : State) (id : Nat) (removed : List DeliveryEntry) : Nat :=
  removed.countP (fun e => decide (entryBatch s e = some id))

/-- Every removed entry is of a live sheet that counts it as pending. -/
def countedPending (s : State) (removed : List DeliveryEntry) : Prop :=
  ∀ e ∈ removed, ∃ r, s.sheet? e.sheet = some r ∧ entriesOf e.sheet removed ≤ r.pendingDests

/-- Each sheet's pending count has fallen by its entries removed; one that reached 0 so, and is not held, is freed (R124,
R166, R177). -/
def sheetsLose (removed : List DeliveryEntry) (s t : State) : Prop :=
  ∀ g r, s.sheet? g = some r →
    t.sheet? g =
      if 0 < entriesOf g removed ∧ entriesOf g removed = r.pendingDests ∧ r.state ≠ .held then none
      else some { r with pendingDests := r.pendingDests - entriesOf g removed }

/-- Sheets `gs` are, in this order, among those that have left lane `l`'s settlement order, at its head, in command `c`
(R105). A lead of the lane can have joined one sheet to it first: the picking sheet, or one under a tag not in use. -/
def settledFrom (c : Instr) (l : Fin 8) (s t : State) (gs : List Tag) : Prop :=
  ∃ (k : Nat) (newest : List Tag), newest.length ≤ 1 ∧ (newest ≠ [] → c = .lead l) ∧
    (∀ g ∈ newest, (s.lane l).picking = some g ∨ ((s.lane l).picking = none ∧ s.sheet? g = none)) ∧
    (t.lane l).settleOrder = ((s.lane l).settleOrder ++ newest).drop k ∧
    gs.Sublist (((s.lane l).settleOrder ++ newest).take k)

/-- The cursor sheet of a lane, if there is one, still lacks its images and has nothing else that would make it ready
(R106): an examination of the cursor leaves it where it is. -/
def cursorWaits (s : State) (l : Fin 8) : Prop :=
  (s.lane l).settleOrder = [] ∨
  ∃ u rest q, (s.lane l).settleOrder = u :: rest ∧ s.sheet? u = some q ∧ q.queueWait = [] ∧ q.state ≠ .ready ∧
    q.findings.jam = false ∧ batchAborting s q = false ∧ q.divertDone = false ∧ imagesComplete s q = false ∧
    q.imageTimeout = false

/-- An examination of a lane's cursor leaves it where it is: its sheet waits for queue space, which only an event of R117
ends, or is not ready, or there is none. -/
def cursorStays (s : State) (l : Fin 8) : Prop := cursorWait s l ≠ [] ∨ cursorWaits s l

/-! ### Bounds and balances -/

/-- The capacities of the tables and queues: sheets (R102), held sheets (R120), batches (R128), notices (R188), path
orders (R53), lane queues (R129). -/
def capacitiesHold (s : State) : Prop :=
  s.sheets.length ≤ 128 ∧ s.held.length ≤ 48 ∧ s.batches.length ≤ 16 ∧ s.notices.length ≤ 16 ∧
  ∀ l : Fin 8, (s.lane l).path.length ≤ 128 ∧ (s.lane l).batchQueue.length ≤ 4

/-- Every queue and credit within its range (R167, R170). -/
def destsHold (s : State) : Prop := ∀ d : Fin 16, (s.dest d).queue.length ≤ 48 ∧ (s.dest d).credit ≤ 4095

/-- The places of the directive queue and of the reply lists are enough for what they hold (R183). -/
def placesHold (s : State) : Prop := queuePlaces s ≤ 8 ∧ ∀ p : Port, replyPlaces s p ≤ 16

/-- The page store's counts sum to its size, and count what the live records hold (R93); tags are distinct (R102). -/
def storeBalanced (s : State) : Prop :=
  s.free + s.reserved + s.allocated = 4096 ∧
  s.reserved = (s.sheets.map Sheet.reserve).sum ∧
  s.allocated = (s.sheets.map (fun r => r.front.length + r.back.length)).sum ∧
  (s.sheets.map Sheet.tag).Nodup

/-- A lane's picking sheet carries the lane's own tags (R48, R102). -/
def picksOwnTags (s : State) : Prop := ∀ (l : Fin 8) (g : Tag), (s.lane l).picking = some g → g.lane = l

/-- Every working baseline lies in its profile's band (R37). -/
def baselinesHold (s : State) : Prop :=
  ∀ i : Fin 16, 1 ≤ (s.profile i).b0 ∧ (s.profile i).b0 ≤ 4095 ∧
    bandLow (s.profile i).b0 ≤ (s.profile i).working ∧ (s.profile i).working ≤ bandHigh (s.profile i).b0

end Sys2Proof.Machine
end

