-- ==== Sys2Proof/Certificates/Slice0/Obligations.lean ====
section
/-!
DEFINITION. The statements for the provers. A statement that an executed directive leaves a state with a given interior
says all that changes but for the traffic that leaves (`State.interior`); `answered` says what becomes of its reply.
-/

open Sys2Proof Sys2Proof.Machine

/-! ### The step -/

/-- A step with a command at the front of the queue runs that command on the rest of the queue. -/
def Obligations.StepRunsFrontCommand : Prop :=
  ∀ (c : Instr) (rest : List Instr) (s : State), s.pending = c :: rest → step s = exec c { s with pending := rest }

/-- Log 2, the model's choice: on an empty queue the part's own due events enter the queue in some order, and with none
due one microsecond passes. What is due: every deadline equal to its lane's counter (R4, R13), every countdown at 0 in
the state it runs in (R79, R80), every pick whose conditions all hold (R46), and the execution of the oldest waiting
directive (R184). In the microsecond every lane's prescaler counts, a lane whose prescale is reached advances its counter
by one, modulo 2^20 (R1), and at each thousandth one the countdowns that run lose a millisecond (R79, R80); that one
millisecond phase is common to all lanes is the model's choice (log 6). Nothing else changes. -/
def Obligations.EmptyQueueRaisesDueEventsOrTicks : Prop :=
  ∀ s : State, s.pending = [] →
    let picks := fun (l : Fin 8) => (s.lane l).state = .feeding ∧ (s.lane l).nextPick = .passed ∧
      (s.lane l).picking = none ∧ openSheets s l < (s.lane l).config.depth ∧
      (∃ id, s.activeBatch l = some id ∧ ((s.batchOf id).expected = 0 ∨ (s.batchOf id).fed < (s.batchOf id).expected)) ∧
      s.sheets.length < 128 ∧ (s.lane l).config.reserve ≤ s.free
    let ofLane := fun (l : Fin 8) (x : Lane) (i : Instr) =>
      (x.nextPick = .armed x.counter ∧ i = .nextPickExpiry l) ∨
      (x.pickPulseEnd = some x.counter ∧ i = .pickPulseEnd l) ∨
      (x.pickWindow = some x.counter ∧ i = .pickWindowExpiry l) ∨
      (x.sampleDue = some x.counter ∧ i = .sampleExpiry l (Config.reading s.freeIndex l.val)) ∨
      (x.gateLimit = some x.counter ∧ i = .gateLimitExpiry l) ∨
      ((∃ e ∈ x.path, e.exitWindow = some x.counter) ∧ i = .exitWindowExpiry l) ∨
      (x.divertEnd = some x.counter ∧ i = .divertEnd l) ∨
      (x.state = .spinup ∧ x.spinRemaining = some 0 ∧ i = .endOfSpinup l) ∨
      (x.state = .idle ∧ x.idleRemaining = some 0 ∧ i = .idleCountdownExpiry l) ∨ (picks l ∧ i = .pick l)
    let isDue := fun (i : Instr) =>
      (∃ l : Fin 8, ofLane l (s.lane l) i) ∨
      (∃ r ∈ s.sheets, r.imageDeadline = some (s.lane r.tag.lane).counter ∧ i = .imageDeadlineExpiry r.tag) ∨
      ∃ d, s.dirQueue.head? = some d ∧ i = d.row.command s.freeIndex
    ((∃ i, isDue i) → ∃ t, step s = .next t ∧ (∀ i, i ∈ t.pending ↔ isDue i) ∧
      ((s.sheets.map Sheet.tag).Nodup → t.pending.Nodup) ∧ { t with pending := [], freeIndex := s.freeIndex } = s) ∧
    ((∀ i, ¬ isDue i) → ∃ t, step s = .next t ∧
      t = { s with lanes := t.lanes, usPhase := if 999 ≤ s.usPhase then 0 else s.usPhase + 1 } ∧
      ∀ l : Fin 8,
        let x := s.lane l
        let reached := x.config.prescale.toNat ≤ x.partialCount + 1
        t.lane l = { x with
          counter := if reached then x.counter + 1 else x.counter
          partialCount := if reached then 0 else x.partialCount + 1
          spinRemaining := if 999 ≤ s.usPhase then x.spinRemaining.map (· - 1) else x.spinRemaining
          idleRemaining := if 999 ≤ s.usPhase then x.idleRemaining.map (· - 1) else x.idleRemaining })

/-! ### Whole-machine invariants -/

/-- The canonical form of the page store's DRAM (its contents R93, the form of its list the model's choice, log 14) is
kept by every step, whatever the command. -/
def Obligations.StepKeepsDramCanonical : Prop :=
  ∀ s t : State, Memory.wf s.dram → step s = .next t → Memory.wf t.dram

/-- R53, R102, R120, R128, R129, R167, R170, R188: every step keeps the capacities of the part's tables, lists and queues,
and each destination's credit within 0..4095. -/
def Obligations.StepKeepsCapacities : Prop :=
  (∀ s t : State, capacitiesHold s → step s = .next t → capacitiesHold t) ∧
  ∀ s t : State, destsHold s → step s = .next t → destsHold t

/-- R93, R95: every step keeps the page store balanced: free, reserved and allocated sum to 4096, reserved is the sum of
the live records' reserves, allocated the number of their strips, and tags stay distinct (R102). The sheet table within
its 128 records is part of the invariant, since a fresh tag is found only then. -/
def Obligations.StepKeepsStoreBalanced : Prop :=
  ∀ s t : State, storeBalanced s → s.sheets.length ≤ 128 → step s = .next t → storeBalanced t

/-- R37: every step keeps each profile's working baseline inside its band. -/
def Obligations.StepKeepsBaselinesInBand : Prop :=
  ∀ s t : State, baselinesHold s → step s = .next t → baselinesHold t

/-- R183: every step keeps the directive queue within its 8 places and each reply list, with what is reserved in it,
within its 16. -/
def Obligations.StepKeepsDirectivePlaces : Prop :=
  ∀ s t : State, placesHold s → step s = .next t → placesHold t

/-- The state after reset meets every one of these invariants. -/
def Obligations.ResetMeetsInvariants : Prop :=
  Memory.wf State.reset.dram ∧ capacitiesHold State.reset ∧ storeBalanced State.reset ∧ baselinesHold State.reset ∧
    destsHold State.reset ∧ placesHold State.reset ∧ picksOwnTags State.reset

/-! ### Power-on -/

/-- R1, R5, R10, R16, R31, R39, R67, R71, R84, R85, R93, R98, R100, R102, R127, R139, R149, R150, R162, R163, R171 and
R195, with the other power-on rules of these chapters: POWER_ON puts every unit into its power-on state, whatever the
state was: lanes, profiles, sheets, batches, page store, routes, destinations and port schedulers; the sensed levels and
the link states of lanes and ports are those presented, and the waiting commands stay. The station interface's own part is
the next statement. The copied settings of the empty accumulator, the orphan and malformed counts, and that no frame is
still to be sent to a head, are the model's choices (logs 25, 33). -/
def Obligations.PowerOnResetsEveryUnit : Prop :=
  ∀ (pins : Vector (BitVec 8) 8) (straps links : BitVec 8) (la lb : Bool) (s : State),
    ∃ t, exec (.powerOn pins straps links la lb) s = .next t ∧
      (∀ l : Fin 8,
        (t.lane l).counter = 0 ∧ (t.lane l).partialCount = 0 ∧ (t.lane l).config = LaneConfig.powerOn ∧
        (t.lane l).lastLead = 0 ∧ (t.lane l).lastTrail = 0 ∧ (t.lane l).lastExitLead = 0 ∧
        (t.lane l).lastExitTrail = 0 ∧ (t.lane l).nextPick = .none ∧ (t.lane l).pickPulseEnd = none ∧
        (t.lane l).pickWindow = none ∧ (t.lane l).sampleDue = none ∧ (t.lane l).gateLimit = none ∧
        (t.lane l).divertEnd = none ∧ (t.lane l).gateHolder = none ∧ (t.lane l).exitHolder = none ∧
        (t.lane l).state = .off ∧ (t.lane l).spinTarget = none ∧ (t.lane l).drainCause = .none ∧
        (t.lane l).haltReason = .none ∧ (t.lane l).jamReason = .none ∧ (t.lane l).sequence = 0 ∧
        (t.lane l).picking = none ∧ (t.lane l).path = [] ∧ (t.lane l).settleOrder = [] ∧
        (t.lane l).batchQueue = [] ∧ (t.lane l).pickDriven = false ∧ (t.lane l).divertDriven = false ∧
        (t.lane l).spinTime = 250 ∧ (t.lane l).idleCode = 0 ∧ (t.lane l).spinRemaining = none ∧
        (t.lane l).idleRemaining = none ∧ (t.lane l).lastSample = 0 ∧ (t.lane l).acc = .empty ∧
        (t.lane l).linkUp = links.getLsbD l.val ∧ (t.lane l).orphans = 0 ∧ (t.lane l).malformed = 0 ∧
        (t.lane l).toHead = [] ∧
        ∀ n : Fin 8, ((t.lane l).line n).activeLevel = .high ∧ ((t.lane l).line n).latch = false ∧
          ((t.lane l).line n).spareDirection = .input ∧ ((t.lane l).line n).mode = .edge ∧
          ((t.lane l).line n).role.code = n.val ∧ ((t.lane l).line n).sensed = pinLevel pins[l.val] n.val) ∧
      (∀ i : Fin 16, t.profile i = Profile.powerOn ∧ t.dest i = Dest.powerOn) ∧
      t.sheets = [] ∧ t.held = [] ∧ t.batches = [] ∧ t.lastReport = none ∧ t.directory = [] ∧
      t.free = 4096 ∧ t.reserved = 0 ∧ t.allocated = 0 ∧ t.lowMark = 0 ∧
      t.bank0 = Vector.replicate 64 .invalid ∧ t.bank1 = Vector.replicate 64 .invalid ∧ t.activeBank = .b0 ∧
      t.separators = Vector.replicate 8 .powerOn ∧ t.straps = straps ∧ t.pending = s.pending ∧
      t.portA.linkUp = la ∧ t.portB.linkUp = lb ∧
      ∀ p : Port, (t.port p).tx = none ∧ (t.port p).current = none ∧ (t.port p).suspended = none ∧
        (t.port p).rr = Vector.replicate 4 15

/-- R194: after power-on the station interface is empty, no flag and no mark is set, and no report station is present;
and while no mark is set, a flag that is set forms no notice. -/
def Obligations.PowerOnStationInterfaceEmpty : Prop :=
  (∀ (pins : Vector (BitVec 8) 8) (straps links : BitVec 8) (la lb : Bool) (s : State),
    ∃ t, exec (.powerOn pins straps links la lb) s = .next t ∧ t.dirQueue = [] ∧ t.portA.replies = [] ∧
      t.portB.replies = [] ∧ t.notices = [] ∧ t.pendingLost = none ∧ (∀ f : Flag, t.flag f = false) ∧
      (∀ f : Flag, t.masked f = false) ∧ t.reportStation = none ∧ t.lostCount = 0 ∧ t.portA.unanswered = 0 ∧
      t.portB.unanswered = 0) ∧
  ∀ (s : State) (f : Flag), s.masked f = false → (raise f s).notices = s.notices

/-! ### Frames at the archive ports -/

/-- R183: a directive that arrives takes a place of the queue and one of its port's reply list; with no place in the reply
list it is discarded and counted, and otherwise, with the queue full, it is answered BUSY. Nothing else changes but what
the ports then begin to send. -/
def Obligations.DirectiveAdmission : Prop :=
  ∀ (s : State) (p : Port) (frame : List Byte) (d : Directive), (s.port p).linkUp = true →
    readStationFrame (ownAddr s.straps) p frame = .directive d →
    ∃ t, exec (.directive p frame) s = .next t ∧
      (if 16 ≤ replyPlaces s p then
        t.interior = (s.modPort p (fun q => { q with unanswered := addSat q.unanswered 1 })).interior ∧
          t.dirQueue = s.dirQueue ∧ repliesBecome p (s.port p).replies s t
      else if 8 ≤ queuePlaces s then
        t.interior = s.interior ∧ t.dirQueue = s.dirQueue ∧
          repliesBecome p ((s.port p).replies ++ [busyReply d]) s t
      else
        t.interior = s.interior ∧ t.dirQueue = s.dirQueue ++ [d] ∧ repliesBecome p (s.port p).replies s t)

/-- R169: a credit frame in range for an enabled destination of the arriving port adds its count to the credit, up to 4095,
with the ports busy so that nothing is drawn down at once; out of range, or for no such destination, it changes nothing.
R182, R196: neither does a frame of another type, for another address, of another kind, or too short. -/
def Obligations.CreditFrameRaisesCredit : Prop :=
  (∀ (s : State) (p : Port) (frame : List Byte) (source : Addr) (count : Nat), (s.port p).linkUp = true → portsBusy s →
      readStationFrame (ownAddr s.straps) p frame = .credit source count →
      (∀ d : Fin 16, 1 ≤ count → count ≤ 4095 → (s.dest d).enabled = true → (s.dest d).addr = source →
        (s.dest d).port = p → (∀ e : Fin 16, (s.dest e).enabled = true → (s.dest e).addr = source →
          (s.dest e).port = p → e = d) →
        exec (.credit p frame) s = .next (s.modDest d (fun x => { x with credit := min 4095 (x.credit + count) }))) ∧
      ((count = 0 ∨ 4095 < count ∨ ∀ d : Fin 16, (s.dest d).enabled = true → (s.dest d).addr = source →
        (s.dest d).port ≠ p) → exec (.credit p frame) s = .next s)) ∧
  (∀ (s : State) (p : Port) (frame : List Byte),
      (frame.length < 17 ∨ rd frame 12 2 ≠ 0x88B5 ∨ rd frame 0 6 ≠ (ownAddr s.straps).toNat ∨
        (rd frame 14 1 ≠ 1 ∧ rd frame 14 1 ≠ 4) ∨ (rd frame 14 1 = 1 ∧ (stationBody frame).length < 3) ∨
        (rd frame 14 1 = 4 ∧ (stationBody frame).length < 2)) →
      exec (.discardedStationFrame p frame) s = .next s)

/-! ### Directives in general -/

/-- R184, R185: whatever directive waits oldest, but RESTART, its execution completes, takes it from the queue, gives one
reply to its source on its port, and, unless the result is one of the accepted ones, changes nothing else; a code that
names no directive gives UNKNOWN, and a RESTART with a body that is not empty gives LENGTH. -/
def Obligations.EveryDirectiveAnsweredOnce : Prop :=
  ∀ (s : State) (d : Directive), s.dirQueue.head? = some d →
    (d.row ≠ .restart → ∃ t r data, exec (d.row.command s.freeIndex) s = .next t ∧ answered d r data s t ∧
      (r.accepted = false → t.interior = s.interior ∧ data = [])) ∧
    ((d.code = 0 ∨ 0x24 < d.code.toNat) →
      ∃ t, exec .unknown s = .next t ∧ answered d .unknown [] s t ∧ t.interior = s.interior) ∧
    (d.row = .restart → d.params ≠ [] →
      ∃ t, exec .restart s = .next t ∧ answered d .length [] s t ∧ t.interior = s.interior)

/-! ### Lane directives -/

/-- R2, R3, R30, R45: an accepted LANE_SET stores every setting brought into its range; the reply is CLAMPED when one had
to be; a changed prescale sets the partial count to 0; the counter stays. -/
def Obligations.LaneSetStoresConfiguration : Prop :=
  ∀ (s : State) (d : Directive) (l : Fin 8) (pre : Prescale), waiting .laneSet d s → names d 31 l.val →
    Prescale.ofCode (rd d.params 1 1) = some pre →
    ((pre = (s.lane l).config.prescale ∧ clampTo 1 6 (rd d.params 25 1) = (s.lane l).config.depth) ∨
      (s.lane l).state = .off ∨ (s.lane l).state = .idle) →
    let raw := carriedConfig d.params pre
    ∃ t, exec .laneSet s = .next t ∧ answered d (if raw.clamp = raw then .ok else .clamped) [] s t ∧
      t.interior = (s.modLane l (fun x => { x with
        config := { prescale := pre, gap := max 1 (min 524287 raw.gap), pickPulse := max 1 (min 524287 raw.pickPulse),
                    pickWindow := max 1 (min 524287 raw.pickWindow),
                    sampleInterval := max 1 (min 1023 raw.sampleInterval),
                    gateLimit := max 1 (min 524287 raw.gateLimit), imageWindow := max 1 (min 524287 raw.imageWindow),
                    exitWindow := max 1 (min 524287 raw.exitWindow),
                    divertPulse := max 1 (min 524287 raw.divertPulse), depth := max 1 (min 6 raw.depth),
                    retryLimit := min 7 raw.retryLimit, reserve := max 1 (min 256 raw.reserve),
                    pitch := max 1 (min 65535 raw.pitch) }
        partialCount := if pre = x.config.prescale then x.partialCount else 0 })).interior

/-- R61: LANE_START with every check passed makes the head batch FEEDING, clears drain cause and halt reason, sets the
next pick PASSED, and takes the lane from OFF into SPINUP with its countdown, or from IDLE into FEEDING. The first check
that fails refuses it and nothing changes: STATE in another state, CONFIG without ENTRY, EXIT, MOTOR or PICK, INTERLOCK
while COVER is active (R76), HELD_PENDING with a sheet of the lane held, NOT_FOUND with no batch queued, CONFIG with double-feed
action DIVERT and no DIVERT line. -/
def Obligations.LaneStartStartsHeadBatch : Prop :=
  ∀ (s : State) (d : Directive) (l : Fin 8), waiting .laneStart d s → names d 1 l.val →
    let refused := fun (r : Result) =>
      ∃ t, exec .laneStart s = .next t ∧ answered d r [] s t ∧ t.interior = s.interior
    ((s.lane l).state ≠ .off → (s.lane l).state ≠ .idle → refused .state) ∧
    ((s.lane l).state = .off ∨ (s.lane l).state = .idle →
      ((s.lane l).canFeed = false → refused .config) ∧
      ((s.lane l).canFeed = true → (s.lane l).coverCondition = true → refused .interlock) ∧
      ((s.lane l).canFeed = true → (s.lane l).coverCondition = false →
        (laneHeld s l = true → refused .heldPending) ∧
        (laneHeld s l = false → (s.lane l).batchQueue = [] → refused .notFound) ∧
        (∀ id rest, laneHeld s l = false → (s.lane l).batchQueue = id :: rest →
          ((s.batchOf id).action = .divert → (s.lane l).hasRole .divert = false → refused .config) ∧
          ((s.batchOf id).action ≠ .divert ∨ (s.lane l).hasRole .divert = true →
            ∃ t, exec .laneStart s = .next t ∧ answered d .ok [] s t ∧
              t.interior = ((s.modBatch id (fun b => { b with state := .feeding })).modLane l (fun x =>
                if x.state = .off then
                  { x with state := .spinup, spinTarget := some .feeding, spinRemaining := some x.spinTime,
                           idleRemaining := none, drainCause := .none, haltReason := .none, nextPick := .passed }
                else
                  { x with state := .feeding, idleRemaining := none, drainCause := .none, haltReason := .none,
                           nextPick := .passed })).interior))))

/-- R42, R43, R62: LANE_PAUSE sets drain cause PAUSE and makes the batch DRAINING; a lane with sheets still in it enters
DRAINING; an empty one completes its drain at once: IDLE, with its batch back in QUEUED and the drain cause NONE. A lane that
does not feed, or has a drain cause already, refuses it with STATE.
R63: LANE_RESUME of a HALTED lane with every check passed: with drain cause NONE it is FEEDING, the halt reason NONE, and
the next pick as it stands; with another it is DRAINING, and a lane with nothing left in it completes its drain at once,
its batch leaving by the drain cause (R131), and closed or ended when nothing of it is pending (R132, R137). The first check
that fails refuses it and nothing changes: STATE in another state, CONFIG without ENTRY, EXIT, MOTOR or PICK, INTERLOCK
while COVER is active (R76), HELD_PENDING with a sheet of the lane held. -/
def Obligations.LanePauseDrainsAndResumeFeeds : Prop :=
  (∀ (s : State) (d : Directive) (l : Fin 8), waiting .lanePause d s → names d 1 l.val →
      let feeds := (s.lane l).state = .feeding ∨ (s.lane l).state = .halted ∨
        ((s.lane l).state = .spinup ∧ (s.lane l).spinTarget = some .feeding)
      ((s.lane l).drainCause ≠ .none ∨ ¬ feeds →
        ∃ t, exec .lanePause s = .next t ∧ answered d .state [] s t ∧ t.interior = s.interior) ∧
      (∀ id rest b, (s.lane l).drainCause = .none → feeds → (s.lane l).batchQueue = id :: rest → s.batch? id = some b →
        b.state = .feeding →
        ∃ t, exec .lanePause s = .next t ∧ answered d .ok [] s t ∧
          (if (s.lane l).nothingInProgress = true then
            t.interior = ((s.modBatch id (fun c => { c with state := .queued })).modLane l (fun x =>
              { x with state := .idle, haltReason := .none, spinTarget := none, spinRemaining := none,
                       idleRemaining := idleMs x.idleCode, drainCause := .none })).interior
          else
            t.interior = ((s.modBatch id (fun c =>
              if c.state = .feeding then { c with state := .draining } else c)).modLane l (fun x =>
                { x with state := .draining, haltReason := .none, spinTarget := none, spinRemaining := none,
                         drainCause := .pause })).interior))) ∧
  (∀ (s : State) (d : Directive) (l : Fin 8), waiting .laneResume d s → names d 1 l.val →
      let refused := fun (r : Result) =>
        ∃ t, exec .laneResume s = .next t ∧ answered d r [] s t ∧ t.interior = s.interior
      ((s.lane l).state ≠ .halted → refused .state) ∧
      ((s.lane l).state = .halted →
        ((s.lane l).canFeed = false → refused .config) ∧
        ((s.lane l).canFeed = true → (s.lane l).coverCondition = true → refused .interlock) ∧
        ((s.lane l).canFeed = true → (s.lane l).coverCondition = false →
          (laneHeld s l = true → refused .heldPending) ∧
          (laneHeld s l = false →
            ((s.lane l).drainCause = .none →
              ∃ t, exec .laneResume s = .next t ∧ answered d .ok [] s t ∧
                t.interior = (s.modLane l (fun x => { x with state := .feeding, haltReason := .none })).interior) ∧
            ((s.lane l).drainCause ≠ .none → (s.lane l).nothingInProgress = false →
              ∃ t, exec .laneResume s = .next t ∧ answered d .ok [] s t ∧
                t.interior = (s.modLane l (fun x => { x with
                  state := .draining, haltReason := .none, spinTarget := none, spinRemaining := none })).interior) ∧
            (∀ id rest b, (s.lane l).drainCause ≠ .none → (s.lane l).nothingInProgress = true →
              activeWith s l id rest b →
              ∃ t, exec .laneResume s = .next t ∧ answered d .ok [] s t ∧
                t.interior = (drainDone l id rest (s.modLane l (fun x =>
                  { x with haltReason := .none }))).interior)))))

/-- R64, R87, R111, R131: LANE_CLEAR of a JAMMED or HALTED lane with its cover closed: the lane IDLE with the idle
countdown, lists and gate emptied and reasons NONE, its picking sheet and every unsettled sheet freed. In full: with
nothing unsettled and no sheet picking, the active batch, if there is one, leaves as the drain cause directs, NONE as PAUSE:
QUEUED again at the head, ENDED, or out of the queue; with one unsettled sheet, and perhaps a picking one, the unsettled
sheet is first settled DISCARDED. A batch so ENDED or aborted with nothing pending is closed or ended (R132, R137). In another
state LANE_CLEAR is refused with STATE (before INTERLOCK: the model's choice, log 30), and while COVER is active with
INTERLOCK (R76). R22 discards the measurement of a sheet dropped in the gate; that the copied settings of the accumulator
are then 0 is the model's choice (log 25). -/
def Obligations.LaneClearEmptiesLane : Prop :=
  ∀ (s : State) (d : Directive) (l : Fin 8), waiting .laneClear d s → names d 1 l.val →
    let refused := fun (r : Result) =>
      ∃ t, exec .laneClear s = .next t ∧ answered d r [] s t ∧ t.interior = s.interior
    let cleared := fun (x : Lane) => { x.rested with
      haltReason := .none, jamReason := .none, path := [], gateHolder := none, exitHolder := none, gateLimit := none,
      sampleDue := none }
    let discarded := fun (c : Batch) => { c with
      settled := min (c.settled + 1) 65535, discarded := min (c.discarded + 1) 65535 }
    ((s.lane l).state ≠ .jammed → (s.lane l).state ≠ .halted → refused .state) ∧
    ((s.lane l).state = .jammed ∨ (s.lane l).state = .halted →
      ((s.lane l).coverCondition = true → refused .interlock) ∧
      ((s.lane l).coverCondition = false →
        let clears := fun (P : State → Prop) => ∃ t, exec .laneClear s = .next t ∧ answered d .ok [] s t ∧ P t
        clears (fun t => (t.lane l).state = .idle ∧ (t.lane l).idleRemaining = idleMs (s.lane l).idleCode ∧
          (t.lane l).haltReason = .none ∧ (t.lane l).jamReason = .none ∧ (t.lane l).picking = none ∧
          (t.lane l).path = [] ∧ (t.lane l).settleOrder = [] ∧ (t.lane l).gateHolder = none ∧
          (t.lane l).exitHolder = none ∧
          ∀ g, g ∈ (s.lane l).settleOrder ∨ (s.lane l).picking = some g → t.sheet? g = none) ∧
        ((s.lane l).picking = none → (s.lane l).settleOrder = [] → s.activeBatch l = none →
          clears (fun t => t.interior = (s.modLane l cleared).interior)) ∧
        (∀ id rest b, activeWith s l id rest b →
          ((s.lane l).picking = none → (s.lane l).settleOrder = [] →
            clears (fun t => t.interior =
              (departed l id rest (s.lane l).drainCause (s.modLane l cleared)).interior)) ∧
          (∀ g r, (s.lane l).settleOrder = [g] → s.sheet? g = some r → r.batch = id →
            ((s.lane l).picking = none →
              clears (fun t => t.interior = (departed l id rest (s.lane l).drainCause
                (((dropped l r s).modBatch id discarded).modLane l cleared)).interior)) ∧
            (∀ p q, (s.lane l).picking = some p → p ≠ g → s.sheet? p = some q →
              clears (fun t => t.interior = (departed l id rest (s.lane l).drainCause
                (((dropped l r ((freedOf q s).modLane l (fun x =>
                  { x with picking := none, pickWindow := none }))).modBatch id discarded).modLane l
                    cleared)).interior))))))

/-- R65: LANE_MANUAL ENTER takes an OFF lane to MANUAL, LEAVE a MANUAL lane to OFF; either clears the drive latches and
ends the pulses, and after ENTER no pick, sample, gate-limit, exit-window or divert deadline is armed. That an ARMED next
pick becomes NONE and a gate holder left over in OFF becomes absent at ENTER is the model's choice (log 31). -/
def Obligations.LaneManualMovesBetweenOffAndManual : Prop :=
  ∀ (s : State) (d : Directive) (l : Fin 8), names d 2 l.val →
    (waiting .laneManualEnter d s → rd d.params 1 1 = 0 → (s.lane l).state = .off →
      ∃ t, exec .laneManualEnter s = .next t ∧ answered d .ok [] s t ∧
        t.interior = (s.modLane l (fun x => { x.clearDriveLatches with
          state := .manual, pickPulseEnd := none, pickDriven := false, divertEnd := none, divertDriven := false
          nextPick := match x.nextPick with
            | .armed _ => .none
            | q => q
          pickWindow := none, sampleDue := none, gateLimit := none, gateHolder := none
          path := x.path.map (fun e => { e with exitWindow := none }) })).interior) ∧
    (waiting .laneManualLeave d s → (s.lane l).state = .manual →
      ∃ t, exec .laneManualLeave s = .next t ∧ answered d .ok [] s t ∧
        t.interior = (s.modLane l (fun x => { x.clearDriveLatches with
          state := .off, pickPulseEnd := none, pickDriven := false, divertEnd := none,
          divertDriven := false })).interior)

/-! ### Lines and lane power -/

/-- R69, R71: an accepted LINES_MAP on an OFF lane stores all eight roles and active levels; a changed role clears latch
and event mode and, where it becomes SPARE, makes the line INPUT; a line that keeps its role keeps latch and event mode, and
a SPARE one its direction too; each input takes its level afresh from its pin. With a role other than SPARE named twice it
is refused with RANGE, and otherwise on a lane that is not OFF with STATE. -/
def Obligations.LinesMapStoresMap : Prop :=
  ∀ (s : State) (d : Directive) (l : Fin 8) (pins : BitVec 8) (role : Fin 8 → Role) (lvl : Fin 8 → Level),
    waiting .linesMap d s → names d 17 l.val →
    (∀ n : Fin 8, Role.ofCode (rd d.params (1 + 2 * n.val) 1) = some (role n) ∧
      Level.ofCode (rd d.params (2 + 2 * n.val) 1) = some (lvl n)) →
    let refused := fun (r : Result) =>
      ∃ t, exec (.linesMap pins) s = .next t ∧ answered d r [] s t ∧ t.interior = s.interior
    let once := ∀ n k : Fin 8, role n = role k → role n ≠ .spare → n = k
    (¬ once → refused .range) ∧ (once → (s.lane l).state ≠ .off → refused .state) ∧
    (once → (s.lane l).state = .off → ∃ t, exec (.linesMap pins) s = .next t ∧ answered d .ok [] s t ∧
      t.interior = ({ s with lanes := t.lanes, flags := t.flags } : State).interior ∧
      (∀ f, f ≠ .lane l .spare → f ≠ noticeLostFlag → t.flag f = s.flag f) ∧
      t.flag (.lane l .spare) = (s.flag (.lane l .spare) || (t.lane l).holdsSpare) ∧
      (∀ k : Fin 8, k ≠ l → t.lane k = s.lane k) ∧ { t.lane l with lines := (s.lane l).lines } = s.lane l ∧
      ∀ n : Fin 8,
        ((t.lane l).line n).role = role n ∧ ((t.lane l).line n).activeLevel = lvl n ∧
        ((t.lane l).line n).latch = (decide (role n = ((s.lane l).line n).role) && ((s.lane l).line n).latch) ∧
        (role n ≠ ((s.lane l).line n).role → ((t.lane l).line n).mode = .edge) ∧
        (role n = ((s.lane l).line n).role → ((t.lane l).line n).mode = ((s.lane l).line n).mode) ∧
        (role n = .spare → ((s.lane l).line n).role ≠ .spare → ((t.lane l).line n).direction = .input) ∧
        (role n = .spare → ((s.lane l).line n).role = .spare →
          ((t.lane l).line n).direction = ((s.lane l).line n).direction ∧
          ((t.lane l).line n).spareDirection = ((s.lane l).line n).spareDirection) ∧
        (((t.lane l).line n).direction = .input → ((t.lane l).line n).sensed = pinLevel pins n.val))

/-- R72: a LINES_SET of one entry that gives a SPARE line a latch stores it, in any lane state; on a drive-role line the
same is accepted in MANUAL and refused with STATE elsewhere. R71, R72, R75: an accepted LINES_SET of 1 to 8 entries stores
every part each entry holds, later entries over earlier ones; a line that turns input takes its level from its pin; and
an entry with a direction or an event mode that leaves its line a LEVEL-mode input at its active level sets SPARE. With
both parts in one entry that this is judged on the line as the whole entry leaves it is the model's choice (log 32).
R72, R197: an entry count outside 1..8 is refused with RANGE, another length than the count gives with LENGTH, whatever the
lane, and then a lane above 7 with RANGE; that a body without a count is refused with LENGTH is the model's reading
(log 22). -/
def Obligations.LinesSetWritesLatch : Prop :=
  (∀ (s : State) (d : Directive) (l n : Fin 8) (v : Bool) (pins : BitVec 8), waiting .linesSet d s → names d 7 l.val →
    rd d.params 1 1 = 1 → rd d.params 2 1 = n.val → rd d.params 3 1 = 2 → rd d.params 5 1 = flagByte v →
    (((s.lane l).line n).role = .spare ∨ (((s.lane l).line n).role.isDrive = true ∧ (s.lane l).state = .manual) →
      ∃ t, exec (.linesSet pins) s = .next t ∧ answered d .ok [] s t ∧
        t.interior = (s.modLane l (fun x => x.setLine n { x.line n with latch := v })).interior) ∧
    (((s.lane l).line n).role.isDrive = true → (s.lane l).state ≠ .manual →
      ∃ t, exec (.linesSet pins) s = .next t ∧ answered d .state [] s t ∧ t.interior = s.interior)) ∧
  (∀ (s : State) (d : Directive) (pins : BitVec 8), waiting .linesSet d s →
    let count := rd d.params 1 1
    let refused := fun (r : Result) =>
      ∃ t, exec (.linesSet pins) s = .next t ∧ answered d r [] s t ∧ t.interior = s.interior
    (d.params.length < 2 → refused .length) ∧
    (2 ≤ d.params.length → count = 0 ∨ 8 < count → refused .range) ∧
    (1 ≤ count → count ≤ 8 → d.params.length ≠ 2 + 5 * count → refused .length) ∧
    (1 ≤ count → count ≤ 8 → d.params.length = 2 + 5 * count → 7 < rd d.params 0 1 → refused .range)) ∧
  ∀ (s : State) (d : Directive) (l : Fin 8) (k : Nat) (pins : BitVec 8), waiting .linesSet d s → 1 ≤ k → k ≤ 8 →
    names d (2 + 5 * k) l.val → rd d.params 1 1 = k →
    let line := fun (i : Nat) => rd d.params (2 + 5 * i) 1
    let part := fun (i j : Nat) => (rd d.params (3 + 5 * i) 1).testBit j
    let direction := fun (i : Nat) => rd d.params (4 + 5 * i) 1
    let latch := fun (i : Nat) => rd d.params (5 + 5 * i) 1
    let mode := fun (i : Nat) => rd d.params (6 + 5 * i) 1
    (∀ i, i < k → ∃ n : Fin 8, line i = n.val ∧
      (part i 0 = true ∨ part i 2 = true → ((s.lane l).line n).role = .spare) ∧
      (part i 0 = true → direction i ≤ 1) ∧ (part i 2 = true → mode i ≤ 1) ∧
      (part i 1 = true → latch i ≤ 1 ∧ (((s.lane l).line n).role = .spare ∨
        (((s.lane l).line n).role.isDrive = true ∧ (s.lane l).state = .manual)))) →
    let store := fun (n : Fin 8) (q : Line) (i : Nat) => { q with
      latch := if part i 1 = true then decide (latch i = 1) else q.latch
      mode := if part i 2 = true then (if mode i = 0 then .edge else .level) else q.mode
      spareDirection := if part i 0 = true then (if direction i = 0 then .output else .input) else q.spareDirection
      sensed := if part i 0 = true ∧ direction i = 1 ∧ q.spareDirection = .output then pinLevel pins n.val else q.sensed }
    let after := fun (n : Fin 8) (j : Nat) =>
      ((List.range j).filter (fun i => decide (line i = n.val))).foldl (store n) ((s.lane l).line n)
    ∃ t, exec (.linesSet pins) s = .next t ∧ answered d .ok [] s t ∧ (∀ n : Fin 8, (t.lane l).line n = after n k) ∧
      (t.flag (.lane l .spare) = true ↔ s.flag (.lane l .spare) = true ∨
        ∃ (i : Nat) (n : Fin 8), i < k ∧ line i = n.val ∧ (part i 0 = true ∨ part i 2 = true) ∧
          (after n (i + 1)).role = .spare ∧ (after n (i + 1)).spareDirection = .input ∧ (after n (i + 1)).mode = .level ∧
          (after n (i + 1)).sensed = (after n (i + 1)).activeLevel) ∧
      (∀ f, f ≠ .lane l .spare → f ≠ noticeLostFlag → t.flag f = s.flag f) ∧
      { t.lane l with lines := (s.lane l).lines } = s.lane l ∧ (∀ m : Fin 8, m ≠ l → t.lane m = s.lane m) ∧
      t.interior = ({ s with lanes := t.lanes, flags := t.flags } : State).interior

/-- R78: LANE_POWER SET stores both settings in range, answers CLAMPED when one was not, and restarts an IDLE lane's
countdown. R81, R82: OFF and STANDBY take an IDLE lane to OFF and stop its countdown; IDLE takes an OFF lane with a MOTOR
line and the cover closed into SPINUP, and restarts an IDLE lane's countdown; STANDBY of a HALTED lane with nothing in
progress enters OFF, and its batch leaves as the drain cause directs, NONE as PAUSE (R131), closed or ended when nothing of
it is pending (R132, R137). In another state each form is refused with STATE, so is STANDBY of a HALTED lane with something
in progress; IDLE of an OFF lane is refused without a MOTOR line with CONFIG, and while COVER is active with INTERLOCK
(R76). -/
def Obligations.LanePowerSetsAndMovesLane : Prop :=
  (∀ (s : State) (d : Directive) (l : Fin 8), waiting .lanePowerSet d s → names d 5 l.val →
      ∃ t, exec .lanePowerSet s = .next t ∧
        answered d (if 2000 < rd d.params 2 2 ∨ 120 < rd d.params 4 1 then .clamped else .ok) [] s t ∧
        t.interior = (s.modLane l (fun x => { x with
          spinTime := min 2000 (rd d.params 2 2), idleCode := min 120 (rd d.params 4 1),
          idleRemaining := if x.state = .idle then idleMs (min 120 (rd d.params 4 1)) else x.idleRemaining })).interior) ∧
  (∀ (s : State) (d : Directive) (l : Fin 8), names d 5 l.val →
      let gives := fun (c : Instr) (r : Result) (u : State) =>
        ∃ t, exec c s = .next t ∧ answered d r [] s t ∧ t.interior = u.interior
      let off := fun (x : Lane) => { x with
        state := .off, haltReason := .none, idleRemaining := none, spinTarget := none, spinRemaining := none,
        drainCause := .none }
      (waiting .lanePowerOff d s → rd d.params 1 1 = 0 →
        ((s.lane l).state = .idle → gives .lanePowerOff .ok (s.modLane l (fun x => { x with
          state := .off, idleRemaining := none, spinTarget := none, spinRemaining := none }))) ∧
        ((s.lane l).state ≠ .idle → gives .lanePowerOff .state s)) ∧
      (waiting .lanePowerIdle d s →
        ((s.lane l).state = .off → (s.lane l).hasRole .motor = false → gives .lanePowerIdle .config s) ∧
        ((s.lane l).state = .off → (s.lane l).hasRole .motor = true →
          ((s.lane l).coverCondition = true → gives .lanePowerIdle .interlock s) ∧
          ((s.lane l).coverCondition = false → gives .lanePowerIdle .ok (s.modLane l (fun x => { x with
            state := .spinup, spinTarget := some .idle, spinRemaining := some x.spinTime,
            idleRemaining := none })))) ∧
        ((s.lane l).state = .idle →
          gives .lanePowerIdle .ok (s.modLane l (fun x => { x with idleRemaining := idleMs x.idleCode }))) ∧
        ((s.lane l).state ≠ .off → (s.lane l).state ≠ .idle → gives .lanePowerIdle .state s)) ∧
      (waiting .lanePowerStandby d s →
        ((s.lane l).state = .idle → gives .lanePowerStandby .ok (s.modLane l (fun x => { x with
          state := .off, idleRemaining := none, spinTarget := none, spinRemaining := none }))) ∧
        (∀ id rest b, (s.lane l).state = .halted → (s.lane l).nothingInProgress = true → activeWith s l id rest b →
          gives .lanePowerStandby .ok (departed l id rest (s.lane l).drainCause (s.modLane l off))) ∧
        ((s.lane l).state ≠ .idle → (s.lane l).state ≠ .halted ∨ (s.lane l).nothingInProgress = false →
          gives .lanePowerStandby .state s)))

/-! ### Shared tables -/

/-- R32, R33: a PROFILE_LOAD of 1 to 16 entries, for profiles no batch in FEEDING or DRAINING names, stores each value in
its range and sets the working baseline to the stored B0, entry after entry, so that a later one stands; the reply is CLAMPED
when a value of any entry had to be changed. R98: STORE_SET stores its value up to 4096, answers CLAMPED above that, and sets
STORE_LOW when the new mark lies above a free count that was at least the old one. R142: a SEPARATOR_LOAD of 1 to 8
entries, for patterns in no feeding or draining batch's mask, stores their five fields in the same order. Either load is
refused with LENGTH for another count or a length that does not fit it, then with RANGE for an index or action out of range,
then with IN_USE, and stores nothing. -/
def Obligations.SharedTablesStoreSettings : Prop :=
  ∀ (s : State) (d : Directive),
    let count := rd d.params 0 1
    let gives := fun (c : Instr) (r : Result) (u : State) =>
      ∃ t, exec c s = .next t ∧ answered d r [] s t ∧ t.interior = u.interior
    (waiting .profileLoad d s →
      let field := fun (i j k : Nat) => rd d.params (1 + 15 * i + j) k
      let free := fun (i : Nat) => ∀ b ∈ s.batches, b.profile.val = field i 0 1 → b.state ≠ .feeding ∧ b.state ≠ .draining
      let changed := fun (i : Nat) => field i 2 2 % 4096 = 0 ∨ field i 6 2 % 1024 < 257 ∨ field i 8 1 = 0 ∨
        31 < field i 9 1 ∨ 9999 < field i 10 2 ∨ 999 < field i 12 2
      let entry := fun (i : Nat) => Profile.mk (rdFlag d.params (2 + 15 * i)) (max 1 (field i 2 2 % 4096))
        (max 1 (field i 2 2 % 4096)) (max 257 (field i 6 2 % 1024)) (max 1 (field i 8 1)) (min 31 (field i 9 1))
        (min 9999 (field i 10 2)) (min 999 (field i 12 2)) (rdFlag d.params (15 + 15 * i))
      (count = 0 ∨ 16 < count ∨ d.params.length ≠ 1 + 15 * count → gives .profileLoad .length s) ∧
      (1 ≤ count → count ≤ 16 → d.params.length = 1 + 15 * count →
        ((∃ i, i < count ∧ 15 < field i 0 1) → gives .profileLoad .range s) ∧
        ((∀ i, i < count → field i 0 1 ≤ 15) → (∃ i, i < count ∧ ¬ free i) → gives .profileLoad .inUse s) ∧
        ((∀ i, i < count → field i 0 1 ≤ 15) → (∀ i, i < count → free i) →
          gives .profileLoad (if (List.range count).any (fun i => decide (changed i)) then .clamped else .ok)
            ((List.range count).foldl (fun u i => u.modProfile (Fin.ofNat 16 (field i 0 1)) (fun _ => entry i)) s)))) ∧
    (waiting .storeSet d s → d.params.length = 2 →
      gives .storeSet (if 4096 < rd d.params 0 2 then .clamped else .ok)
        (if s.lowMark ≤ s.free ∧ s.free < min 4096 (rd d.params 0 2) then
          ({ s with lowMark := min 4096 (rd d.params 0 2) } : State).setFlag (.device .storeLow) true
        else { s with lowMark := min 4096 (rd d.params 0 2) })) ∧
    (waiting .separatorLoad d s →
      let field := fun (i j k : Nat) => rd d.params (1 + 12 * i + j) k
      let good := fun (i : Nat) => field i 0 1 ≤ 7 ∧ field i 10 1 ≤ 1
      let free := fun (i : Nat) => ∀ b ∈ s.batches, b.mask.getLsbD (field i 0 1) = true →
        b.state ≠ .feeding ∧ b.state ≠ .draining
      let entry := fun (i : Nat) => Separator.mk (rdFlag d.params (2 + 12 * i)) (BitVec.ofNat 32 (field i 2 4))
        (BitVec.ofNat 32 (field i 6 4)) (if field i 10 1 = 0 then .docBreak else .batchBreak)
        (rdFlag d.params (12 + 12 * i))
      (count = 0 ∨ 8 < count ∨ d.params.length ≠ 1 + 12 * count → gives .separatorLoad .length s) ∧
      (1 ≤ count → count ≤ 8 → d.params.length = 1 + 12 * count →
        ((∃ i, i < count ∧ ¬ good i) → gives .separatorLoad .range s) ∧
        ((∀ i, i < count → good i) → (∃ i, i < count ∧ ¬ free i) → gives .separatorLoad .inUse s) ∧
        ((∀ i, i < count → good i) → (∀ i, i < count → free i) →
          let stored := (List.range count).foldl (fun v i => v.setIfInBounds (field i 0 1) (entry i)) s.separators
          gives .separatorLoad .ok { s with separators := stored })))

/-! ### Reading -/

/-- R34, R66, R73, R83, R99, R101, R125, R126, R139, R142, R161, R179, R180, R191, R197: every read answers OK with its
whole data as they stand, in the order and sizes of R197, and changes nothing. A field without a value is free bytes or all
ones (R197, log 29); enumerations are numbered from 0 in the order listed (R196, log 17); that a set flag, mark or present
byte is sent as 1 is the model's choice, but for the COVER condition and the live mark, which R197 states (log 35). That
the bits of a flag set or of another bit field that stand for nothing are sent as 0 is the model's choice (log 36). -/
def Obligations.ReadsAnswerAndChangeNothing : Prop :=
  ∀ (s : State) (d : Directive),
    let gives := fun (c : Instr) (data : List Byte) =>
      ∃ t, exec c s = .next t ∧ t.interior = s.interior ∧ answered d .ok data s t
    (∀ i : Fin 16, waiting .profileRead d s → names d 1 i.val →
      gives .profileRead (be 1 i.val ++ be 1 (flagByte (s.profile i).valid) ++ be 2 (s.profile i).b0 ++
        be 2 (s.profile i).working ++ be 2 (s.profile i).threshold ++ be 1 (s.profile i).runLength ++
        be 1 (s.profile i).guardE ++ be 2 (s.profile i).nominal ++ be 2 (s.profile i).tolerance ++
        be 1 (flagByte (s.profile i).tracking))) ∧
    (waiting .storeRead d s → d.params = [] →
      gives .storeRead (be 2 s.free ++ be 2 s.reserved ++ be 2 s.allocated ++ be 2 s.lowMark)) ∧
    (waiting .heldList d s → d.params = [] →
      gives .heldList (be 1 s.held.length ++ s.held.flatMap (fun h =>
        be 2 (tagCode h.tag) ++ be 2 h.batch ++ be 1 h.findings.code))) ∧
    (∀ i : Fin 8, waiting .separatorRead d s → names d 1 i.val →
      gives .separatorRead (be 1 i.val ++ be 1 (flagByte (s.separators[i.val]).valid) ++
        be 4 (s.separators[i.val]).value.toNat ++ be 4 (s.separators[i.val]).mask.toNat ++
        be 1 (s.separators[i.val]).action.code ++ be 1 (flagByte (s.separators[i.val]).keep))) ∧
    (∀ b, waiting .batchRead d s → d.params.length = 2 → rd d.params 0 2 ≠ 0 → s.batch? (rd d.params 0 2) = some b →
      gives .batchRead (be 1 1 ++ be 2 b.id ++ be 1 b.lane.val ++ be 1 b.routeClass.toNat ++ be 1 b.profile.val ++
        be 1 b.sides.code ++ be 2 b.expected ++ be 1 b.action.code ++ be 1 b.mask.toNat ++ be 1 b.state.code ++
        be 1 (flagByte (decide (b.id ∈ (s.lane b.lane).batchQueue))) ++ be 2 b.fed ++ be 2 b.settled ++
        be 2 b.released ++ be 2 b.heldNow ++ be 2 b.holds ++ be 2 b.diverted ++ be 2 b.discarded ++ be 2 b.gaps ++
        be 2 b.deliveriesPending ++ be 2 b.document ++ be 2 b.page ++ be 2 b.documents ++
        be 1 (flagByte b.breakPending))) ∧
    (∀ b final, waiting .batchRead d s → d.params.length = 2 → rd d.params 0 2 ≠ 0 →
      s.batch? (rd d.params 0 2) = none → s.lastReport = some ⟨b, final⟩ → b.id = rd d.params 0 2 →
      gives .batchRead (be 1 0 ++ be 2 b.id ++ be 1 b.lane.val ++ be 1 b.routeClass.toNat ++ be 1 b.profile.val ++
        be 1 b.sides.code ++ be 2 b.expected ++ be 1 b.action.code ++ be 1 b.mask.toNat ++ be 1 final.code ++
        be 2 b.fed ++ be 2 b.settled ++ be 2 b.released ++ be 2 b.holds ++ be 2 b.diverted ++ be 2 b.discarded ++
        be 2 b.gaps ++ be 2 b.heldNow ++ be 2 b.deliveriesPending ++ be 2 b.documents ++ be 2 b.document ++
        be 2 b.page)) ∧
    (∀ l : Fin 8, waiting .laneRead d s → names d 1 l.val →
      let x := s.lane l
      let c := x.config
      let a := if x.acc.sheet.isSome then x.acc else .empty
      gives .laneRead (
        be 1 x.state.code ++ be 1 (SpinTarget.code x.spinTarget) ++ be 1 x.drainCause.code ++
        be 1 x.haltReason.code ++ be 1 x.jamReason.code ++ be 1 (pickHeld s l).code ++
        be 2 ((s.activeBatch l).getD 0) ++ tagField x.picking ++
        (match x.picking with
          | some _ => be 1 (pickingRetries s l)
          | none => fill s 0 1) ++
        be 1 (openSheets s l) ++ tagField x.gateHolder ++ tagField x.exitHolder ++
        (match x.nextPick with
          | .none => be 1 0 ++ fill s 1 3
          | .passed => be 1 1 ++ fill s 1 3
          | .armed v => be 1 2 ++ be 3 v.toNat) ++
        be 2 x.sequence.val ++
        be 1 c.prescale.toNat ++ be 3 c.gap ++ be 3 c.pickPulse ++ be 3 c.pickWindow ++ be 2 c.sampleInterval ++
        be 3 c.gateLimit ++ be 3 c.imageWindow ++ be 3 c.exitWindow ++ be 3 c.divertPulse ++ be 1 c.depth ++
        be 1 c.retryLimit ++ be 2 c.reserve ++ be 2 c.pitch ++
        be 3 x.counter.toNat ++ be 3 x.lastLead.toNat ++ be 3 x.lastTrail.toNat ++ be 3 x.lastExitLead.toNat ++
        be 3 x.lastExitTrail.toNat ++
        tagField a.sheet ++ be 2 a.m ++ be 2 a.n ++ be 2 a.run ++ be 2 a.longest ++ be 2 x.lastSample ++
        be 2 x.spinTime ++ be 1 x.idleCode ++ be 2 (x.spinRemaining.getD 0xFFFF) ++
        be 4 (x.idleRemaining.getD 0xFFFFFFFF) ++ be 1 (flagByte x.coverCondition) ++
        be 1 (bitsToNat (allLines.map (fun n => decide (x.level (x.line n) = .high)))) ++ be 1 (linkCode x.linkUp) ++
        be 2 x.orphans ++ be 2 x.malformed ++
        be 1 x.batchQueue.length ++
        x.batchQueue.flatMap (fun id => be 2 id ++ be 1 (s.batchOf id).state.code) ++
        be 1 x.path.length ++ x.path.flatMap (fun e => be 2 (tagCode e.tag) ++ be 1 (flagByte e.exited)) ++
        be 1 x.settleOrder.length ++ x.settleOrder.flatMap (fun g => be 2 (tagCode g)))) ∧
    (∀ l : Fin 8, waiting .linesRead d s → names d 1 l.val →
      gives .linesRead (allLines.flatMap (fun n =>
          be 1 ((s.lane l).line n).role.code ++ be 1 ((s.lane l).line n).activeLevel.code ++
          be 1 ((s.lane l).line n).direction.code ++ be 1 (flagByte ((s.lane l).line n).latch) ++
          be 1 ((s.lane l).line n).mode.code ++ be 1 ((s.lane l).level ((s.lane l).line n)).code) ++
        be 1 (flagByte (s.lane l).coverCondition))) ∧
    (∀ r, waiting .sheetRead d s → d.params.length = 2 → rd d.params 0 2 = tagCode r.tag → s.sheet? r.tag = some r →
      let present := fun (k : Nat) (b : Bool) => if b then 2 ^ k else 0
      let capture := fun (c : Option Tick) => be 3 (c.elim 0 BitVec.toNat)
      let samples := r.samples.getD ⟨0, 0, 0, 0⟩
      gives .sheetRead (
        be 2 (present 0 r.lead.isSome + present 1 r.trail.isSome + present 2 r.exitLead.isSome +
          present 3 r.exitTrail.isSome + present 4 r.samples.isSome + present 5 r.patch.isSome +
          present 6 r.separatorMatch.isSome + present 7 (decide (r.queueWait ≠ [])) + present 8 r.outcome.isSome +
          present 9 r.kind.isSome + present 10 r.document.isSome + present 11 r.routeBank.isSome) ++
        be 2 (tagCode r.tag) ++ be 2 r.batch ++ be 1 r.state.code ++ be 1 r.retries ++
        capture r.lead ++ capture r.trail ++ capture r.exitLead ++ capture r.exitTrail ++
        be 2 (r.length.getD 0) ++ be 2 samples.m ++ be 2 samples.n ++ be 2 samples.longest ++ be 2 samples.ratio ++
        be 1 r.findings.code ++
        be 1 (present 0 r.pastDivert + present 1 r.divertDone + present 2 r.imageTimeout + present 3 r.frontLast +
          present 4 r.backLast) ++
        be 4 (r.patch.elim 0 BitVec.toNat) ++ be 1 (r.separatorMatch.elim 0 Fin.val) ++ be 2 r.reserve ++
        be 2 ((allDests.map (fun x => present x.val (decide (x ∈ r.queueWait)))).sum) ++
        be 1 (r.outcome.elim 0 SheetOutcome.code) ++ be 1 (r.kind.elim 0 Kind.code) ++ be 1 0 ++
        be 2 (r.document.getD 0) ++ be 2 (r.page.getD 0) ++ be 1 (r.routeBank.elim 0 Bank.code) ++
        be 1 r.pendingDests ++ be 1 r.front.length ++ be 1 r.back.length ++ r.front.flatMap (be 2) ++
        r.back.flatMap (be 2))) ∧
    (∀ bank : Bank, waiting .routeRead d s → names d 3 bank.code → rd d.params 1 1 ≤ 63 → 1 ≤ rd d.params 2 1 →
      rd d.params 2 1 ≤ 16 → rd d.params 1 1 + rd d.params 2 1 ≤ 64 →
      let entries := match bank with
        | .b0 => s.bank0
        | .b1 => s.bank1
      gives .routeRead (be 1 s.activeBank.code ++
        (List.range' (rd d.params 1 1) (rd d.params 2 1)).flatMap (fun i =>
          let e := entries.toList.getD i .invalid
          be 1 i ++ be 1 (flagByte e.valid) ++ be 1 e.classValue.toNat ++ be 1 e.classMask.toNat ++
          be 1 (flagByte e.front + 2 * flagByte e.back) ++
          be 1 (flagByte e.ordinary + 2 * flagByte e.separator + 4 * flagByte e.suspect) ++
          be 1 e.dests.length ++
          (e.dests.flatMap (fun y => be 1 y.val) ++ fill s (10 * i + 7 + e.dests.length) 3).take 3))) ∧
    (∀ e : Fin 16, waiting .destRead d s → names d 1 e.val →
      let x := s.dest e
      let q := s.port x.port
      gives .destRead (be 1 e.val ++ be 1 (flagByte x.enabled) ++ be 1 (flagByte x.closing) ++
        be 6 x.addr.toNat ++ be 1 (portCode x.port) ++ be 1 x.priority.val ++ be 1 x.warn ++ be 2 x.credit ++
        be 2 x.undelivered ++ be 1 x.queue.length ++
        x.queue.zipIdx.flatMap (fun y =>
          be 2 (tagCode y.1.sheet) ++ be 1 (flagByte y.1.front + 2 * flagByte y.1.back) ++ be 2 y.1.strips ++
          be 1 y.1.kind.code ++
          (if y.2 = 0 ∧ isOf e q.current = true then be 1 1 ++ be 2 (q.current.elim 0 Delivery.progress)
            else if y.2 = 0 ∧ isOf e q.suspended = true then be 1 2 ++ be 2 (q.suspended.elim 0 Delivery.progress)
            else be 1 0 ++ fill s (2 * y.2) 2)))) ∧
    (∀ p : Port, waiting .portRead d s → names d 1 (portCode p) →
      let delivery := fun (k : Nat) (c : Option Delivery) => match c with
        | some c => be 1 1 ++ be 1 c.dest.val ++ be 2 (tagCode c.entry.sheet) ++ be 2 c.entry.strips ++ be 2 c.progress
        | none => be 1 0 ++ fill s k 1 ++ be 2 0xFFFF ++ fill s (k + 1) 4
      gives .portRead (be 1 (linkCode (s.port p).linkUp) ++ be 1 (TxFrame.code (s.port p).tx) ++
        delivery 0 (s.port p).current ++ delivery 5 (s.port p).suspended ++
        (s.port p).rr.toList.flatMap (fun x => be 1 x.val) ++ be 1 (s.port p).replies.length ++
        be 1 (s.notices.countP (fun n => decide (n.port = p))))) ∧
    (waiting .eventsRead d s → d.params = [] →
      gives .eventsRead (FlagSet.bytes s.flags ++ FlagSet.bytes s.mask ++
        (match s.reportStation with
          | some st => be 1 1 ++ be 6 st.addr.toNat ++ be 1 (portCode st.port)
          | none => be 1 0 ++ fill s 0 6 ++ be 1 0xFF) ++
        be 1 s.notices.length ++ be 1 (flagByte s.pendingLost.isSome) ++ be 2 s.lostCount ++
        be 2 s.portA.unanswered ++ be 2 s.portB.unanswered))

/-! ### Sheets -/

/-- R121: ACCEPT releases a held sheet as SEPARATOR when a pattern with keep matches, else as ORDINARY, and REVIEW
releases it as SUSPECT: it leaves the list, its delivery entries join their queues, and its batch's counts move. R132: of
an ENDED batch whose last held sheet it was, with no entry placed and no delivery pending, it closes the batch. -/
def Obligations.ResolveReleasesHeldSheet : Prop :=
  ∀ (s : State) (d : Directive) (e : HeldEntry) (r : Sheet) (b : Batch) (es : List (Fin 16 × DeliveryEntry))
    (kind : Kind) (sep : Option (Fin 8)), d.params.length = 3 → rd d.params 0 2 = tagCode e.tag →
    s.held.find? (fun h => decide (h.tag = e.tag)) = some e → s.sheet? e.tag = some r → e.batch = r.batch →
    s.batch? r.batch = some b → b.state ≠ .aborted → deliveryEntries s r kind = some es → fullDests s es = [] →
    let closes := b.state = .ended ∧ es = [] ∧ b.heldNow ≤ 1 ∧ b.deliveriesPending = 0
    let closed := fun (t : State) => answered d .ok [] s t ∧
      t.interior = (reportedOf { b with heldNow := b.heldNow - 1, released := min (b.released + 1) 65535 } .closed
        (freedOf r { s with held := s.held.filter (fun h => decide (h.tag ≠ e.tag)) })).interior
    let left := fun (t : State) => answered d .ok [] s t ∧
      t.held = s.held.filter (fun h => decide (h.tag ≠ e.tag)) ∧
      releasedAs r es { r with state := .released, outcome := some .released, kind := some kind,
                               routeBank := some s.activeBank, pendingDests := es.length,
                               separatorMatch := if sep.isSome then sep else r.separatorMatch } s t ∧
      t.batch? r.batch = some { b with heldNow := b.heldNow - 1, released := min (b.released + 1) 65535,
                                       deliveriesPending := min (b.deliveriesPending + es.length) 65535 } ∧
      (∀ k, k ≠ r.batch → t.batch? k = s.batch? k) ∧
      (∀ f, (∀ x, f ≠ .dest x .warn) → f ≠ noticeLostFlag → t.flag f = s.flag f) ∧
      t.interior = ({ s with
        held := t.held, sheets := t.sheets, batches := t.batches, dests := t.dests, flags := t.flags, free := t.free,
        reserved := t.reserved, allocated := t.allocated, directory := t.directory } : State).interior
    (waiting .resolveAccept d s → rd d.params 2 1 = 0 →
      ((∃ i : Fin 8, separatorMatch s r = some i ∧ (s.separators[i.val]).keep = true ∧ kind = .separator ∧ sep = some i) ∨
        ((∀ i : Fin 8, separatorMatch s r = some i → (s.separators[i.val]).keep = false) ∧ kind = .ordinary ∧
          sep = none)) →
      ∃ t, exec .resolveAccept s = .next t ∧ (¬ closes → left t) ∧ (closes → closed t)) ∧
    (waiting .resolveReview d s → rd d.params 2 1 = 1 → kind = .suspect → sep = none →
      ∃ t, exec .resolveReview s = .next t ∧ (¬ closes → left t) ∧ (closes → closed t))

/-- R122, R124: RESOLVE DISCARD frees a held sheet and its blocks and moves its batch's counts. R132: of an ENDED batch
whose last held sheet it was, with no delivery pending, it closes the batch, and the report is handed over. -/
def Obligations.ResolveDiscardFreesHeldSheet : Prop :=
  ∀ (s : State) (d : Directive) (e : HeldEntry) (r : Sheet) (b : Batch), waiting .resolveDiscard d s →
    d.params.length = 3 → rd d.params 0 2 = tagCode e.tag → rd d.params 2 1 = 2 →
    s.held.find? (fun h => decide (h.tag = e.tag)) = some e → s.sheet? e.tag = some r → s.batch? e.batch = some b →
    b.state ≠ .aborted →
    let unlisted : State := { s with held := s.held.filter (fun h => decide (h.tag ≠ e.tag)) }
    let counted := fun (c : Batch) => { c with
      heldNow := c.heldNow - 1, discarded := min (c.discarded + 1) 65535, gaps := min (c.gaps + 1) 65535 }
    ∃ t, exec .resolveDiscard s = .next t ∧ answered d .ok [] s t ∧
      t.interior =
        (if b.state = .ended ∧ b.heldNow ≤ 1 ∧ b.deliveriesPending = 0 then
          reportedOf (counted b) .closed (freedOf r unlisted)
        else freedOf r (unlisted.modBatch e.batch counted)).interior

/-! ### Batches -/

/-- R134: an accepted BATCH_OPEN makes the batch live as carried, QUEUED with every counter 0 and its break pending, at
the tail of its lane's queue. -/
def Obligations.BatchOpenQueuesBatch : Prop :=
  ∀ (s : State) (d : Directive) (l : Fin 8) (i : Fin 16) (sides : Sides) (action : Action), waiting .batchOpen d s →
    d.params.length = 10 → rd d.params 0 2 ≠ 0 → rd d.params 2 1 = l.val → rd d.params 3 1 ≤ 63 →
    rd d.params 4 1 = i.val → Sides.ofCode (rd d.params 5 1) = some sides →
    Action.ofCode (rd d.params 8 1) = some action → s.batch? (rd d.params 0 2) = none → (s.profile i).valid = true →
    s.batches.length < 16 → (s.lane l).batchQueue.length < 4 →
    ∃ t, exec .batchOpen s = .next t ∧ answered d .ok [] s t ∧
      t.interior = (({ s with batches := s.batches ++
        [{ id := rd d.params 0 2, lane := l, routeClass := BitVec.ofNat 6 (rd d.params 3 1), profile := i, sides := sides,
           expected := rd d.params 6 2, action := action, mask := BitVec.ofNat 8 (rd d.params 9 1), state := .queued,
           fed := 0, settled := 0, released := 0, heldNow := 0, holds := 0, diverted := 0, discarded := 0, gaps := 0,
           deliveriesPending := 0, document := 0, page := 0, documents := 0, breakPending := true }] } : State).modLane l
        (fun x => { x with batchQueue := x.batchQueue ++ [rd d.params 0 2] })).interior

/-- R132, R135, R137, R147: BATCH_CLOSE with the discard flag discards a batch's one held sheet and closes it; the
closure and the end of an abort free a batch with nothing pending and hand its report over. -/
def Obligations.BatchEndHandsReportOver : Prop :=
  ∀ (s : State) (id : Nat) (b : Batch), s.batch? id = some b → b.deliveriesPending = 0 →
    (∀ (d : Directive) (e : HeldEntry) (r : Sheet), waiting .batchClose d s → d.params.length = 3 →
      rd d.params 0 2 = id → id ≠ 0 → rdFlag d.params 2 = true → b.state = .ended → b.heldNow = 1 →
      s.held.filter (fun h => decide (h.batch = id)) = [e] → s.sheet? e.tag = some r →
      ∃ t, exec .batchClose s = .next t ∧ answered d .ok [] s t ∧
        t.interior = (reportedOf { b with heldNow := 0, discarded := min (b.discarded + 1) 65535,
                                          gaps := min (b.gaps + 1) 65535 } .closed
          (freedOf r { s with held := s.held.filter (fun h => decide (h.tag ≠ e.tag)) })).interior) ∧
    (∀ d : Directive, waiting .batchClose d s → d.params.length = 3 → rd d.params 0 2 = id → id ≠ 0 →
      rdFlag d.params 2 = false → b.state = .ended → 0 < b.heldNow →
      ∃ t, exec .batchClose s = .next t ∧ answered d .heldPending [] s t ∧ t.interior = s.interior) ∧
    (b.state = .ended → b.heldNow = 0 →
      ∃ t, exec (.batchClosure id) s = .next t ∧ t.interior = (reportedOf b .closed s).interior) ∧
    (b.state = .aborted → id ∉ (s.lane b.lane).batchQueue →
      ∃ t, exec (.endOfAbort id) s = .next t ∧ t.interior = (reportedOf b .aborted s).interior)

/-- R123, R136, R137, R138, R140, R147, R177: BATCH_ABORT. A QUEUED or ENDED batch leaves its lane's queue: with nothing
held or queued it ends at once; one held sheet is discarded with it; entries of its sheets in one destination's queue, but
for a head in delivery, current or suspended, are removed and counted as undelivered (shown while no lane waits for room),
and the batch ends when nothing of it is pending. The active batch of a lane with paper in its path: a lane in SPINUP,
FEEDING or HALTED drains, one in DRAINING or JAMMED keeps its state, the drain cause is ABORT, a picking sheet is freed and
one unsettled sheet is settled DISCARDED. A lane with nothing left in it, but a JAMMED one, completes its drain: it is IDLE
and the batch leaves its queue, and ends when nothing of it is pending. The model's choices: the end of the abort is
tested, and sheets that wait are retried, once all is discarded and removed (log 11); the accumulator of a sheet dropped in
the gate has copied settings 0 (log 25). -/
def Obligations.BatchAbortAbortsBatch : Prop :=
  ∀ (s : State) (d : Directive) (id : Nat) (b : Batch), waiting .batchAbort d s → d.params.length = 2 →
    rd d.params 0 2 = id → id ≠ 0 → s.batch? id = some b →
    let unqueued := fun (u : State) => u.modLane b.lane (fun x => { x with batchQueue := x.batchQueue.erase id })
    let draining := fun (x : Lane) =>
      if x.state = .spinup ∨ x.state = .feeding ∨ x.state = .halted then
        { x with state := .draining, haltReason := .none, spinTarget := none, spinRemaining := none, drainCause := .abort }
      else { x with drainCause := .abort }
    let noneHeld := ∀ h ∈ s.held, h.batch ≠ id
    let noneQueued := ∀ x : Fin 16, ∀ y ∈ (s.dest x).queue, entryBatch s y ≠ some id
    let active := (b.state = .feeding ∨ b.state = .draining) ∧
      ((s.lane b.lane).state.attributing = true ∨ (s.lane b.lane).state = .jammed) ∧ (s.lane b.lane).path ≠ [] ∧
      (s.lane b.lane).batchQueue.head? = some id
    (noneHeld → noneQueued → b.state = .queued ∨ b.state = .ended → b.deliveriesPending = 0 →
      (s.lane b.lane).batchQueue.Nodup →
      ∃ t, exec .batchAbort s = .next t ∧ answered d .ok [] s t ∧
        t.interior = (reportedOf { b with state := .aborted } .aborted (unqueued s)).interior) ∧
    (∀ e r, noneQueued → b.state = .queued ∨ b.state = .ended → b.deliveriesPending = 0 →
      (s.lane b.lane).batchQueue.Nodup → s.held.filter (fun h => decide (h.batch = id)) = [e] →
      s.sheet? e.tag = some r →
      ∃ t, exec .batchAbort s = .next t ∧ answered d .ok [] s t ∧
        t.interior = (reportedOf { b with
            state := .aborted, heldNow := b.heldNow - 1, discarded := min (b.discarded + 1) 65535,
            gaps := min (b.gaps + 1) 65535 } .aborted
          (freedOf r (unqueued { s with held := s.held.filter (fun h => decide (h.tag ≠ e.tag)) }))).interior) ∧
    (∀ x : Fin 16, noneHeld → b.state = .queued ∨ b.state = .ended → (s.lane b.lane).batchQueue.Nodup →
      (∀ y : Fin 16, y ≠ x → ∀ e ∈ (s.dest y).queue, entryBatch s e ≠ some id) →
      (∀ l : Fin 8, cursorWait s l = []) →
      let q := s.port (s.dest x).port
      let inDelivery := isOf x q.current = true ∨ isOf x q.suspended = true
      let head := if inDelivery then (s.dest x).queue.take 1 else []
      let behind := if inDelivery then (s.dest x).queue.drop 1 else (s.dest x).queue
      let removed := behind.filter (fun e => decide (entryBatch s e = some id))
      countedPending s removed → removed.length ≤ b.deliveriesPending →
      ∃ t, exec .batchAbort s = .next t ∧ answered d .ok [] s t ∧
        (t.dest x).queue = head ++ behind.filter (fun e => decide (entryBatch s e ≠ some id)) ∧
        (t.dest x).undelivered = (if removed = [] then (s.dest x).undelivered
          else min ((s.dest x).undelivered + removed.length) 65535) ∧
        { t.dest x with
          queue := (s.dest x).queue, credit := (s.dest x).credit, undelivered := (s.dest x).undelivered } = s.dest x ∧
        (∀ y : Fin 16, y ≠ x → { t.dest y with credit := (s.dest y).credit } = s.dest y) ∧
        sheetsLose removed s t ∧ (∀ k, k ≠ id → t.batch? k = s.batch? k) ∧
        (if b.deliveriesPending = removed.length then
          t.batch? id = none ∧
            t.lastReport = some ⟨{ b with state := .aborted, deliveriesPending := 0 }, .aborted⟩ ∧
            t.flag (.device .batchReport) = true
        else
          t.batch? id = some { b with
              state := .aborted, deliveriesPending := b.deliveriesPending - removed.length } ∧
            t.lastReport = s.lastReport) ∧
        t.interior = ({ s with
          lanes := (unqueued s).lanes, sheets := t.sheets, batches := t.batches, dests := t.dests, flags := t.flags,
          free := t.free, reserved := t.reserved, allocated := t.allocated, directory := t.directory,
          lastReport := t.lastReport } : State).interior) ∧
    (noneHeld → noneQueued → active → (s.lane b.lane).picking = none → (s.lane b.lane).settleOrder = [] →
      ∃ t, exec .batchAbort s = .next t ∧ answered d .ok [] s t ∧
        t.interior = ((s.modBatch id (fun c => { c with state := .aborted })).modLane b.lane draining).interior) ∧
    (∀ p q g r, noneHeld → noneQueued → active → (s.lane b.lane).picking = some p → s.sheet? p = some q → p ≠ g →
      (s.lane b.lane).settleOrder = [g] → s.sheet? g = some r → r.batch = id →
      ∃ t, exec .batchAbort s = .next t ∧ answered d .ok [] s t ∧
        t.interior = (((dropped b.lane r ((freedOf q s).modLane b.lane (fun x =>
          { x with picking := none, pickWindow := none }))).modBatch id (fun c => { c with
            state := .aborted, settled := min (c.settled + 1) 65535,
            discarded := min (c.discarded + 1) 65535 })).modLane b.lane draining).interior) ∧
    (∀ rest, noneHeld → noneQueued → b.state = .feeding ∨ b.state = .draining →
      (s.lane b.lane).state.attributing = true → (s.lane b.lane).picking = none → (s.lane b.lane).path = [] →
      (s.lane b.lane).settleOrder = [] → (s.lane b.lane).batchQueue = id :: rest → id ∉ rest →
      let emptied := s.modLane b.lane (fun x => { x with
        state := .idle, haltReason := if x.state = .draining then x.haltReason else .none, spinTarget := none
        spinRemaining := none, idleRemaining := idleMs x.idleCode, drainCause := .none, batchQueue := rest })
      ∃ t, exec .batchAbort s = .next t ∧ answered d .ok [] s t ∧
        t.interior = (if b.deliveriesPending = 0 then reportedOf { b with state := .aborted } .aborted emptied
          else emptied.modBatch id (fun c => { c with state := .aborted })).interior)

/-- R43, R131: a DRAINING lane with no picking sheet, path entry or unsettled sheet enters IDLE, and its active batch
leaves by the drain cause: QUEUED at the head for PAUSE; ENDED and out of the queue for END, and closed where nothing of it
is held or pending (R132); out of it for ABORT, and ended where nothing of it is pending (R137). -/
def Obligations.DrainCompletionMovesBatch : Prop :=
  ∀ (s : State) (l : Fin 8) (id : Nat) (rest : List Nat) (b : Batch), (s.lane l).state = .draining →
    (s.lane l).picking = none → (s.lane l).path = [] → (s.lane l).settleOrder = [] →
    (s.lane l).batchQueue = id :: rest → s.batch? id = some b →
    let idle := fun (x : Lane) => { x with
      state := .idle, idleRemaining := idleMs x.idleCode, spinTarget := none, spinRemaining := none, drainCause := .none }
    let out := s.modLane l (fun x => { idle x with batchQueue := rest })
    (b.state = .draining → (s.lane l).drainCause = .pause →
      ∃ t, exec (.drainCompletion l) s = .next t ∧
        t.interior = ((s.modBatch id (fun c => { c with state := .queued })).modLane l idle).interior) ∧
    (b.state = .draining → (s.lane l).drainCause = .feedEnd →
      ∃ t, exec (.drainCompletion l) s = .next t ∧
        t.interior = (if b.heldNow = 0 ∧ b.deliveriesPending = 0 then
            reportedOf { b with state := .ended } .closed (out.setFlag (.lane l .batchEnd) true)
          else (out.modBatch id (fun c => { c with state := .ended })).setFlag (.lane l .batchEnd) true).interior) ∧
    (b.state = .aborted → (s.lane l).drainCause = .abort → b.lane = l → id ∉ rest →
      ∃ t, exec (.drainCompletion l) s = .next t ∧
        t.interior = (if b.deliveriesPending = 0 then reportedOf b .aborted out else out).interior)

/-! ### Routes and destinations -/

/-- R150, R155 to R158: a good load entry with its valid flag set is stored in the shadow bank with its first count
slots; one with the flag clear stores the invalid form; an index above 63 is answered PARTIAL with nothing stored; and a
swap exchanges the banks. R156, R196: of 1 to 16 load entries those before the first bad one are stored, each before the
next is examined, a later one over an earlier one at the same index; with a bad one the reply is PARTIAL with the number
stored and the reason, the first of INDEX, EMPTY, COUNT, DESTINATION and REPEAT that holds, numbered 1 to 5. -/
def Obligations.RouteLoadAndSwap : Prop :=
  ∀ (s : State) (d : Directive),
    let stored := fun (i : Nat) (e : RouteEntry) => (match s.activeBank with
      | .b0 => ({ s with bank1 := s.bank1.setIfInBounds i e } : State)
      | .b1 => ({ s with bank0 := s.bank0.setIfInBounds i e } : State)).interior
    (∀ ds : List (Fin 16), waiting .routeLoad d s → names d 11 1 → rd d.params 1 1 ≤ 63 → rdFlag d.params 2 = true →
      rd d.params 7 1 = ds.length → 1 ≤ ds.length → ds.length ≤ 3 → ds.Nodup →
      (∀ k (h : k < ds.length), rd d.params (8 + k) 1 = (ds[k]).val) →
      ∃ t, exec .routeLoad s = .next t ∧ answered d .ok [] s t ∧
        t.interior = stored (rd d.params 1 1)
          { valid := true, classValue := BitVec.ofNat 6 (rd d.params 3 1), classMask := BitVec.ofNat 6 (rd d.params 4 1),
            front := (rd d.params 5 1).testBit 0, back := (rd d.params 5 1).testBit 1,
            ordinary := (rd d.params 6 1).testBit 0, separator := (rd d.params 6 1).testBit 1,
            suspect := (rd d.params 6 1).testBit 2, dests := ds }) ∧
    (waiting .routeLoad d s → names d 11 1 → rd d.params 1 1 ≤ 63 → rdFlag d.params 2 = false →
      ∃ t, exec .routeLoad s = .next t ∧ answered d .ok [] s t ∧ t.interior = stored (rd d.params 1 1) .invalid) ∧
    (waiting .routeLoad d s → names d 11 1 → 63 < rd d.params 1 1 →
      ∃ t, exec .routeLoad s = .next t ∧ answered d .partialDone (be 1 0 ++ be 1 1) s t ∧ t.interior = s.interior) ∧
    (waiting .routeLoad d s → 1 ≤ rd d.params 0 1 → rd d.params 0 1 ≤ 16 →
      d.params.length = 1 + 10 * rd d.params 0 1 →
      let field := fun (i j : Nat) => rd d.params (1 + 10 * i + j) 1
      let valid := fun (i : Nat) => rdFlag d.params (2 + 10 * i) = true
      let slots := fun (i : Nat) => (List.range (field i 6)).map (fun k => field i (7 + k))
      let reason := fun (i : Nat) =>
        if 63 < field i 0 then 1
        else if ¬ valid i then 0
        else if field i 6 = 0 then 2
        else if 3 < field i 6 then 3
        else if ∃ x ∈ slots i, 15 < x then 4
        else if ¬ (slots i).Nodup then 5
        else 0
      let entry := fun (i : Nat) =>
        if valid i then
          { valid := true, classValue := BitVec.ofNat 6 (field i 2), classMask := BitVec.ofNat 6 (field i 3),
            front := (field i 4).testBit 0, back := (field i 4).testBit 1, ordinary := (field i 5).testBit 0,
            separator := (field i 5).testBit 1, suspect := (field i 5).testBit 2
            dests := (slots i).map (Fin.ofNat 16) : RouteEntry }
        else .invalid
      let shadow := match s.activeBank with
        | .b0 => s.bank1
        | .b1 => s.bank0
      let loaded := fun (n : Nat) =>
        let bank := (List.range n).foldl (fun v i => v.setIfInBounds (field i 0) (entry i)) shadow
        (match s.activeBank with
          | .b0 => ({ s with bank1 := bank } : State)
          | .b1 => ({ s with bank0 := bank } : State)).interior
      ((∀ i, i < rd d.params 0 1 → reason i = 0) →
        ∃ t, exec .routeLoad s = .next t ∧ answered d .ok [] s t ∧ t.interior = loaded (rd d.params 0 1)) ∧
      ∀ n, n < rd d.params 0 1 → (∀ i, i < n → reason i = 0) → reason n ≠ 0 →
        ∃ t, exec .routeLoad s = .next t ∧ answered d .partialDone (be 1 n ++ be 1 (reason n)) s t ∧
          t.interior = loaded n) ∧
    (waiting .routeSwap d s → d.params = [] →
      ∃ t, exec .routeSwap s = .next t ∧ answered d .ok [] s t ∧
        t.interior = ({ s with activeBank := match s.activeBank with
          | .b0 => .b1
          | .b1 => .b0 } : State).interior)

/-- R151: a class matches an entry when they hold the same bit wherever the class mask is set; mask 63 matches one class,
mask 0 every class. -/
def Obligations.ClassMatchComparesMaskedBits : Prop :=
  ∀ (e : RouteEntry) (c : BitVec 6),
    (e.matchesClass c = true ↔ ∀ k, k < 6 → e.classMask.getLsbD k = true → c.getLsbD k = e.classValue.getLsbD k) ∧
    (e.classMask = 63 → (e.matchesClass c = true ↔ c = e.classValue)) ∧ (e.classMask = 0 → e.matchesClass c = true)

/-- R152, R153: the first entry of the active bank that is valid, matches the class and names side and kind gives its
enabled destinations in list order, whether or not there is one; with no such entry there is no route.
R116, R154: each side of a sheet with strips is looked up; one without a route leaves the sheet without one, and else there
is one delivery entry for each destination named, in ascending order, with the sides that named it and their strips.
R143: the applying pattern of a sheet without a measurement finding is the first valid one in its batch's mask that agrees
with its patch word on every masked bit; with none, or no patch word, or a measurement finding, no match applies. -/
def Obligations.LookupTakesFirstFit : Prop :=
  (∀ (s : State) (r : Sheet) (kind : Kind),
    let answer := fun (side : Side) => lookup s (s.batchOf r.batch).routeClass side kind
    let front := if r.front = [] then [] else answer .front
    let back := if r.back = [] then [] else answer .back
    ((r.front ≠ [] ∧ answer .front = []) ∨ (r.back ≠ [] ∧ answer .back = []) → deliveryEntries s r kind = none) ∧
    ((r.front ≠ [] → answer .front ≠ []) → (r.back ≠ [] → answer .back ≠ []) →
      ∃ es, deliveryEntries s r kind = some es ∧ (es.map Prod.fst).Pairwise (fun x y => x < y) ∧
        ∀ (x : Fin 16) (e : DeliveryEntry), (x, e) ∈ es ↔ (x ∈ front ∨ x ∈ back) ∧ e =
          { sheet := r.tag, front := decide (x ∈ front), back := decide (x ∈ back), kind := kind
            strips := (if x ∈ front then r.front.length else 0) + (if x ∈ back then r.back.length else 0) })) ∧
  (∀ (s : State) (r : Sheet),
    let fit := fun (w : BitVec 32) (i : Fin 8) => (s.batchOf r.batch).mask.getLsbD i.val = true ∧
      (s.separators[i.val]).valid = true ∧
      ∀ k, k < 32 → (s.separators[i.val]).mask.getLsbD k = true →
        w.getLsbD k = (s.separators[i.val]).value.getLsbD k
    (r.findings.measurement = true ∨ r.patch = none → separatorMatch s r = none) ∧
    (∀ w, r.findings.measurement = false → r.patch = some w →
      (∀ i, fit w i → (∀ j, j < i → ¬ fit w j) → separatorMatch s r = some i) ∧
      ((∀ i, ¬ fit w i) → separatorMatch s r = none))) ∧
  ∀ (s : State) (c : BitVec 6) (side : Side) (kind : Kind),
    let entry := fun (i : Fin 64) => match s.activeBank with
      | .b0 => s.bank0[i.val]
      | .b1 => s.bank1[i.val]
    let fit := fun (e : RouteEntry) => e.valid = true ∧
      (∀ k, k < 6 → e.classMask.getLsbD k = true → c.getLsbD k = e.classValue.getLsbD k) ∧
      (match side with
        | .front => e.front
        | .back => e.back) = true ∧
      (match kind with
        | .ordinary => e.ordinary
        | .separator => e.separator
        | .suspect => e.suspect) = true
    (∀ i, fit (entry i) → (∀ j, j < i → ¬ fit (entry j)) →
      lookup s c side kind = (entry i).dests.filter (fun x => (s.dest x).enabled)) ∧
    ((∀ i, ¬ fit (entry i)) → lookup s c side kind = [])

/-- R164, R165: DEST_SET of a disabled destination stores its four settings, the warning level at most 48; DEST_ENABLE of
one whose address no other enabled destination of the port has enables it with credit 0. -/
def Obligations.DestSetAndEnable : Prop :=
  ∀ (s : State) (d : Directive) (x : Fin 16), (s.dest x).enabled = false → (s.dest x).closing = false →
    (∀ (p : Port) (lvl : Fin 4), waiting .destSet d s → names d 10 x.val →
      groupBit (BitVec.ofNat 48 (rd d.params 1 6)) = false → portOfCode (rd d.params 7 1) = some p →
      rd d.params 8 1 = lvl.val →
      ∃ t, exec .destSet s = .next t ∧ answered d (if 48 < rd d.params 9 1 then .clamped else .ok) [] s t ∧
        t.interior = (s.modDest x (fun y => { y with
          addr := BitVec.ofNat 48 (rd d.params 1 6), port := p, priority := lvl,
          warn := min 48 (rd d.params 9 1) })).interior) ∧
    (waiting .destEnable d s → names d 1 x.val →
      (∀ y : Fin 16, y ≠ x → (s.dest y).enabled = true → (s.dest y).addr = (s.dest x).addr →
        (s.dest y).port ≠ (s.dest x).port) → (s.dest x).queue = [] →
      ∃ t, exec .destEnable s = .next t ∧ answered d .ok [] s t ∧ (t.dest x).credit = 0 ∧
        t.interior = (s.modDest x (fun y => { y with enabled := true })).interior) ∧
    (waiting .destEnable d s → names d 1 x.val →
      (∃ y : Fin 16, y ≠ x ∧ (s.dest y).enabled = true ∧ (s.dest y).addr = (s.dest x).addr ∧
        (s.dest y).port = (s.dest x).port) →
      ∃ t, exec .destEnable s = .next t ∧ answered d .duplicate [] s t ∧ t.interior = s.interior)

/-- R166: DEST_DISABLE of an enabled destination disables it and empties its credit and its queue, but for a head entry
whose frame is in transmission, which marks it closing. The entries removed are counted as undelivered and flagged; where
no lane waits for room there, the pending counts of their sheets and of their batches fall by them. Its port's current
delivery, unless a frame of it is in transmission, and the suspended one are absent afterwards if they were its own; shown
while no port can begin a frame, where all other deliveries stay. -/
def Obligations.DestDisableEmptiesQueue : Prop :=
  ∀ (s : State) (d : Directive) (x : Fin 16) (removed : List DeliveryEntry), waiting .destDisable d s →
    names d 1 x.val → (s.dest x).enabled = true →
    let sending := isOf x (s.port (s.dest x).port).current = true ∧
      ∃ bytes, (s.port (s.dest x).port).tx = some (.archive bytes)
    (sending → removed = (s.dest x).queue.drop 1) → (¬ sending → removed = (s.dest x).queue) →
    ∃ t, exec .destDisable s = .next t ∧ answered d .ok [] s t ∧ (t.dest x).enabled = false ∧ (t.dest x).credit = 0 ∧
      (sending → (t.dest x).closing = true ∧ (t.dest x).queue = (s.dest x).queue.take 1) ∧
      (¬ sending → (t.dest x).closing = false ∧ (t.dest x).queue = []) ∧
      (t.dest x).undelivered = (if removed = [] then (s.dest x).undelivered
        else min ((s.dest x).undelivered + removed.length) 65535) ∧
      t.flag (.dest x .disabledDrop) = (s.flag (.dest x .disabledDrop) || !removed.isEmpty) ∧
      ((∀ l : Fin 8, waitsOn s [x] l = false) → countedPending s removed →
        sheetsLose removed s t ∧
        ∀ id b, s.batch? id = some b → b.state ≠ .ended → b.state ≠ .aborted →
          t.batch? id = some { b with deliveriesPending := b.deliveriesPending - entriesOfBatch s id removed }) ∧
      (t.dest x).addr = (s.dest x).addr ∧ (t.dest x).port = (s.dest x).port ∧
      (t.dest x).priority = (s.dest x).priority ∧ (t.dest x).warn = (s.dest x).warn ∧
      (portsBusy s → ∀ p : Port,
        (p = (s.dest x).port → isOf x (s.port p).current = true → ¬ sending → (t.port p).current = none) ∧
        (p ≠ (s.dest x).port ∨ isOf x (s.port p).current = false ∨ sending →
          (t.port p).current = (s.port p).current) ∧
        (t.port p).suspended = (if p = (s.dest x).port ∧ isOf x (s.port p).suspended = true then none
          else (s.port p).suspended)) ∧
      t.interior = ({ s with
        lanes := t.lanes, sheets := t.sheets, batches := t.batches, dests := t.dests, held := t.held, flags := t.flags,
        free := t.free, reserved := t.reserved, allocated := t.allocated, directory := t.directory,
        lastReport := t.lastReport } : State).interior

/-- R168: an append that takes a queue's depth to its warning level, above 0, sets WARN of the destination, and removals
never do. Over commands (R105, R117, R118, R121, R136, R177): where WARN goes from clear to set, the queue ends as what the
command left of it, `kept`, with the entries that the command appended, `late`, behind it, and these took its depth from
below the level to the level or above it. Each of these is of a sheet that the command settled, so that it left a settlement
order at its head, or of the held sheet that a RESOLVE released. BATCH_ABORT alone settles sheets before it removes entries:
it can append `early` entries, of sheets that left one lane's settlement order and are not of the batch it aborts. That it
retries waiting sheets only after all its removals, so that what it then appends is counted from the depth left by all of
them, is the model's choice (log 11). -/
def Obligations.WarnSetAtLevel : Prop :=
  ∀ (s : State) (x : Fin 16),
    (∀ e : DeliveryEntry,
      ((appendEntry s (x, e)).dest x).queue = (s.dest x).queue ++ [e] ∧
      (appendEntry s (x, e)).flag (.dest x .warn) = (s.flag (.dest x .warn) ||
        (decide (0 < (s.dest x).warn) && decide ((s.dest x).queue.length = (s.dest x).warn - 1))) ∧
      (∀ y : Fin 16, y ≠ x → (appendEntry s (x, e)).flag (.dest y .warn) = s.flag (.dest y .warn))) ∧
    (∀ (p : Port) (id : Nat) (y : Fin 16) (e : DeliveryEntry),
      (endCurrent p y s).flag (.dest x .warn) = s.flag (.dest x .warn) ∧
      (removeUndelivered y s e).flag (.dest x .warn) = s.flag (.dest x .warn) ∧
      (closeDest y s).flag (.dest x .warn) = s.flag (.dest x .warn) ∧
      (abortDest id s y).flag (.dest x .warn) = s.flag (.dest x .warn)) ∧
    (∀ (c : Instr) (t : State), exec c s = .next t → s.flag (.dest x .warn) = false → t.flag (.dest x .warn) = true →
      ∃ early kept late : List DeliveryEntry,
        (early ≠ [] → c = .batchAbort ∧ ∃ l, settledFrom c l s t (early.map DeliveryEntry.sheet)) ∧
        (∀ d, s.dirQueue.head? = some d → ∀ e ∈ early, entryBatch s e ≠ some (rd d.params 0 2)) ∧
        (∀ e ∈ late, (∃ l, settledFrom c l s t [e.sheet]) ∨
          ((c = .resolveAccept ∨ c = .resolveReview) ∧ (∃ h ∈ s.held, h.tag = e.sheet) ∧
            ∀ h ∈ t.held, h.tag ≠ e.sheet)) ∧
        kept.Sublist ((s.dest x).queue ++ early) ∧ (t.dest x).queue = kept ++ late ∧
        (((s.dest x).queue.length < (s.dest x).warn ∧
            (s.dest x).warn ≤ (s.dest x).queue.length + early.length) ∨
          (kept.length < (s.dest x).warn ∧ (s.dest x).warn ≤ kept.length + late.length)))

/-! ### Events and restart -/

/-- R187, R191, R192: REPORT_SET stores mask and report station; EVENTS_CLEAR clears each named flag, but a lane's SPARE
flag whose LEVEL-mode input is active, drops the pending lost notice with NOTICE_LOST, and answers the flags left. That the bits of the
answered flag set that stand for no flag are 0 is the model's choice (log 36). -/
def Obligations.ReportSetAndEventsClear : Prop :=
  ∀ (s : State) (d : Directive),
    (∀ p : Port, waiting .reportSet d s → d.params.length = 40 → portOfCode (rd d.params 39 1) = some p →
      groupBit (BitVec.ofNat 48 (rd d.params 33 6)) = false →
      ∃ t, exec .reportSet s = .next t ∧ answered d .ok [] s t ∧
        t.interior = ({ s with mask := rdFlagSet d.params 0,
                               reportStation := some ⟨BitVec.ofNat 48 (rd d.params 33 6), p⟩ } : State).interior) ∧
    (waiting .eventsClear d s → d.params.length = 33 →
      ∃ t, exec .eventsClear s = .next t ∧ answered d .ok (FlagSet.bytes t.flags) s t ∧
        (∀ f : Flag, (∀ l : Fin 8, f ≠ .lane l .spare) →
          t.flag f = (s.flag f && !(rdFlagSet d.params 0)[f.index.val])) ∧
        (∀ l : Fin 8, t.flag (.lane l .spare) = (s.flag (.lane l .spare) &&
          (!(rdFlagSet d.params 0)[(Flag.lane l .spare).index.val] || (s.lane l).holdsSpare))) ∧
        (s.flag noticeLostFlag = true → (rdFlagSet d.params 0)[noticeLostFlag.index.val] = true →
          t.pendingLost = none) ∧
        t.interior = ({ s with flags := t.flags } : State).interior)

/-- R193 and the rules of its table: RESTART takes every unit to its state after RESTART, keeping counters,
configurations, line maps, power settings, links, profiles, separators, routes, destination settings, the report station
and the frame in transmission; it sends WITHDRAW for every sheet that has taken a lead and whose images are not complete
(R87); every flag is cleared, but a SPARE flag that a LEVEL-mode input holds (R75); its own reply goes first. The
directives still waiting are answered BUSY and leave the queue at once (the model's choice, log 10); the copied settings of
the empty accumulator are the model's choice (log 25). -/
def Obligations.RestartResetsPart : Prop :=
  ∀ (s : State) (d : Directive), waiting .restart d s → d.params = [] →
    ∃ t, exec .restart s = .next t ∧ t.dirQueue = [] ∧
      (∀ p : Port, repliesBecome p ((if d.port = p then [replyTo d .ok []] else []) ++ (s.port p).replies ++
        ((s.dirQueue.tail.filter (fun x => decide (x.port = p))).map busyReply)) s t) ∧
      (∀ l : Fin 8,
        (t.lane l).counter = (s.lane l).counter ∧ (t.lane l).partialCount = (s.lane l).partialCount ∧
        (t.lane l).config = (s.lane l).config ∧ (t.lane l).lines = (s.lane l).clearDriveLatches.lines ∧
        (t.lane l).spinTime = (s.lane l).spinTime ∧ (t.lane l).idleCode = (s.lane l).idleCode ∧
        (t.lane l).linkUp = (s.lane l).linkUp ∧ (t.lane l).state = .off ∧ (t.lane l).spinTarget = none ∧
        (t.lane l).spinRemaining = none ∧ (t.lane l).idleRemaining = none ∧ (t.lane l).drainCause = .none ∧
        (t.lane l).haltReason = .none ∧ (t.lane l).jamReason = .none ∧ (t.lane l).sequence = 0 ∧
        (t.lane l).path = [] ∧ (t.lane l).settleOrder = [] ∧ (t.lane l).batchQueue = [] ∧
        (t.lane l).picking = none ∧ (t.lane l).gateHolder = none ∧ (t.lane l).exitHolder = none ∧
        (t.lane l).acc = .empty ∧ (t.lane l).lastSample = 0 ∧ (t.lane l).lastLead = 0 ∧ (t.lane l).lastTrail = 0 ∧
        (t.lane l).lastExitLead = 0 ∧ (t.lane l).lastExitTrail = 0 ∧ (t.lane l).nextPick = .none ∧
        (t.lane l).pickWindow = none ∧ (t.lane l).sampleDue = none ∧ (t.lane l).gateLimit = none ∧
        (t.lane l).pickPulseEnd = none ∧ (t.lane l).divertEnd = none ∧ (t.lane l).pickDriven = false ∧
        (t.lane l).divertDriven = false ∧ (t.lane l).orphans = 0 ∧ (t.lane l).malformed = 0 ∧
        ∃ settled : List Tag,
          settled.Perm ((s.sheets.filter (fun r => decide (r.tag.lane = l ∧ r.tag ∉ (s.lane l).settleOrder ∧
            r.lead.isSome = true ∧ imagesComplete s r = false))).map Sheet.tag) ∧
          (t.lane l).toHead = (s.lane l).toHead ++ (if (s.lane l).linkUp then
            ((s.lane l).settleOrder.filter (fun g => (s.sheet? g).any (fun r =>
              decide (r.lead.isSome = true ∧ imagesComplete s r = false))) ++ settled).map withdrawFrame else [])) ∧
      (∀ f : Flag, (∀ l : Fin 8, f ≠ .lane l .spare) → t.flag f = false) ∧
      (∀ l : Fin 8, t.flag (.lane l .spare) = (s.flag (.lane l .spare) && (s.lane l).holdsSpare)) ∧
      (∀ i : Fin 16, t.profile i = { s.profile i with working := (s.profile i).b0 } ∧
        t.dest i = { s.dest i with credit := 0, undelivered := 0, closing := false, queue := [] }) ∧
      t.sheets = [] ∧ t.held = [] ∧ t.batches = [] ∧ t.lastReport = none ∧ t.directory = [] ∧ t.free = 4096 ∧
      t.reserved = 0 ∧ t.allocated = 0 ∧ t.lowMark = s.lowMark ∧ t.separators = s.separators ∧ t.bank0 = s.bank0 ∧
      t.bank1 = s.bank1 ∧ t.activeBank = s.activeBank ∧ t.mask = s.mask ∧ t.reportStation = s.reportStation ∧
      t.notices = [] ∧ t.pendingLost = none ∧ t.lostCount = 0 ∧
      (∀ p : Port, (t.port p).linkUp = (s.port p).linkUp ∧ (t.port p).current = none ∧
        (t.port p).suspended = none ∧ (t.port p).rr = Vector.replicate 4 15 ∧ (t.port p).unanswered = 0 ∧
        ∀ f, (s.port p).tx = some f → (t.port p).tx = some f)

/-! ### Deadlines of a lane -/

/-- R10, R11, R15, R44, R78, R80: the expiries that end a wait of the lane: the next pick becomes PASSED, PICK and DIVERT
are released, a spin-up ends at its target, the idle countdown ends in OFF; and the idle countdown's length by its code.
R12, R17, R19, R22: a due sample is read: it becomes the last sample, passes the accumulator, and the deadline is re-armed
at its own value plus the sample interval unless 4095 samples have been read. -/
def Obligations.LaneDeadlinesExpire : Prop :=
  (∀ (s : State) (l : Fin 8),
    ((s.lane l).nextPick = .armed (s.lane l).counter →
      exec (.nextPickExpiry l) s = .next (s.modLane l (fun x => { x with nextPick := .passed }))) ∧
    ((s.lane l).pickPulseEnd = some (s.lane l).counter →
      exec (.pickPulseEnd l) s = .next (s.modLane l (fun x => { x with pickPulseEnd := none, pickDriven := false }))) ∧
    ((s.lane l).divertEnd = some (s.lane l).counter →
      exec (.divertEnd l) s = .next (s.modLane l (fun x => { x with divertEnd := none, divertDriven := false }))) ∧
    ((s.lane l).state = .spinup → (s.lane l).spinRemaining = some 0 →
      ((s.lane l).spinTarget = some .feeding → exec (.endOfSpinup l) s = .next (s.modLane l (fun x =>
        { x with state := .feeding, spinTarget := none, spinRemaining := none }))) ∧
      ((s.lane l).spinTarget = some .idle → exec (.endOfSpinup l) s = .next (s.modLane l (fun x =>
        { x with state := .idle, spinTarget := none, spinRemaining := none, idleRemaining := idleMs x.idleCode })))) ∧
    (∀ reading : BitVec 12, (s.lane l).sampleDue = some (s.lane l).counter →
      exec (.sampleExpiry l reading) s = .next (s.modLane l (fun x =>
        { x with
          lastSample := reading.toNat
          acc := x.acc.read (s.profile x.acc.profile).working reading.toNat
          sampleDue := if x.acc.m + 1 = 4095 then none
            else some (x.counter + BitVec.ofNat 20 x.config.sampleInterval) }))) ∧
    ((s.lane l).state = .idle → (s.lane l).idleRemaining = some 0 →
      ∃ t, exec (.idleCountdownExpiry l) s = .next t ∧
        t.interior = ((s.modLane l (fun x => { x with
          state := .off, idleRemaining := none, spinTarget := none, spinRemaining := none })).setFlag
            (.lane l .off) true).interior)) ∧
  idleMs 0 = none ∧ (∀ c, 1 ≤ c → c ≤ 60 → idleMs c = some (c * 5000)) ∧
  ∀ c, 61 ≤ c → c ≤ 120 → idleMs c = some ((c - 55) * 60000)

/-- R49: the pick window of a FEEDING lane: an empty tray frees the picking sheet and, with an expected count, halts the
lane as STACK_SHORT; with expected count 0 it is the end of feeding (R42), after which a lane with nothing left in it
completes its drain at once (R43), its batch ENDED, and closed where nothing of it is held or pending (R132); otherwise
the pick is repeated up to the retry limit, and then the sheet is freed, MISFEED flagged and the lane halted. R50: in
DRAINING and HALTED the picking sheet is freed and no more; but where it was the last thing in a DRAINING lane, the drain is
complete: IDLE, and the batch leaves by the drain cause (R43). -/
def Obligations.PickWindowDecidesPick : Prop :=
  ∀ (s : State) (l : Fin 8) (g : Tag) (r : Sheet) (id : Nat), (s.lane l).pickWindow = some (s.lane l).counter →
    (s.lane l).picking = some g → s.sheet? g = some r → s.activeBatch l = some id →
    let freed := (freedOf r s).modLane l (fun x => { x with picking := none, pickWindow := none })
    let halted := fun (why : HaltReason) (u : State) => (u.modLane l (fun x =>
      { x with state := .halted, haltReason := why, spinTarget := none, spinRemaining := none, pickPulseEnd := none,
               pickDriven := false })).setFlag (.lane l .halt) true
    ((s.lane l).state = .feeding → (s.lane l).trayEmpty = true → (s.batchOf id).expected ≠ 0 →
      ∃ t, exec (.pickWindowExpiry l) s = .next t ∧ t.interior = (halted .stackShort freed).interior) ∧
    ((s.lane l).state = .feeding → (s.lane l).trayEmpty = true → (s.batchOf id).expected = 0 →
      ((s.lane l).path ≠ [] ∨ (s.lane l).settleOrder ≠ [] →
        ∃ t, exec (.pickWindowExpiry l) s = .next t ∧
          t.interior = ((freed.modBatch id (fun b =>
            if b.state = .feeding then { b with state := .draining } else b)).modLane l (fun x => { x with
              state := .draining, haltReason := .none, spinTarget := none, spinRemaining := none,
              drainCause := if x.drainCause = .abort then .abort else .feedEnd })).interior) ∧
      (∀ rest b, (s.lane l).path = [] → (s.lane l).settleOrder = [] → (s.lane l).drainCause ≠ .abort →
        activeWith s l id rest b →
        ∃ t, exec (.pickWindowExpiry l) s = .next t ∧
          t.interior = (departed l id rest .feedEnd (freed.modLane l (fun x =>
            { x.rested with haltReason := .none }))).interior)) ∧
    ((s.lane l).state = .feeding → (s.lane l).trayEmpty = false → r.retries < (s.lane l).config.retryLimit →
      ∃ t, exec (.pickWindowExpiry l) s = .next t ∧
        t.interior = ((s.modSheet g (fun q => { q with retries := q.retries + 1 })).modLane l (fun x =>
          { x with pickDriven := true,
                   pickPulseEnd := some (x.counter + BitVec.ofNat 20 x.config.pickPulse),
                   pickWindow := some (x.counter + BitVec.ofNat 20 x.config.pickWindow) })).interior) ∧
    ((s.lane l).state = .feeding → (s.lane l).trayEmpty = false → (s.lane l).config.retryLimit ≤ r.retries →
      ∃ t, exec (.pickWindowExpiry l) s = .next t ∧
        t.interior = (halted .misfeed (freed.setFlag (.lane l .misfeed) true)).interior) ∧
    ((s.lane l).state = .halted ∨
      ((s.lane l).state = .draining ∧ ((s.lane l).path ≠ [] ∨ (s.lane l).settleOrder ≠ [])) →
      ∃ t, exec (.pickWindowExpiry l) s = .next t ∧ t.interior = freed.interior) ∧
    (∀ rest b, (s.lane l).state = .draining → (s.lane l).path = [] → (s.lane l).settleOrder = [] →
      activeWith s l id rest b →
      ∃ t, exec (.pickWindowExpiry l) s = .next t ∧ t.interior = (drainDone l id rest freed).interior)

/-- R13, R107: an expired image deadline sets the image time-out mark, and INCOMPLETE where the sheet's images are not
complete. R105, R106, R117: of a sheet behind a waiting cursor that is all (shown for a DRAINING lane with paper in it);
the cursor sheet itself, alone in its lane's settlement order, is then examined, and the lane is left as a SETTLEMENT
leaves it; where it waits for queue space a new INCOMPLETE retries it, and without one it goes on waiting. That no two
live records bear one tag (R102) is part of `storeBalanced`, which every step keeps. -/
def Obligations.ImageDeadlineMarksSheet : Prop :=
  ∀ (s : State) (g : Tag) (r : Sheet), (s.sheets.map Sheet.tag).Nodup → s.sheet? g = some r →
    r.imageDeadline = some (s.lane g.lane).counter →
    let expired := s.modSheet g (fun q => { q with
      imageTimeout := true, imageDeadline := none
      findings := if imagesComplete s r then q.findings else { q.findings with incomplete := true } })
    let added := imagesComplete s r = false ∧ r.findings.incomplete = false
    (cursorStays s g.lane → (s.lane g.lane).settleOrder.head? ≠ some g →
      ((s.lane g.lane).state = .draining → (s.lane g.lane).path ≠ [] ∨ (s.lane g.lane).settleOrder ≠ []) →
      ∃ t, exec (.imageDeadlineExpiry g) s = .next t ∧ t.interior = expired.interior) ∧
    ((s.lane g.lane).settleOrder = [g] →
      (r.queueWait = [] → ∃ t v, exec (.imageDeadlineExpiry g) s = .next t ∧
        exec (.settlement g.lane) expired = .next v ∧ t.interior = v.interior) ∧
      (r.queueWait ≠ [] → added → ∃ t v, exec (.imageDeadlineExpiry g) s = .next t ∧
        exec (.queueWaitRetry g.lane) expired = .next v ∧ t.interior = v.interior) ∧
      (r.queueWait ≠ [] → ¬ added →
        ∃ t, exec (.imageDeadlineExpiry g) s = .next t ∧ t.interior = expired.interior))

/-! ### Picks and edges -/

/-- R11, R48, R94, R98, R102: a pick with every condition of R46 creates a PICKING record under a tag of the lane that no
live record has, takes the lane's reserve from the free blocks, which sets STORE_LOW where it takes them below the low
mark, drives PICK, and arms pulse end and window. -/
def Obligations.PickCreatesRecord : Prop :=
  ∀ (s : State) (l : Fin 8) (id : Nat), (s.lane l).state = .feeding → (s.lane l).nextPick = .passed →
    (s.lane l).picking = none → openSheets s l < (s.lane l).config.depth → s.activeBatch l = some id →
    ((s.batchOf id).expected = 0 ∨ (s.batchOf id).fed < (s.batchOf id).expected) → s.sheets.length < 128 →
    (s.lane l).config.reserve ≤ s.free →
    ∃ (t : State) (g : Tag), exec (.pick l) s = .next t ∧ g.lane = l ∧ s.sheet? g = none ∧
      (s.sheet? ⟨l, (s.lane l).sequence⟩ = none → g.seq = (s.lane l).sequence) ∧
      t.sheets = s.sheets ++ [Sheet.create g id .picking .empty (s.lane l).config.reserve] ∧
      t.free = s.free - (s.lane l).config.reserve ∧ t.reserved = s.reserved + (s.lane l).config.reserve ∧
      t.allocated = s.allocated ∧
      t.flag (.device .storeLow) = (s.flag (.device .storeLow) ||
        decide (s.lowMark ≤ s.free ∧ s.free - (s.lane l).config.reserve < s.lowMark)) ∧
      t.lane l = { s.lane l with
        sequence := g.seq + 1, picking := some g, pickDriven := true,
        pickPulseEnd := some ((s.lane l).counter + BitVec.ofNat 20 (s.lane l).config.pickPulse),
        pickWindow := some ((s.lane l).counter + BitVec.ofNat 20 (s.lane l).config.pickWindow) } ∧
      (∀ k : Fin 8, k ≠ l → t.lane k = s.lane k) ∧
      (∀ f, f ≠ .device .storeLow → f ≠ noticeLostFlag → t.flag f = s.flag f) ∧
      t.interior = ({ s with
        lanes := t.lanes, sheets := t.sheets, free := t.free, reserved := t.reserved, flags := t.flags } : State).interior

/-- R6, R12, R18, R51, R86: a lead with a picking sheet: the sheet becomes IN_GATE with its capture and joins path and
settlement order as gate holder; sample and gate limit are armed, the accumulator is opened, ANNOUNCE is sent while the
link is UP, and the batch's fed count grows; where it reaches the expected count, that is the end of feeding (R42).
R52, R54: with no picking sheet, a record with finding UNEXPECTED is created in its place and SUSPECT flagged, and with
double-feed action STOP a lane in SPINUP or FEEDING halts, where the lead has not ended its feeding first (the model's
choice, log 12). R94, R98: its record takes the lane's reserve from the free blocks where they suffice, which sets STORE_LOW
where it takes them below the low mark; that this is judged at the draw itself, so that the flag is set even where the batch
is aborted and the settlement of the same event returns the reserve, is the model's reading of R98 (log 13).
R105: the settlement cursor is examined, and the lane left as a SETTLEMENT leaves it; where the cursor sheet stays, or the
new sheet is the cursor and its batch not aborted, nothing more changes. R52: with the sheet table full the lane halts with
TABLE_FULL, but for a HALTED one. R5: in OFF, IDLE, JAMMED and MANUAL the capture and the sensed level alone change. -/
def Obligations.LeadOpensGate : Prop :=
  ∀ (s : State) (l n : Fin 8), (s.lane l).lineWith .entry = some n → ((s.lane l).line n).isActive = false →
    let counter := (s.lane l).counter
    let captured : Lane → Lane := fun x => { x.setLine n { x.line n with sensed := (x.line n).activeLevel } with
      lastLead := x.counter }
    let entered : Tag → Fin 16 → Lane → Lane := fun g i x => { captured x with
      path := x.path ++ [⟨g, false, none⟩], settleOrder := x.settleOrder ++ [g], gateHolder := some g,
      sampleDue := some (x.counter + BitVec.ofNat 20 x.config.sampleInterval),
      gateLimit := some (x.counter + BitVec.ofNat 20 x.config.gateLimit),
      acc := openAccumulator g i (s.profile i),
      toHead := if x.linkUp then x.toHead ++ [announceFrame g] else x.toHead }
    let last := fun (b : Batch) => 0 < b.expected ∧ min (b.fed + 1) 65535 = b.expected
    let counted := fun (b c : Batch) => { c with
      fed := min (c.fed + 1) 65535, state := if last b ∧ c.state = .feeding then .draining else c.state }
    let ended := fun (x : Lane) =>
      let y := { x with drainCause := if x.drainCause = .abort then .abort else .feedEnd }
      if x.state = .spinup ∨ x.state = .feeding then
        { y with state := .draining, haltReason := .none, spinTarget := none, spinRemaining := none }
      else y
    let halted := fun (why : HaltReason) (u : State) => (u.modLane l (fun x => { x with
      state := .halted, haltReason := why, spinTarget := none, spinRemaining := none, pickPulseEnd := none,
      pickDriven := false })).setFlag (.lane l .halt) true
    ((s.lane l).state.attributing = false → exec (.lead l) s = .next (s.modLane l captured)) ∧
    ((s.lane l).state.attributing = true → (s.lane l).path.length < 128 →
      (∀ g r b, (s.lane l).picking = some g → s.sheet? g = some r → s.batch? r.batch = some b →
        (last b → s.activeBatch l = some r.batch) →
        let led := ((s.modSheet g (fun q => { q with lead := some counter, state := .inGate })).modLane l (fun x =>
          let y := { entered g b.profile x with picking := none, pickWindow := none }
          if last b then ended y else y)).modBatch r.batch (counted b)
        (∃ t v, exec (.lead l) s = .next t ∧ exec (.settlement l) led = .next v ∧ t.interior = v.interior) ∧
        (cursorStays s l → (s.lane l).settleOrder.head? ≠ some g →
          (s.lane l).settleOrder ≠ [] ∨ (r.findings = .empty ∧ r.trail = none ∧ r.divertDone = false ∧
            b.state ≠ .aborted) →
          ∃ t, exec (.lead l) s = .next t ∧ t.interior = led.interior)) ∧
      (∀ id b, (s.lane l).picking = none → s.activeBatch l = some id → s.batch? id = some b → s.sheets.length < 128 →
        let reserve := if (s.lane l).config.reserve ≤ s.free then (s.lane l).config.reserve else 0
        let joined := fun (g : Tag) =>
          let made : State := { s with
            sheets := s.sheets ++ [{ Sheet.create g id .inGate { Findings.empty with unexpected := true } reserve with
              lead := some counter }]
            free := s.free - reserve, reserved := s.reserved + reserve }
          let low := if s.lowMark ≤ s.free ∧ s.free - reserve < s.lowMark then made.setFlag (.device .storeLow) true
            else made
          let led := ((low.modLane l (fun x =>
            let y := { entered g b.profile x with sequence := g.seq + 1 }
            if last b then ended y else y)).modBatch id (counted b)).setFlag (.lane l .suspect) true
          if b.action = .stop ∧ ¬ last b ∧ ((s.lane l).state = .spinup ∨ (s.lane l).state = .feeding) then
            halted .suspect led
          else led
        ∃ (t v : State) (g : Tag), exec (.lead l) s = .next t ∧ g.lane = l ∧ s.sheet? g = none ∧
          (s.sheet? ⟨l, (s.lane l).sequence⟩ = none → g.seq = (s.lane l).sequence) ∧
          exec (.settlement l) (joined g) = .next v ∧ t.interior = v.interior ∧
          (cursorStays s l → (s.lane l).settleOrder ≠ [] ∨ b.state ≠ .aborted →
            t.interior = (joined g).interior)) ∧
      (∀ id, (s.lane l).picking = none → s.activeBatch l = some id → 128 ≤ s.sheets.length →
        ((s.lane l).state ≠ .halted → ∃ t, exec (.lead l) s = .next t ∧
          t.interior = (halted .tableFull (s.modLane l captured)).interior) ∧
        ((s.lane l).state = .halted → ∃ t, exec (.lead l) s = .next t ∧
          t.interior = (s.modLane l captured).interior)))

/-- R7, R10, R13, R14, R24 to R29, R54, R55: the trail of an unsettled gate holder: capture, length, samples and findings are
written, the sheet is IMAGING with its image deadline, the gate is empty, the next pick and the exit window of its path
entry are armed, the profile tracks; a measurement finding sets SUSPECT, and with double-feed action STOP, or past the divert
point, halts a lane in SPINUP or FEEDING. R91, R105, R106: the settlement cursor is then examined, since a cursor sheet
whose images are complete is made ready so: the lane is left as a SETTLEMENT leaves it; behind a waiting cursor, or with
images still to come, nothing more changes, in DRAINING either, where sheet and path entry stay.
R7, R111: a gate holder already settled arms next pick and exit window alone, and is stamped while its record is live.
R5, R7: with no gate holder, or in OFF, IDLE, JAMMED and MANUAL, the capture and the sensed level alone change.
That the accumulator, which holds no sheet after the trail (section 2.2), keeps its counts, delay line and copied settings
until the next lead opens it is the model's choice (log 25). -/
def Obligations.TrailMeasuresSheet : Prop :=
  ∀ (s : State) (l n : Fin 8), (s.lane l).lineWith .entry = some n → ((s.lane l).line n).isActive = true →
    let x := s.lane l
    let captured := s.modLane l (fun y =>
      { y.setLine n { y.line n with sensed := (y.line n).activeLevel.opposite } with lastTrail := y.counter })
    (x.state.attributing = false ∨ x.gateHolder = none → exec (.trail l) s = .next captured) ∧
    ∀ (g : Tag) (path : List PathEntry), x.state.attributing = true → x.gateHolder = some g →
      (∃ before after w, x.path = before ++ ⟨g, false, w⟩ :: after ∧ (∀ e ∈ before, e.tag ≠ g ∨ e.exited = true) ∧
        path = before ++ ⟨g, false, some (x.counter + BitVec.ofNat 20 x.config.exitWindow)⟩ :: after) ∨
      ((∀ e ∈ x.path, e.tag ≠ g ∨ e.exited = true) ∧ path = x.path) →
      let passed := captured.modLane l (fun y => { y with
        gateHolder := none, sampleDue := none, gateLimit := none, path := path
        nextPick := .armed (y.counter + BitVec.ofNat 20 y.config.gap) })
      (s.sheet? g = none → ∃ t, exec (.trail l) s = .next t ∧ t.interior = passed.interior) ∧
      (∀ r, s.sheet? g = some r → r.state.unsettled = false →
        ∃ t, exec (.trail l) s = .next t ∧
          t.interior = (passed.modSheet g (fun q => { q with trail := some x.counter })).interior) ∧
      (∀ r, s.sheet? g = some r → r.state = .inGate →
        let a := x.acc
        let base := (s.profile a.profile).working
        let len := min 9999 ((x.counter - r.lead.getD 0).toNat * x.config.pitch / 4096)
        let f := trailFindings a len r.findings
        let stops := f.measurement = true ∧ ((s.batchOf r.batch).action = .stop ∨ r.pastDivert = true) ∧
          (x.state = .spinup ∨ x.state = .feeding)
        let written := ((passed.modSheet g (fun q => { q with
          trail := some x.counter, length := some len, findings := f, state := .imaging,
          samples := some ⟨a.m, a.n, a.longest, if a.n = 0 then 0 else min 1023 (a.sum / a.n * 256 / base)⟩,
          imageDeadline := some (x.counter + BitVec.ofNat 20 x.config.imageWindow) })).modProfile a.profile (fun p =>
            if p.tracking = true ∧ f = .empty then { p with working := moveBaseline (a.sum / a.n) p } else p)).modLane l
              (fun y => { y with acc := { y.acc with sheet := none } })
        let flagged := if f.measurement then written.setFlag (.lane l .suspect) true else written
        let measured := if stops then (flagged.modLane l (fun y => { y with
            state := .halted, haltReason := .suspect, spinTarget := none, spinRemaining := none, pickPulseEnd := none,
            pickDriven := false })).setFlag (.lane l .halt) true
          else flagged
        (∃ t v, exec (.trail l) s = .next t ∧ exec (.settlement l) measured = .next v ∧ t.interior = v.interior) ∧
        (cursorStays s l → (x.state = .draining → x.path ≠ [] ∨ x.settleOrder ≠ []) →
          ∃ t, exec (.trail l) s = .next t ∧ t.interior = measured.interior))

/-- R26: the length findings of a trail computation: LONG above N + D, SHORT below N less D, neither inside the band or
with N 0, never both, and no LONG when N + D reaches 9999. R27: DOUBLE when the longest run is at least R, NOSAMPLE when
nothing was counted, both only with R 0. R29: a finding that the sheet carries stays, and no other is added. -/
def Obligations.LengthFindings : Prop :=
  ∀ (a : Accumulator) (len : Nat) (f : Findings), len ≤ 9999 → f.long = false → f.short = false →
    let q := trailFindings a len f
    (q.long = true ↔ 0 < a.nominal ∧ len > a.nominal + a.tolerance) ∧
    (q.short = true ↔ 0 < a.nominal ∧ len + a.tolerance < a.nominal) ∧ ¬ (q.long = true ∧ q.short = true) ∧
    (9999 ≤ a.nominal + a.tolerance → q.long = false) ∧
    (q.double = true ↔ f.double = true ∨ a.runLength ≤ a.longest) ∧ (q.noSample = true ↔ f.noSample = true ∨ a.n = 0) ∧
    (f.double = false → f.noSample = false → a.longest ≤ a.n → q.double = true → q.noSample = true → a.runLength = 0) ∧
    { q with long := f.long, short := f.short, double := f.double, noSample := f.noSample } = f

/-- R19 to R21: however many readings a sheet gives, each a sample with the working baseline as it stands at that reading,
m counts them all, the first and the last E are not counted, and the sum and longest run are those of the counted samples,
each tested at the baseline as it leaves the delay line, which is that of the reading E places later. -/
def Obligations.GuardsDropBothEnds : Prop :=
  ∀ (g : Tag) (i : Fin 16) (p : Profile) (reads : List (Nat × Nat)),
    let a := reads.foldl (fun b x => b.read x.1 x.2) (openAccumulator g i p)
    let smps := reads.map Prod.snd
    let counted := (smps.drop p.guardE).zip ((reads.map Prod.fst).drop (2 * p.guardE))
    a.m = reads.length ∧ a.n = counted.length ∧ a.n = reads.length - 2 * p.guardE ∧
    a.sum = (counted.map Prod.fst).sum ∧
    a.delay = smps.drop (max p.guardE (smps.length - p.guardE)) ∧
    (∀ k, k ≤ a.longest ↔ k = 0 ∨ ∃ j, j + k ≤ counted.length ∧
      ∀ x ∈ (counted.drop j).take k, x.2 * p.threshold ≤ x.1 * 256 ∨ x.1 = 4095)

/-- R37: tracking moves the working baseline by a sixteenth of its distance from the mean, truncated toward zero, and
keeps it in the band; a mean within 15 of it leaves a baseline that is in the band as it is. -/
def Obligations.BaselineMovesSixteenth : Prop :=
  ∀ (mean : Nat) (p : Profile), 1 ≤ p.b0 → p.b0 ≤ 4095 → mean ≤ 4095 →
    max 1 (3 * p.b0 / 4) ≤ p.working → p.working ≤ min 4095 (5 * p.b0 / 4) →
    let w := moveBaseline mean p
    max 1 (3 * p.b0 / 4) ≤ w ∧ w ≤ min 4095 (5 * p.b0 / 4) ∧
    (p.working ≤ mean → w = min (min 4095 (5 * p.b0 / 4)) (p.working + (mean - p.working) / 16)) ∧
    (mean < p.working → w = max (max 1 (3 * p.b0 / 4)) (p.working - (p.working - mean) / 16)) ∧
    (p.working ≤ mean + 15 → mean ≤ p.working + 15 → w = p.working)

/-- R8, R53, R56, R57: an exit lead marks the first entry not exited as the exit holder, cancels its window and stamps its
capture; a sheet still in the gate is marked past-divert; for a sheet to be diverted DIVERT is driven and its mark set, and
the settlement cursor is examined (R105, R106, R108): the lane is left as a SETTLEMENT leaves it, so that the cursor sheet
settles DIVERTED in the same event (R112); behind a waiting cursor it stays with its mark.
R9, R58: an exit trail stamps its capture and removes the holder's entry; in a DRAINING lane with nothing else left that
completes the drain (R43): IDLE, and the batch leaves by the drain cause (R131).
R5, R9: with no exit holder an exit trail, and in OFF, IDLE, JAMMED and MANUAL either edge, changes capture and sensed level
alone. -/
def Obligations.ExitEdgesFollowPath : Prop :=
  ∀ (s : State) (l n : Fin 8), (s.lane l).lineWith .exit = some n →
    let counter := (s.lane l).counter
    let entered := s.modLane l (fun x =>
      { x.setLine n { x.line n with sensed := (x.line n).activeLevel } with lastExitLead := x.counter })
    let cleared := s.modLane l (fun x =>
      { x.setLine n { x.line n with sensed := (x.line n).activeLevel.opposite } with lastExitTrail := x.counter })
    (((s.lane l).line n).isActive = false → (s.lane l).state.attributing = false →
      exec (.exitLead l) s = .next entered) ∧
    (((s.lane l).line n).isActive = true → (s.lane l).state.attributing = false ∨ (s.lane l).exitHolder = none →
      exec (.exitTrail l) s = .next cleared) ∧
    ∀ (g : Tag) (out rest : List PathEntry) (w : Option Tick), (s.lane l).state.attributing = true →
      (((s.lane l).line n).isActive = false → (s.lane l).path = out ++ ⟨g, false, w⟩ :: rest →
        (∀ e ∈ out, e.exited = true) →
        let led := (entered.modSheet g (fun q => { q with exitLead := some counter })).modLane l (fun x =>
          { x with exitHolder := some g, path := out ++ ⟨g, true, none⟩ :: rest })
        (s.sheet? g = none ∨ (∃ r, s.sheet? g = some r ∧ (s.lane l).gateHolder ≠ some g ∧ toDivert s r = false) →
          ∃ t, exec (.exitLead l) s = .next t ∧ t.interior = led.interior) ∧
        ((s.lane l).gateHolder = some g →
          ∃ t, exec (.exitLead l) s = .next t ∧
            t.interior = (led.modSheet g (fun q => { q with pastDivert := true })).interior) ∧
        (∀ r, s.sheet? g = some r → (s.lane l).gateHolder ≠ some g → r.state.unsettled = true → r.pastDivert = false →
          (s.batchOf r.batch).action = .divert → r.findings.measurement = true →
          let driven := (led.modSheet g (fun q => { q with divertDone := true })).modLane l (fun x =>
            { x with divertDriven := true, divertEnd := some (x.counter + BitVec.ofNat 20 x.config.divertPulse) })
          (∃ t v, exec (.exitLead l) s = .next t ∧ exec (.settlement l) driven = .next v ∧ t.interior = v.interior) ∧
          ((s.lane l).settleOrder = [g] → r.queueWait = [] → r.findings.jam = false →
            (s.batchOf r.batch).state ≠ .aborted →
            ∃ t, exec (.exitLead l) s = .next t ∧
              t.interior = ((dropped l r driven).modBatch r.batch (fun c => { c with
                settled := min (c.settled + 1) 65535, diverted := min (c.diverted + 1) 65535 })).interior) ∧
          (cursorStays s l → (s.lane l).settleOrder.head? ≠ some g →
            ∃ t, exec (.exitLead l) s = .next t ∧ t.interior = driven.interior))) ∧
      (((s.lane l).line n).isActive = true → (s.lane l).exitHolder = some g →
        (s.lane l).path = out ++ ⟨g, true, w⟩ :: rest → (∀ e ∈ out, e.tag ≠ g ∨ e.exited = false) →
        let left := (cleared.modSheet g (fun q => { q with exitTrail := some counter })).modLane l (fun x =>
          { x with exitHolder := none, path := out ++ rest })
        ((s.lane l).state ≠ .draining ∨ (s.lane l).picking ≠ none ∨ out ++ rest ≠ [] ∨ (s.lane l).settleOrder ≠ [] →
          ∃ t, exec (.exitTrail l) s = .next t ∧ t.interior = left.interior) ∧
        (∀ id queued b, (s.lane l).state = .draining → (s.lane l).picking = none → out ++ rest = [] →
          (s.lane l).settleOrder = [] → activeWith s l id queued b →
          ∃ t, exec (.exitTrail l) s = .next t ∧ t.interior = (drainDone l id queued left).interior))

/-- R71, R74 to R76, R85: a COVER line becoming inactive, a TRAY edge, a SPARE edge and a change of the link state change
that level or link alone; a SPARE input becoming active also sets the lane's SPARE flag; a cover that opens on an IDLE
lane takes it to OFF and flags it, and on a lane in OFF, JAMMED or MANUAL changes the sensed level alone. The COVER condition
is active while the COVER line's sensed level is its active level, and never without a COVER role. -/
def Obligations.LaneLinesSensed : Prop :=
  ∀ (s : State) (l n : Fin 8),
    let sensed := fun (v : Level) => s.modLane l (fun x => x.setLine n { x.line n with sensed := v })
    let q := (s.lane l).line n
    ((s.lane l).lineWith .cover = some n → q.sensed = q.activeLevel →
      exec (.coverInactive l) s = .next (sensed q.activeLevel.opposite)) ∧
    ((s.lane l).lineWith .tray = some n → exec (.trayEdge l) s = .next (sensed q.sensed.opposite)) ∧
    (q.role = .spare → q.spareDirection = .input → q.sensed = q.activeLevel →
      exec (.spareEdge l n) s = .next (sensed q.sensed.opposite)) ∧
    (q.role = .spare → q.spareDirection = .input → q.sensed ≠ q.activeLevel →
      ∃ t, exec (.spareEdge l n) s = .next t ∧
        t.interior = ((sensed q.activeLevel).setFlag (.lane l .spare) true).interior) ∧
    (∀ up : Bool, exec (.linkStateChange l up) s = .next (s.modLane l (fun x => { x with linkUp := up }))) ∧
    ((s.lane l).lineWith .cover = some n → q.sensed ≠ q.activeLevel → (s.lane l).state = .idle →
      ∃ t, exec (.coverActive l) s = .next t ∧
        t.interior = (((sensed q.activeLevel).modLane l (fun x => { x with
          state := .off, idleRemaining := none, spinTarget := none, spinRemaining := none })).setFlag
            (.lane l .off) true).interior) ∧
    ((s.lane l).lineWith .cover = some n → q.sensed ≠ q.activeLevel →
      (s.lane l).state = .off ∨ (s.lane l).state = .jammed ∨ (s.lane l).state = .manual →
      ∃ t, exec (.coverActive l) s = .next t ∧ t.interior = (sensed q.activeLevel).interior) ∧
    ((s.lane l).lineWith .cover = some n → ((s.lane l).coverCondition = true ↔ q.sensed = q.activeLevel)) ∧
    ((∀ k : Fin 8, ((s.lane l).line k).role ≠ .cover) → (s.lane l).coverCondition = false)

/-- R41, R52, R53, R59, R76: a gate limit, an exit window, a cover that opens, a lead with the path order full or with
neither a picking sheet nor an active batch, and an exit lead with no path entry left to exit, on a lane in SPINUP, FEEDING,
DRAINING or HALTED, jam it, each with its reason: JAM is flagged, the drives are released, the picking sheet is freed, gate,
exit holder and lane deadlines are emptied, and the path order, the batch and the other lanes' states stay. R22, R41: a
gate holder's measurement is discarded, and a live unsettled one gets finding JAM: as the cursor sheet it settles DISCARDED
with the jam, and behind a waiting cursor it stays with that finding. The jam keeps the drain cause; a settlement that
follows from it can make it END (R42, R144). -/
def Obligations.JamCausesJamLane : Prop :=
  ∀ (s : State) (l : Fin 8) (c : Instr) (why : JamReason), (s.lane l).state.attributing = true →
    ((c = .gateLimitExpiry l ∧ why = .gate ∧ (s.lane l).gateLimit = some (s.lane l).counter) ∨
      (c = .exitWindowExpiry l ∧ why = .exit ∧
        ∃ e ∈ (s.lane l).path, e.exitWindow = some (s.lane l).counter) ∨
      (c = .coverActive l ∧ why = .interlock ∧ ∃ n, (s.lane l).lineWith .cover = some n ∧
        ((s.lane l).line n).isActive = false) ∨
      (c = .lead l ∧ why = .stray ∧ (∃ n, (s.lane l).lineWith .entry = some n ∧ ((s.lane l).line n).isActive = false) ∧
        (128 ≤ (s.lane l).path.length ∨ ((s.lane l).picking = none ∧ s.activeBatch l = none))) ∨
      (c = .exitLead l ∧ why = .stray ∧ (∃ n, (s.lane l).lineWith .exit = some n ∧ ((s.lane l).line n).isActive = false) ∧
        ∀ e ∈ (s.lane l).path, e.exited = true)) →
    ∃ t, exec c s = .next t ∧ t.flag (.lane l .jam) = true ∧
      (t.lane l).state = .jammed ∧ (t.lane l).jamReason = why ∧ (t.lane l).haltReason = .none ∧
      (t.lane l).spinTarget = none ∧ (t.lane l).spinRemaining = none ∧ (t.lane l).pickDriven = false ∧
      (t.lane l).divertDriven = false ∧ (t.lane l).pickPulseEnd = none ∧ (t.lane l).divertEnd = none ∧
      (t.lane l).picking = none ∧ (t.lane l).gateHolder = none ∧ (t.lane l).exitHolder = none ∧
      (t.lane l).sampleDue = none ∧ (t.lane l).gateLimit = none ∧ (t.lane l).nextPick = .none ∧
      (t.lane l).path = (s.lane l).path.map (fun e => { e with exitWindow := none }) ∧
      (t.lane l).batchQueue = (s.lane l).batchQueue ∧ (t.lane l).counter = (s.lane l).counter ∧
      (∀ g, (s.lane l).picking = some g → t.sheet? g = none) ∧
      ((s.lane l).gateHolder = none → (t.lane l).acc = (s.lane l).acc) ∧
      ((s.lane l).gateHolder ≠ none → (t.lane l).acc.sheet = none ∧ (t.lane l).acc.m = 0 ∧ (t.lane l).acc.n = 0 ∧
        (t.lane l).acc.sum = 0 ∧ (t.lane l).acc.run = 0 ∧ (t.lane l).acc.longest = 0 ∧ (t.lane l).acc.delay = []) ∧
      ((t.lane l).drainCause = (s.lane l).drainCause ∨
        ((s.lane l).settleOrder ≠ [] ∧ (t.lane l).drainCause = .feedEnd)) ∧
      (∀ g, (s.lane l).gateHolder = some g → ∀ r, s.sheet? g = some r → r.state.unsettled = true →
        (s.lane l).picking ≠ some g →
        let jammed := { r with findings := { r.findings with jam := true } }
        (t.sheet? g = none ∨ t.sheet? g = some jammed) ∧
        ((s.lane l).settleOrder = [g] →
          t.sheet? g = none ∧ (t.lane l).settleOrder = [] ∧ (t.lane l).drainCause = (s.lane l).drainCause ∧
          t.batch? r.batch = (s.batch? r.batch).map (fun b => { b with
            settled := min (b.settled + 1) 65535, discarded := min (b.discarded + 1) 65535 }) ∧
          (t.lane l).toHead = (s.lane l).toHead ++
            (if (s.lane l).linkUp = true ∧ imagesComplete s r = false then [withdrawFrame g] else []) ∧
          ((s.lane l).picking = none → t.free = s.free + (r.front ++ r.back).length + r.reserve)) ∧
        (cursorWaits s l → (s.lane l).settleOrder.head? ≠ some g →
          (∀ p, (s.lane l).picking = some p → (s.lane l).settleOrder.head? ≠ some p) →
          t.sheet? g = some jammed ∧ (t.lane l).settleOrder = (s.lane l).settleOrder ∧
          (t.lane l).drainCause = (s.lane l).drainCause)) ∧
      (∀ k : Fin 8, k ≠ l → t.lane k = s.lane k) ∧
      t.interior = ({ s with
        lanes := t.lanes, sheets := t.sheets, batches := t.batches, dests := t.dests, held := t.held, flags := t.flags,
        free := t.free, reserved := t.reserved, allocated := t.allocated, directory := t.directory } : State).interior

/-! ### The lane link -/

/-- R88 to R91, R93, R98: a strip in turn for an unsettled sheet is filed in the lowest empty block, drawn from the
sheet's reserve or else from the free pool, where it can set STORE_LOW: the payload reads back, the side's list grows, and
no other byte changes. Where it completes the sheet's images, the lane's settlement cursor is then examined (R105): the
lane is left as a SETTLEMENT leaves it with the strip filed. That STORE_LOW is judged at the draw itself, so that it is
set even where the settlement of the same event raises the free count to the low mark again, is the model's reading of R98
(log 13); that a strip is filed while the recorded link state is DOWN too is its reading of R85 (log 26). -/
def Obligations.StripFiledInLowestBlock : Prop :=
  ∀ (s : State) (l : Fin 8) (frame payload : List Byte) (g : Tag) (r : Sheet) (side : Side) (index blk : Nat) (last : Bool),
    readLaneFrame frame = .strip (tagCode g) side index last payload → g.lane = l → s.sheet? g = some r →
    r.state.unsettled = true → index < 128 →
    (match side with
      | .front => r.frontLast = false ∧ index = r.front.length
      | .back => r.backLast = false ∧ index = r.back.length ∧ (s.batchOf r.batch).sides = .duplex) →
    0 < r.reserve ∨ 0 < s.free → s.directory.Pairwise (fun x y => x.block < y.block) →
    (∀ k, k < blk → ∃ x ∈ s.directory, x.block = k) → (∀ x ∈ s.directory, x.block ≠ blk) → Memory.wf s.dram →
    let fromPool := if r.reserve = 0 then 1 else 0
    let completing := last = true ∧ ((s.batchOf r.batch).sides = .simplex ∨
      (match side with
        | .front => r.backLast
        | .back => r.frontLast) = true)
    let filed := fun (t : State) =>
      t.sheet? g = some (match side with
        | .front => { r with front := r.front ++ [blk], frontLast := r.frontLast || last, reserve := r.reserve - 1 }
        | .back => { r with back := r.back ++ [blk], backLast := r.backLast || last, reserve := r.reserve - 1 }) ∧
      t.free = s.free - fromPool ∧ t.reserved = s.reserved - (1 - fromPool) ∧ t.allocated = s.allocated + 1 ∧
      t.flag (.device .storeLow) = (s.flag (.device .storeLow) ||
        decide (s.lowMark ≤ s.free ∧ s.free - fromPool < s.lowMark)) ∧
      (∀ f, f ≠ .device .storeLow → f ≠ noticeLostFlag → t.flag f = s.flag f) ∧
      t.directory.Perm (⟨blk, g, payload.length⟩ :: s.directory) ∧ readBytes t.dram (blk * 8192) payload.length = payload ∧
      (∀ a, a < blk * 8192 ∨ blk * 8192 + payload.length ≤ a → readByte t.dram a = readByte s.dram a) ∧
      (∀ h, h ≠ g → t.sheet? h = s.sheet? h) ∧
      t.interior = ({ s with
        sheets := t.sheets, free := t.free, reserved := t.reserved, allocated := t.allocated, directory := t.directory,
        dram := t.dram, flags := t.flags } : State).interior
    (¬ completing → ∃ t, exec (.strip l frame) s = .next t ∧ filed t) ∧
    (completing → ∃ u t, filed u ∧ exec (.strip l frame) s = .next t ∧ exec (.settlement l) u = .next t)

/-- R85, R88, R89, R90, R92: a strip for no unsettled sheet of the lane, or with a tag of 32768 or more, is an orphan,
counted and flagged; a strip out of turn, or one that finds neither reserve nor free block, is dropped and adds INCOMPLETE
to its sheet; the cursor sheet is then examined, or retried where it waits for queue space (R105, R117): the lane is left as
a SETTLEMENT or a QUEUE_WAIT_RETRY leaves it, and a sheet that is not ready stays; the first patch word of an unsettled sheet is stored, a
later one and one for no such sheet discarded; a malformed frame is counted. All this holds while the recorded link state is
DOWN too (the model's reading, log 26). -/
def Obligations.HeadFramesTakenOrCounted : Prop :=
  ∀ (s : State) (l : Fin 8) (frame : List Byte) (number : Nat) (g : Tag),
    let astray := 32768 ≤ number ∨ number = tagCode g ∧
      (g.lane ≠ l ∨ s.sheet? g = none ∨ ∃ r, s.sheet? g = some r ∧ r.state.unsettled = false)
    let unsettled := fun (r : Sheet) => number = tagCode g ∧ g.lane = l ∧ s.sheet? g = some r ∧ r.state.unsettled = true
    (∀ side index last payload, readLaneFrame frame = .strip number side index last payload →
      (astray → ∃ t, exec (.strip l frame) s = .next t ∧
        t.interior = ((s.modLane l (fun x => { x with orphans := min (x.orphans + 1) 65535 })).setFlag
          (.lane l .orphan) true).interior) ∧
      (∀ r, unsettled r →
        128 ≤ index ∨ (r.reserve = 0 ∧ s.free = 0) ∨
          (match side with
            | .front => r.frontLast = true ∨ index ≠ r.front.length
            | .back => r.backLast = true ∨ index ≠ r.back.length ∨ (s.batchOf r.batch).sides = .simplex) →
        (r.findings.incomplete = true → ∃ t, exec (.strip l frame) s = .next t ∧ t.interior = s.interior) ∧
        (r.findings.incomplete = false →
          let added := s.modSheet g (fun q => { q with findings := { q.findings with incomplete := true } })
          ((s.lane l).settleOrder.head? ≠ some g ∨
            ((r.trail = none ∨ (imagesComplete s r = false ∧ r.imageTimeout = false)) ∧ r.state ≠ .ready ∧
              r.findings.jam = false ∧ batchAborting s r = false ∧ r.divertDone = false) →
            ∃ t, exec (.strip l frame) s = .next t ∧ t.interior = added.interior) ∧
          ((s.lane l).settleOrder.head? = some g →
            ∃ t v, exec (.strip l frame) s = .next t ∧
              exec (if r.queueWait = [] then .settlement l else .queueWaitRetry l) added = .next v ∧
              t.interior = v.interior)))) ∧
    (∀ word, readLaneFrame frame = .patch number word →
      (∀ r, unsettled r → r.patch = none →
        exec (.patch l frame) s = .next (s.modSheet g (fun q => { q with patch := some (q.patch.getD word) }))) ∧
      (∀ r, unsettled r → r.patch ≠ none → (s.sheets.map Sheet.tag).Nodup → exec (.patch l frame) s = .next s) ∧
      (astray → exec (.patch l frame) s = .next s)) ∧
    (readLaneFrame frame = .malformed →
      exec (.malformedFrame l frame) s = .next (s.modLane l (fun x =>
        { x with malformed := min (x.malformed + 1) 65535 })))

/-! ### Settlement -/

/-- R105: whatever the command, a lane's settlement order changes by sheets leaving it at its head and, in a lead of that
lane alone, a sheet joining it at its tail: the lane's picking sheet, or a new one under a tag of the lane: sheets settle in
lead order. Every step keeps each lane's picking sheet under a tag of the lane (R48, R102), and so a sheet that joins bears
one. -/
def Obligations.SheetsSettleInLeadOrder : Prop :=
  (∀ (c : Instr) (s t : State) (l : Fin 8), exec c s = .next t →
    ∃ (k : Nat) (newest : List Tag), newest.length ≤ 1 ∧ (newest ≠ [] → c = .lead l) ∧
      (∀ g ∈ newest, (s.lane l).picking = some g ∨ ((s.lane l).picking = none ∧ g.lane = l)) ∧
      (picksOwnTags s → ∀ g ∈ newest, g.lane = l) ∧
      (t.lane l).settleOrder = (s.lane l).settleOrder.drop k ++ newest) ∧
  ∀ s t : State, picksOwnTags s → step s = .next t → picksOwnTags t

/-- R40, R109, R110, R113, R114, R116, R145: a ready cursor sheet with a hold reason ((a) a finding under STOP, (b) a
measurement finding past the divert point, (c) one under DIVERT with the divert not done, (d) INCOMPLETE), or with none and
no route, which adds NOROUTE, is settled HELD: numbered, entered in the held-sheet list, counted, its reserve returned, HELD
flagged; a lane in SPINUP or FEEDING halts, one in another state keeps it (shown, for a DRAINING one, while paper is in its
path or a sheet picking: the next two statements have a settlement that completes a drain). With the
held-sheet list full it is numbered, discarded as a gap and freed, with HOLD_OVERFLOW, and the lane goes on. -/
def Obligations.SettlementHoldsIncomplete : Prop :=
  ∀ (s : State) (l : Fin 8) (g : Tag) (r : Sheet) (b : Batch),
    ((s.lane l).state = .draining → (s.lane l).path ≠ [] ∨ (s.lane l).picking ≠ none) →
    (s.lane l).settleOrder = [g] → (s.lane l).gateHolder ≠ some g → s.sheet? g = some r → g.lane = l →
    s.batch? r.batch = some b → r.queueWait = [] → r.trail.isSome = true →
    (imagesComplete s r = true ∨ r.imageTimeout = true) → r.findings.jam = false → r.divertDone = false →
    b.state ≠ .aborted → divertWaiting s r = false →
    let doc := if b.breakPending then min (b.document + 1) 65535 else b.document
    let page := if b.breakPending then 1 else min (b.page + 1) 65535
    let numbered := { b with
      settled := min (b.settled + 1) 65535, document := doc, page := page, breakPending := false,
      documents := if b.breakPending then min (b.documents + 1) 65535 else b.documents }
    let reason := (r.findings ≠ .empty ∧ b.action = .stop) ∨ (r.pastDivert = true ∧ r.findings.measurement = true) ∨
      (b.action = .divert ∧ r.findings.measurement = true) ∨ r.findings.incomplete = true
    let unrouted := ¬ reason ∧ (r.patch = none ∨ r.findings.measurement = true) ∧
      deliveryEntries s r (if r.findings = .empty then .ordinary else .suspect) = none
    let halts := (s.lane l).state = .spinup ∨ (s.lane l).state = .feeding
    (∀ f : Findings, (reason ∧ f = r.findings) ∨ (unrouted ∧ f = { r.findings with noRoute := true }) →
      s.held.length < 48 →
      ∃ t, exec (.settlement l) s = .next t ∧ t.held = s.held ++ [⟨g, r.batch, f⟩] ∧
        t.sheet? g = some { r with state := .held, outcome := some .held, document := some doc, page := some page,
                                   imageDeadline := none, reserve := 0, findings := f } ∧
        t.batch? r.batch = some { numbered with
          heldNow := min (b.heldNow + 1) 65535, holds := min (b.holds + 1) 65535 } ∧
        t.free = s.free + r.reserve ∧ t.reserved = s.reserved - r.reserve ∧ t.flag (.lane l .held) = true ∧
        t.flag (.lane l .halt) = (s.flag (.lane l .halt) || decide halts) ∧
        (halts → t.lane l = { s.lane l with
          settleOrder := [], state := .halted, haltReason := .held, spinTarget := none, spinRemaining := none,
          pickPulseEnd := none, pickDriven := false }) ∧
        (¬ halts → t.lane l = { s.lane l with settleOrder := [] }) ∧
        (∀ k : Fin 8, k ≠ l → t.lane k = s.lane k) ∧ (∀ h, h ≠ g → t.sheet? h = s.sheet? h) ∧
        (∀ k, k ≠ r.batch → t.batch? k = s.batch? k) ∧
        (∀ f, f ≠ .lane l .held → f ≠ .lane l .halt → f ≠ noticeLostFlag → t.flag f = s.flag f) ∧
        t.interior = ({ s with
          lanes := t.lanes, sheets := t.sheets, batches := t.batches, held := t.held, free := t.free,
          reserved := t.reserved, flags := t.flags } : State).interior) ∧
    (reason ∨ unrouted → 48 ≤ s.held.length →
      ∃ t, exec (.settlement l) s = .next t ∧
        t.batch? r.batch = some { numbered with
          discarded := min (b.discarded + 1) 65535, gaps := min (b.gaps + 1) 65535 } ∧
        (∀ k, k ≠ r.batch → t.batch? k = s.batch? k) ∧
        t.interior = ({ (dropped l r s).setFlag (.lane l .holdOverflow) true with batches := t.batches } :
          State).interior)

/-- R87, R109, R111, R112: a cursor sheet that carries JAM, or whose batch is aborted, is settled DISCARDED, and one whose
divert is done DIVERTED: counted, WITHDRAW sent when its images are not complete, and freed. R118, R143, R144: a clean ready
sheet that a separator pattern matches is released unnumbered, with keep as SEPARATOR through its route and otherwise
freed with its blocks; either sets the break-pending mark, and BATCH_BREAK ends the feeding (R42), shown for a FEEDING lane
with paper in its path. R105: with more sheets behind a dropped one, the next becomes the cursor and is examined in the same
event: the lane is left as a SETTLEMENT leaves it once the sheet before has been dropped. R43, R109: a dropped sheet that
was the last thing in a DRAINING lane completes its drain: IDLE, and the batch leaves by the drain cause. That the
accumulator of a sheet dropped in the gate has copied settings 0 is the model's choice (log 25; R22 discards the
measurement). -/
def Obligations.SettlementDropsOrSeparates : Prop :=
  ∀ (s : State) (l : Fin 8) (g : Tag) (rest : List Tag) (r : Sheet) (b : Batch),
    (s.lane l).settleOrder = g :: rest → s.sheet? g = some r → s.batch? r.batch = some b → r.queueWait = [] →
    let settledOnce := fun (c : Batch) => { c with settled := min (c.settled + 1) 65535 }
    let leaves := fun (u : State) =>
      (rest = [] → (s.lane l).state ≠ .draining ∨ (s.lane l).picking ≠ none ∨ (s.lane l).path ≠ [] →
        ∃ t, exec (.settlement l) s = .next t ∧ t.interior = u.interior) ∧
      (∀ id queued c, rest = [] → (s.lane l).state = .draining → (s.lane l).picking = none → (s.lane l).path = [] →
        activeWith s l id queued c →
        ∃ t, exec (.settlement l) s = .next t ∧ t.interior = (drainDone l id queued u).interior) ∧
      (rest ≠ [] → g ∉ rest → (∀ h q, rest.head? = some h → s.sheet? h = some q → q.queueWait = []) →
        ∃ t v, exec (.settlement l) s = .next t ∧ exec (.settlement l) u = .next v ∧ t.interior = v.interior)
    (r.findings.jam = true ∨ b.state = .aborted →
      leaves ((dropped l r s).modBatch r.batch (fun c =>
        { settledOnce c with discarded := min (c.discarded + 1) 65535 }))) ∧
    (r.findings.jam = false → b.state ≠ .aborted → r.divertDone = true →
      leaves ((dropped l r s).modBatch r.batch (fun c =>
        { settledOnce c with diverted := min (c.diverted + 1) 65535 }))) ∧
    (∀ i : Fin 8, rest = [] → (s.lane l).state = .feeding → (s.lane l).path ≠ [] → (s.lane l).gateHolder ≠ some g →
      s.activeBatch l = some r.batch → b.state ≠ .aborted → r.divertDone = false → r.trail.isSome = true →
      (imagesComplete s r = true ∨ r.imageTimeout = true) → r.findings = .empty → separatorMatch s r = some i →
      let ends := (s.separators[i.val]).action = .batchBreak
      let released := { settledOnce b with
        released := min (b.released + 1) 65535, breakPending := true,
        state := if ends ∧ b.state = .feeding then .draining else b.state }
      let left := { s.lane l with
        settleOrder := []
        state := if ends then .draining else (s.lane l).state
        haltReason := if ends then .none else (s.lane l).haltReason
        spinTarget := if ends then none else (s.lane l).spinTarget
        spinRemaining := if ends then none else (s.lane l).spinRemaining
        drainCause := if ends ∧ (s.lane l).drainCause ≠ .abort then .feedEnd else (s.lane l).drainCause }
      (∀ es, (s.separators[i.val]).keep = true → deliveryEntries s r .separator = some es → fullDests s es = [] →
        es ≠ [] →
        ∃ t, exec (.settlement l) s = .next t ∧
          releasedAs r es { r with
            state := .released, outcome := some .released, kind := some .separator, separatorMatch := some i,
            routeBank := some s.activeBank, pendingDests := es.length, reserve := 0, imageDeadline := none } s t ∧
          t.batch? r.batch = some { released with
            deliveriesPending := min (b.deliveriesPending + es.length) 65535 } ∧
          (∀ k, k ≠ r.batch → t.batch? k = s.batch? k) ∧ t.free = s.free + r.reserve ∧
          t.reserved = s.reserved - r.reserve ∧ t.lane l = left ∧ (∀ k : Fin 8, k ≠ l → t.lane k = s.lane k) ∧
          (∀ f, (∀ x, f ≠ .dest x .warn) → f ≠ noticeLostFlag → t.flag f = s.flag f) ∧
          t.interior = ({ s with
            lanes := t.lanes, sheets := t.sheets, batches := t.batches, dests := t.dests, free := t.free,
            reserved := t.reserved, flags := t.flags } : State).interior) ∧
      ((s.separators[i.val]).keep = false →
        ∃ t, exec (.settlement l) s = .next t ∧ t.batch? r.batch = some released ∧
          (∀ k, k ≠ r.batch → t.batch? k = s.batch? k) ∧
          t.interior = ({ (freedOf r s).setLane l left with batches := t.batches } : State).interior))

/-- R110, R115 to R118, R145: a cursor sheet that SETTLEMENT finds ready, or that waits for queue space, and that has
nothing to hold it, clean or with findings under double-feed action FLAG: while every destination of its route has room it
is released as ORDINARY or as SUSPECT: numbered, counted, an entry at the tail of each queue; while one has none it waits,
or goes on waiting. R43, R109: where the released sheet was the last thing in a DRAINING lane, that completes the drain: the
lane is IDLE, and the batch leaves by the drain cause, QUEUED again or, with BATCH_END, ENDED. A SETTLEMENT leaves a cursor
sheet that waits for queue space waiting: only an event of R117 retries it. -/
def Obligations.QueueWaitRetryReleases : Prop :=
  (∀ (s : State) (l : Fin 8) (g : Tag) (r : Sheet), (s.lane l).settleOrder.head? = some g → s.sheet? g = some r →
    r.queueWait ≠ [] → ∃ t, exec (.settlement l) s = .next t ∧ t.interior = s.interior) ∧
  ∀ (s : State) (l : Fin 8) (g : Tag) (r : Sheet) (b : Batch) (es : List (Fin 16 × DeliveryEntry)) (c : Instr)
    (kind : Kind),
    (s.lane l).settleOrder = [g] → (s.lane l).gateHolder ≠ some g →
    s.sheet? g = some r → s.batch? r.batch = some b →
    (c = .queueWaitRetry l ∧ r.state = .ready ∧ r.queueWait ≠ []) ∨
      (c = .settlement l ∧ r.queueWait = [] ∧ r.trail.isSome = true ∧
        (imagesComplete s r = true ∨ r.imageTimeout = true)) →
    (kind = .ordinary ∧ r.findings = .empty) ∨
      (kind = .suspect ∧ r.findings ≠ .empty ∧ b.action = .flag ∧ r.pastDivert = false ∧
        r.findings.incomplete = false ∧ r.findings.jam = false) →
    r.patch = none → r.divertDone = false → b.state ≠ .aborted → deliveryEntries s r kind = some es → es ≠ [] →
    let doc := fun (k : Batch) => if k.breakPending then min (k.document + 1) 65535 else k.document
    let page := fun (k : Batch) => if k.breakPending then 1 else min (k.page + 1) 65535
    let last := (s.lane l).state = .draining ∧ (s.lane l).picking = none ∧ (s.lane l).path = []
    let released := fun (t : State) =>
      releasedAs r es { r with
        state := .released, outcome := some .released, kind := some kind, routeBank := some s.activeBank,
        pendingDests := es.length, queueWait := [], reserve := 0, imageDeadline := none, document := some (doc b),
        page := some (page b) } s t ∧
      (∀ f, (∀ x, f ≠ .dest x .warn) → f ≠ noticeLostFlag → f ≠ .lane l .batchEnd → t.flag f = s.flag f)
    let settled := fun (t : State) => (({ s with
      sheets := t.sheets, dests := t.dests, flags := t.flags, free := s.free + r.reserve,
      reserved := s.reserved - r.reserve } : State).modBatch r.batch (fun k => { k with
        settled := min (k.settled + 1) 65535, released := min (k.released + 1) 65535,
        deliveriesPending := min (k.deliveriesPending + es.length) 65535, document := doc k, page := page k,
        breakPending := false,
        documents := if k.breakPending then min (k.documents + 1) 65535 else k.documents })).modLane l (fun x =>
          { x with settleOrder := [] })
    (fullDests s es = [] → ¬ last →
      ∃ t, exec c s = .next t ∧ released t ∧ t.flag (.lane l .batchEnd) = s.flag (.lane l .batchEnd) ∧
        t.interior = (settled t).interior) ∧
    (∀ queued, fullDests s es = [] → last → activeWith s l r.batch queued b →
      ∃ t, exec c s = .next t ∧ released t ∧
        t.flag (.lane l .batchEnd) = (s.flag (.lane l .batchEnd) || decide ((s.lane l).drainCause = .feedEnd)) ∧
        t.interior = (drainDone l r.batch queued (settled t)).interior) ∧
    (fullDests s es ≠ [] →
      ∃ t, exec c s = .next t ∧
        t.interior = (s.modSheet g (fun q => { q with state := .ready, queueWait := fullDests s es })).interior)

/-! ### Ports -/

/-- R166, R171, R173 to R176: a frame that ends empties the transmit buffer, and the port makes its next choice. An archive
frame that is not its delivery's last raises the progress, and with the delivery still current the next strip, or a reply
that waits, is sent at once; the last one ends the delivery, and in a closing destination any one ends it, counted as
undelivered and flagged: the entry leaves its queue, the counts of sheet and batch fall, a sheet with nothing pending is
freed, and a batch that then closes or ends hands its report over (R124, R132, R137). R117, R176: with one lane whose cursor
sheet waits on the destination, that sheet is retried before the batch is tested: the lane is left as a QUEUE_WAIT_RETRY
leaves it once the entry has left, and the batch as BATCH_CLOSURE and END_OF_ABORT then leave it. R176 gives this order for
a delivery's end; for the cut delivery of a closing destination (R166) the order of flag, retry and tests is the model's
choice (log 21). -/
def Obligations.FrameEndAdvancesDelivery : Prop :=
  ∀ (s : State) (p : Port),
    let othersIdle := ∀ q : Port, q ≠ p → (s.port q).linkUp = false ∨ (s.port q).tx.isSome = true
    let noNotice := s.notices.find? (fun m => decide (m.port = p)) = none
    (∀ bytes, (s.port p).tx = some (.reply bytes) ∨ (s.port p).tx = some (.notice bytes) → (s.port p).linkUp = true →
      othersIdle →
      (∀ r0 rest, (s.port p).replies = r0 :: rest →
        exec (.frameEnd p) s = .next (s.modPort p (fun q =>
          { q with replies := rest, tx := some (.reply (r0.bytes (ownAddr s.straps))) }))) ∧
      (∀ c next, (s.port p).replies = [] → noNotice → (s.port p).current = some c → roundRobin s p 3 = none →
        nextFrame s c = some next →
        exec (.frameEnd p) s = .next (s.modPort p (fun q => { q with tx := some (.archive next) }))) ∧
      ((s.port p).replies = [] → noNotice → (s.port p).current = none → (s.port p).suspended = none →
        (∀ v : Fin 4, roundRobin s p v = none) →
        exec (.frameEnd p) s = .next (s.modPort p (fun q => { q with tx := none })))) ∧
    (∀ bytes c, (s.port p).tx = some (.archive bytes) → (s.port p).current = some c →
      let further := fun (q : PortState) => { q with tx := none, current := some { c with progress := c.progress + 1 } }
      (c.progress + 1 ≠ c.entry.strips → (s.dest c.dest).closing = false →
        ((s.port p).linkUp = false → othersIdle → exec (.frameEnd p) s = .next (s.modPort p further)) ∧
        (∀ r0 rest, (s.port p).linkUp = true → (s.port p).replies = r0 :: rest →
          ∃ t, exec (.frameEnd p) s = .next t ∧ (t.port p).replies = rest ∧
            (t.port p).tx = some (.reply (r0.bytes (ownAddr s.straps))) ∧
            (t.port p).current = some { c with progress := c.progress + 1 } ∧ t.interior = s.interior) ∧
        (∀ next, (s.port p).linkUp = true → othersIdle → (s.port p).replies = [] → noNotice →
          roundRobin s p 3 = none → nextFrame s { c with progress := c.progress + 1 } = some next →
          exec (.frameEnd p) s = .next (s.modPort p (fun q =>
            { further q with tx := some (.archive next) })))) ∧
      (∀ r b, s.sheet? c.entry.sheet = some r → s.batch? r.batch = some b →
        c.progress + 1 = c.entry.strips ∨ (s.dest c.dest).closing = true →
        let cut := c.progress + 1 ≠ c.entry.strips
        let gone := r.pendingDests ≤ 1 ∧ r.state ≠ .held
        let base := if gone then freedOf r s else s
        let fallen := { b with deliveriesPending := b.deliveriesPending - 1 }
        let final : Option FinalState :=
          if b.deliveriesPending ≤ 1 ∧ b.state = .ended ∧ b.heldNow = 0 then some .closed
          else if b.deliveriesPending ≤ 1 ∧ b.state = .aborted ∧ b.id ∉ (s.lane b.lane).batchQueue then some .aborted
          else none
        let left := fun (fin : Option FinalState) (t : State) =>
          { t.dest c.dest with credit := (s.dest c.dest).credit } = { s.dest c.dest with
            queue := (s.dest c.dest).queue.tail, closing := false
            undelivered := if cut then min ((s.dest c.dest).undelivered + 1) 65535
              else (s.dest c.dest).undelivered } ∧
          (∀ x : Fin 16, x ≠ c.dest → { t.dest x with credit := (s.dest x).credit } = s.dest x) ∧
          t.sheet? c.entry.sheet = (if gone then none else some { r with pendingDests := r.pendingDests - 1 }) ∧
          (∀ h, h ≠ c.entry.sheet → t.sheet? h = s.sheet? h) ∧
          t.free = base.free ∧ t.reserved = base.reserved ∧ t.allocated = base.allocated ∧
          t.directory = base.directory ∧
          t.batch? r.batch = (if fin.isSome then none else some fallen) ∧
          (∀ k, k ≠ r.batch → t.batch? k = s.batch? k) ∧
          t.lastReport = (match fin with
            | some f => some ⟨fallen, f⟩
            | none => s.lastReport) ∧
          t.flag (.device .batchReport) = (s.flag (.device .batchReport) || fin.isSome) ∧
          t.flag (.dest c.dest .disabledDrop) = (s.flag (.dest c.dest .disabledDrop) || decide cut) ∧
          (∀ f, f ≠ .device .batchReport → f ≠ .dest c.dest .disabledDrop → f ≠ noticeLostFlag → t.flag f = s.flag f) ∧
          t.interior = ({ s with
            sheets := t.sheets, batches := t.batches, dests := t.dests, flags := t.flags, free := t.free,
            reserved := t.reserved, allocated := t.allocated, directory := t.directory,
            lastReport := t.lastReport } : State).interior
        ((∀ l : Fin 8, waitsOn s [c.dest] l = false) → ∃ t, exec (.frameEnd p) s = .next t ∧ left final t) ∧
        ∀ l : Fin 8, (∀ k : Fin 8, waitsOn s [c.dest] k = decide (k = l)) →
          (s.lane l).settleOrder.head? ≠ some c.entry.sheet →
          ∃ u v w x t, left none u ∧ exec (.queueWaitRetry l) u = .next v ∧ exec (.batchClosure r.batch) v = .next w ∧
            exec (.endOfAbort r.batch) w = .next x ∧ exec (.frameEnd p) s = .next t ∧ t.interior = x.interior))

/-- R170, R172 to R174: at a boundary of a port with its link UP and nothing in transmission the oldest reply is begun, else
the oldest notice of the port, else the next strip of the delivery in progress; an URGENT participant preempts a delivery
that can be suspended; with none in progress a suspended one resumes, after an URGENT one, and else the delivery chosen at
the highest level with a participant is started with its whole strip count taken from the credit; with nothing to send the
port stays idle. R175, R198: the contents of the archive frame of a delivery's next strip, front strips before back ones;
that bits 2 to 7 of its byte at offset 30 are 0 is the model's choice (log 36). -/
def Obligations.BoundaryChoosesNextFrame : Prop :=
  (∀ (s : State) (p : Port), (s.port p).linkUp = true → (s.port p).tx = none →
    (∀ q : Port, q ≠ p → (s.port q).linkUp = false ∨ (s.port q).tx.isSome = true) →
    (∀ r0 rest, (s.port p).replies = r0 :: rest →
      exec (.frameBoundary p) s = .next (s.modPort p (fun q =>
        { q with replies := rest, tx := some (.reply (r0.bytes (ownAddr s.straps))) }))) ∧
    ((s.port p).replies = [] →
      (∀ n, s.pendingLost = none → s.notices.find? (fun m => decide (m.port = p)) = some n →
        exec (.frameBoundary p) s = .next (({ s with notices := s.notices.eraseP (fun m => decide (m.port = p)) } :
          State).modPort p (fun q => { q with tx := some (.notice (n.bytes (ownAddr s.straps))) }))) ∧
      (s.notices.find? (fun m => decide (m.port = p)) = none →
        (∀ c bytes, (s.port p).current = some c →
          (roundRobin s p 3 = none ∨ (s.dest c.dest).priority = 3 ∨ (s.port p).suspended ≠ none) →
          nextFrame s c = some bytes →
          exec (.frameBoundary p) s = .next (s.modPort p (fun q => { q with tx := some (.archive bytes) }))) ∧
        (∀ c x e bytes, (s.port p).current = some c → (s.dest c.dest).priority ≠ 3 → (s.port p).suspended = none →
          roundRobin s p 3 = some x → (s.dest x).queue.head? = some e → nextFrame s ⟨x, e, 0⟩ = some bytes →
          exec (.frameBoundary p) s = .next ((s.modDest x (fun y => { y with credit := y.credit - e.strips })).modPort p
            (fun q => { q with
              suspended := some c, current := some ⟨x, e, 0⟩, rr := q.rr.set 3 x, tx := some (.archive bytes) }))) ∧
        (∀ c bytes, (s.port p).current = none → roundRobin s p 3 = none → (s.port p).suspended = some c →
          nextFrame s c = some bytes →
          exec (.frameBoundary p) s = .next (s.modPort p (fun q =>
            { q with current := some c, suspended := none, tx := some (.archive bytes) }))) ∧
        (∀ (v : Fin 4) x e bytes, (s.port p).current = none → (s.port p).suspended = none ∨ v = 3 →
          (∀ w : Fin 4, v < w → roundRobin s p w = none) → roundRobin s p v = some x →
          (s.dest x).queue.head? = some e → nextFrame s ⟨x, e, 0⟩ = some bytes →
          exec (.frameBoundary p) s = .next ((s.modDest x (fun y => { y with credit := y.credit - e.strips })).modPort p
            (fun q => { q with current := some ⟨x, e, 0⟩, rr := q.rr.set v.val x, tx := some (.archive bytes) }))) ∧
        ((s.port p).current = none → (s.port p).suspended = none → (∀ v : Fin 4, roundRobin s p v = none) →
          exec (.frameBoundary p) s = .next s)))) ∧
  ∀ (s : State) (c : Delivery) (r : Sheet) (b : Batch) (e : DirEntry), s.sheet? c.entry.sheet = some r →
    s.batch? r.batch = some b → s.directory.find? (fun y => decide (y.block = e.block)) = some e →
    let suspect := c.entry.kind = .suspect
    let frame := fun (side index : Nat) (last : Bool) =>
      be 6 (s.dest c.dest).addr.toNat ++ be 6 (ownAddr s.straps).toNat ++ be 2 0x88B6 ++ be 2 (tagCode r.tag) ++
      be 2 b.id ++ be 1 b.routeClass.toNat ++ be 1 c.entry.kind.code ++ be 2 (r.document.getD 0) ++
      be 2 (r.page.getD 0) ++
      be 1 (if c.entry.kind = .separator then (r.separatorMatch.map Fin.val).getD 0xFF else 0xFF) ++
      be 1 r.findings.code ++ be 2 (if suspect then r.length.getD 0 else 0) ++
      be 2 (if suspect then (r.samples.map Samples.ratio).getD 0 else 0) ++ be 1 (side + 2 * flagByte last) ++
      be 1 index ++ be 2 (c.progress + 1) ++ be 2 c.entry.strips ++ be 2 e.length ++
      readBytes s.dram (e.block * 8192) e.length
    let fronts := if c.entry.front then r.front else []
    (∀ h : c.progress < fronts.length, fronts[c.progress] = e.block →
      nextFrame s c = some (frame 0 c.progress (decide (c.progress + 1 = fronts.length)))) ∧
    (∀ k (h : k < r.back.length), c.entry.back = true → c.progress = fronts.length + k → r.back[k] = e.block →
      nextFrame s c = some (frame 1 k (decide (k + 1 = r.back.length))))

/-- R172, R173: round robin at a level chooses the first participant met in ascending order from the index after the
pointer, wrapping; a participant is an enabled destination of the port and level with an entry covered by its credit and
not in progress. -/
def Obligations.RoundRobinTakesNext : Prop :=
  ∀ (s : State) (p : Port) (v : Fin 4),
    let after := fun (k : Fin 16) => (s.port p).rr[v.val] + 1 + k
    (∀ x : Fin 16, participant s p v x = true ↔ (s.dest x).port = p ∧ (s.dest x).enabled = true ∧
      (s.dest x).priority = v ∧ isOf x (s.port p).current = false ∧ isOf x (s.port p).suspended = false ∧
      ∃ e rest, (s.dest x).queue = e :: rest ∧ e.strips ≤ (s.dest x).credit) ∧
    (∀ k : Fin 16, participant s p v (after k) = true → (∀ j, j < k → participant s p v (after j) = false) →
      roundRobin s p v = some (after k)) ∧
    ((∀ x : Fin 16, participant s p v x = false) → roundRobin s p v = none)

/-- R186, R188, R189: setting a flag that is set changes nothing; from clear and masked in it forms one notice for the
report station at the queue's tail, or, with 16 waiting, counts it lost, sets NOTICE_LOST and, when that is masked in and
was clear, keeps its pending notice; a place that becomes free is given to the pending notice. R190: a batch report handed
over sets BATCH_REPORT and, masked in, forms one report notice, whether or not the flag was set, under the same rules, and
no event notice; the closure of a batch hands its report over so. -/
def Obligations.FlagsFormNotices : Prop :=
  ∀ (s : State) (st : ReportStation), s.reportStation = some st →
    let lost := fun (u : State) => { u.setFlag noticeLostFlag true with
      lostCount := min (s.lostCount + 1) 65535
      pendingLost := if s.flag noticeLostFlag = false ∧ s.masked noticeLostFlag = true then
          some ⟨st.addr, st.port, .event noticeLostFlag⟩
        else s.pendingLost }
    (∀ f, f ≠ .device .batchReport →
      (s.flag f = true → raise f s = s) ∧
      (s.flag f = false → s.masked f = true → s.notices.length < 16 →
        raise f s = { s.setFlag f true with notices := s.notices ++ [⟨st.addr, st.port, .event f⟩] }) ∧
      (s.flag f = false → s.masked f = true → 16 ≤ s.notices.length → f ≠ noticeLostFlag →
        raise f s = lost (s.setFlag f true))) ∧
    (∀ r : Report,
      let kept := ({ s with lastReport := some r } : State).setFlag (.device .batchReport) true
      (s.masked (.device .batchReport) = true → s.notices.length < 16 →
        handReport r s = { kept with notices := s.notices ++ [⟨st.addr, st.port, .report r⟩] }) ∧
      (s.masked (.device .batchReport) = true → 16 ≤ s.notices.length → handReport r s = lost kept) ∧
      (s.masked (.device .batchReport) = false → handReport r s = kept)) ∧
    (∀ id b, portsBusy s → s.batch? id = some b → b.state = .ended → b.heldNow = 0 → b.deliveriesPending = 0 →
      exec (.batchClosure id) s = .next (handReport ⟨b, .closed⟩
        { s with batches := s.batches.filter (fun c => decide (c.id ≠ id)) })) ∧
    (∀ n, portsBusy s → s.pendingLost = some n → s.notices.length < 16 →
      exec .pendingLostNotice s = .next { s with notices := s.notices ++ [n], pendingLost := none })

/-- R171: no command begins a frame on a port whose link is DOWN before and after it. At the moment the link goes DOWN a
frame in transmission ends as sent (the model's reading, log 27): a reply or notice leaves the port with nothing in
transmission, an archive frame does to its delivery what FRAME_END does on that DOWN port. The link coming UP lets the port
begin what waits, in the same command (log 7). -/
def Obligations.PortLinkStartsAndStops : Prop :=
  (∀ (c : Instr) (s t : State) (p : Port), exec c s = .next t → (s.port p).linkUp = false → (s.port p).tx = none →
    (t.port p).linkUp = false → (t.port p).tx = none) ∧
  ∀ (s : State) (p : Port),
    let down := s.modPort p (fun q => { q with linkUp := false })
    ((s.port p).tx ≠ none → exec (.portLinkDown p) s = exec (.frameEnd p) down) ∧
    ((∀ q : Port, q ≠ p → (s.port q).linkUp = false ∨ (s.port q).tx.isSome = true) →
      ((s.port p).tx = none → exec (.portLinkDown p) s = .next down) ∧
      (∀ bytes, (s.port p).tx = some (.reply bytes) ∨ (s.port p).tx = some (.notice bytes) →
        exec (.portLinkDown p) s = .next (s.modPort p (fun q => { q with linkUp := false, tx := none }))) ∧
      (∀ r0 rest, (s.port p).tx = none → (s.port p).replies = r0 :: rest →
        exec (.portLinkUp p) s = .next (s.modPort p (fun q =>
          { q with linkUp := true, replies := rest, tx := some (.reply (r0.bytes (ownAddr s.straps))) }))))
end

