-- ==== Sys2Proof/Laws/State.lean ====
section
/-!
SUPPORT. What each update of State leaves alone: one lemma per field per update.
-/

namespace Sys2Proof.Machine

/-! ### setLane -/

@[simp] theorem State.setLane_profiles (s : State) (l : Fin 8) (x : Lane) : (s.setLane l x).profiles = s.profiles := rfl

@[simp] theorem State.setLane_sheets (s : State) (l : Fin 8) (x : Lane) : (s.setLane l x).sheets = s.sheets := rfl

@[simp] theorem State.setLane_free (s : State) (l : Fin 8) (x : Lane) : (s.setLane l x).free = s.free := rfl

@[simp] theorem State.setLane_reserved (s : State) (l : Fin 8) (x : Lane) : (s.setLane l x).reserved = s.reserved := rfl

@[simp] theorem State.setLane_allocated (s : State) (l : Fin 8) (x : Lane) : (s.setLane l x).allocated = s.allocated := rfl

@[simp] theorem State.setLane_lowMark (s : State) (l : Fin 8) (x : Lane) : (s.setLane l x).lowMark = s.lowMark := rfl

@[simp] theorem State.setLane_directory (s : State) (l : Fin 8) (x : Lane) : (s.setLane l x).directory = s.directory := rfl

@[simp] theorem State.setLane_dram (s : State) (l : Fin 8) (x : Lane) : (s.setLane l x).dram = s.dram := rfl

@[simp] theorem State.setLane_held (s : State) (l : Fin 8) (x : Lane) : (s.setLane l x).held = s.held := rfl

@[simp] theorem State.setLane_batches (s : State) (l : Fin 8) (x : Lane) : (s.setLane l x).batches = s.batches := rfl

@[simp] theorem State.setLane_lastReport (s : State) (l : Fin 8) (x : Lane) : (s.setLane l x).lastReport = s.lastReport := rfl

@[simp] theorem State.setLane_separators (s : State) (l : Fin 8) (x : Lane) : (s.setLane l x).separators = s.separators := rfl

@[simp] theorem State.setLane_bank0 (s : State) (l : Fin 8) (x : Lane) : (s.setLane l x).bank0 = s.bank0 := rfl

@[simp] theorem State.setLane_bank1 (s : State) (l : Fin 8) (x : Lane) : (s.setLane l x).bank1 = s.bank1 := rfl

@[simp] theorem State.setLane_activeBank (s : State) (l : Fin 8) (x : Lane) : (s.setLane l x).activeBank = s.activeBank := rfl

@[simp] theorem State.setLane_dests (s : State) (l : Fin 8) (x : Lane) : (s.setLane l x).dests = s.dests := rfl

@[simp] theorem State.setLane_portA (s : State) (l : Fin 8) (x : Lane) : (s.setLane l x).portA = s.portA := rfl

@[simp] theorem State.setLane_portB (s : State) (l : Fin 8) (x : Lane) : (s.setLane l x).portB = s.portB := rfl

@[simp] theorem State.setLane_dirQueue (s : State) (l : Fin 8) (x : Lane) : (s.setLane l x).dirQueue = s.dirQueue := rfl

@[simp] theorem State.setLane_flags (s : State) (l : Fin 8) (x : Lane) : (s.setLane l x).flags = s.flags := rfl

@[simp] theorem State.setLane_mask (s : State) (l : Fin 8) (x : Lane) : (s.setLane l x).mask = s.mask := rfl

@[simp] theorem State.setLane_reportStation (s : State) (l : Fin 8) (x : Lane) : (s.setLane l x).reportStation = s.reportStation := rfl

@[simp] theorem State.setLane_notices (s : State) (l : Fin 8) (x : Lane) : (s.setLane l x).notices = s.notices := rfl

@[simp] theorem State.setLane_pendingLost (s : State) (l : Fin 8) (x : Lane) : (s.setLane l x).pendingLost = s.pendingLost := rfl

@[simp] theorem State.setLane_lostCount (s : State) (l : Fin 8) (x : Lane) : (s.setLane l x).lostCount = s.lostCount := rfl

@[simp] theorem State.setLane_straps (s : State) (l : Fin 8) (x : Lane) : (s.setLane l x).straps = s.straps := rfl

@[simp] theorem State.setLane_usPhase (s : State) (l : Fin 8) (x : Lane) : (s.setLane l x).usPhase = s.usPhase := rfl

@[simp] theorem State.setLane_freeIndex (s : State) (l : Fin 8) (x : Lane) : (s.setLane l x).freeIndex = s.freeIndex := rfl

@[simp] theorem State.setLane_pending (s : State) (l : Fin 8) (x : Lane) : (s.setLane l x).pending = s.pending := rfl

/-! ### modLane -/

@[simp] theorem State.modLane_profiles (s : State) (l : Fin 8) (f : Lane → Lane) : (s.modLane l f).profiles = s.profiles := rfl

@[simp] theorem State.modLane_sheets (s : State) (l : Fin 8) (f : Lane → Lane) : (s.modLane l f).sheets = s.sheets := rfl

@[simp] theorem State.modLane_free (s : State) (l : Fin 8) (f : Lane → Lane) : (s.modLane l f).free = s.free := rfl

@[simp] theorem State.modLane_reserved (s : State) (l : Fin 8) (f : Lane → Lane) : (s.modLane l f).reserved = s.reserved := rfl

@[simp] theorem State.modLane_allocated (s : State) (l : Fin 8) (f : Lane → Lane) : (s.modLane l f).allocated = s.allocated := rfl

@[simp] theorem State.modLane_lowMark (s : State) (l : Fin 8) (f : Lane → Lane) : (s.modLane l f).lowMark = s.lowMark := rfl

@[simp] theorem State.modLane_directory (s : State) (l : Fin 8) (f : Lane → Lane) : (s.modLane l f).directory = s.directory := rfl

@[simp] theorem State.modLane_dram (s : State) (l : Fin 8) (f : Lane → Lane) : (s.modLane l f).dram = s.dram := rfl

@[simp] theorem State.modLane_held (s : State) (l : Fin 8) (f : Lane → Lane) : (s.modLane l f).held = s.held := rfl

@[simp] theorem State.modLane_batches (s : State) (l : Fin 8) (f : Lane → Lane) : (s.modLane l f).batches = s.batches := rfl

@[simp] theorem State.modLane_lastReport (s : State) (l : Fin 8) (f : Lane → Lane) : (s.modLane l f).lastReport = s.lastReport := rfl

@[simp] theorem State.modLane_separators (s : State) (l : Fin 8) (f : Lane → Lane) : (s.modLane l f).separators = s.separators := rfl

@[simp] theorem State.modLane_bank0 (s : State) (l : Fin 8) (f : Lane → Lane) : (s.modLane l f).bank0 = s.bank0 := rfl

@[simp] theorem State.modLane_bank1 (s : State) (l : Fin 8) (f : Lane → Lane) : (s.modLane l f).bank1 = s.bank1 := rfl

@[simp] theorem State.modLane_activeBank (s : State) (l : Fin 8) (f : Lane → Lane) : (s.modLane l f).activeBank = s.activeBank := rfl

@[simp] theorem State.modLane_dests (s : State) (l : Fin 8) (f : Lane → Lane) : (s.modLane l f).dests = s.dests := rfl

@[simp] theorem State.modLane_portA (s : State) (l : Fin 8) (f : Lane → Lane) : (s.modLane l f).portA = s.portA := rfl

@[simp] theorem State.modLane_portB (s : State) (l : Fin 8) (f : Lane → Lane) : (s.modLane l f).portB = s.portB := rfl

@[simp] theorem State.modLane_dirQueue (s : State) (l : Fin 8) (f : Lane → Lane) : (s.modLane l f).dirQueue = s.dirQueue := rfl

@[simp] theorem State.modLane_flags (s : State) (l : Fin 8) (f : Lane → Lane) : (s.modLane l f).flags = s.flags := rfl

@[simp] theorem State.modLane_mask (s : State) (l : Fin 8) (f : Lane → Lane) : (s.modLane l f).mask = s.mask := rfl

@[simp] theorem State.modLane_reportStation (s : State) (l : Fin 8) (f : Lane → Lane) : (s.modLane l f).reportStation = s.reportStation := rfl

@[simp] theorem State.modLane_notices (s : State) (l : Fin 8) (f : Lane → Lane) : (s.modLane l f).notices = s.notices := rfl

@[simp] theorem State.modLane_pendingLost (s : State) (l : Fin 8) (f : Lane → Lane) : (s.modLane l f).pendingLost = s.pendingLost := rfl

@[simp] theorem State.modLane_lostCount (s : State) (l : Fin 8) (f : Lane → Lane) : (s.modLane l f).lostCount = s.lostCount := rfl

@[simp] theorem State.modLane_straps (s : State) (l : Fin 8) (f : Lane → Lane) : (s.modLane l f).straps = s.straps := rfl

@[simp] theorem State.modLane_usPhase (s : State) (l : Fin 8) (f : Lane → Lane) : (s.modLane l f).usPhase = s.usPhase := rfl

@[simp] theorem State.modLane_freeIndex (s : State) (l : Fin 8) (f : Lane → Lane) : (s.modLane l f).freeIndex = s.freeIndex := rfl

@[simp] theorem State.modLane_pending (s : State) (l : Fin 8) (f : Lane → Lane) : (s.modLane l f).pending = s.pending := rfl

/-! ### modSheet -/

@[simp] theorem State.modSheet_lanes (s : State) (t : Tag) (f : Sheet → Sheet) : (s.modSheet t f).lanes = s.lanes := rfl

@[simp] theorem State.modSheet_profiles (s : State) (t : Tag) (f : Sheet → Sheet) : (s.modSheet t f).profiles = s.profiles := rfl

@[simp] theorem State.modSheet_free (s : State) (t : Tag) (f : Sheet → Sheet) : (s.modSheet t f).free = s.free := rfl

@[simp] theorem State.modSheet_reserved (s : State) (t : Tag) (f : Sheet → Sheet) : (s.modSheet t f).reserved = s.reserved := rfl

@[simp] theorem State.modSheet_allocated (s : State) (t : Tag) (f : Sheet → Sheet) : (s.modSheet t f).allocated = s.allocated := rfl

@[simp] theorem State.modSheet_lowMark (s : State) (t : Tag) (f : Sheet → Sheet) : (s.modSheet t f).lowMark = s.lowMark := rfl

@[simp] theorem State.modSheet_directory (s : State) (t : Tag) (f : Sheet → Sheet) : (s.modSheet t f).directory = s.directory := rfl

@[simp] theorem State.modSheet_dram (s : State) (t : Tag) (f : Sheet → Sheet) : (s.modSheet t f).dram = s.dram := rfl

@[simp] theorem State.modSheet_held (s : State) (t : Tag) (f : Sheet → Sheet) : (s.modSheet t f).held = s.held := rfl

@[simp] theorem State.modSheet_batches (s : State) (t : Tag) (f : Sheet → Sheet) : (s.modSheet t f).batches = s.batches := rfl

@[simp] theorem State.modSheet_lastReport (s : State) (t : Tag) (f : Sheet → Sheet) : (s.modSheet t f).lastReport = s.lastReport := rfl

@[simp] theorem State.modSheet_separators (s : State) (t : Tag) (f : Sheet → Sheet) : (s.modSheet t f).separators = s.separators := rfl

@[simp] theorem State.modSheet_bank0 (s : State) (t : Tag) (f : Sheet → Sheet) : (s.modSheet t f).bank0 = s.bank0 := rfl

@[simp] theorem State.modSheet_bank1 (s : State) (t : Tag) (f : Sheet → Sheet) : (s.modSheet t f).bank1 = s.bank1 := rfl

@[simp] theorem State.modSheet_activeBank (s : State) (t : Tag) (f : Sheet → Sheet) : (s.modSheet t f).activeBank = s.activeBank := rfl

@[simp] theorem State.modSheet_dests (s : State) (t : Tag) (f : Sheet → Sheet) : (s.modSheet t f).dests = s.dests := rfl

@[simp] theorem State.modSheet_portA (s : State) (t : Tag) (f : Sheet → Sheet) : (s.modSheet t f).portA = s.portA := rfl

@[simp] theorem State.modSheet_portB (s : State) (t : Tag) (f : Sheet → Sheet) : (s.modSheet t f).portB = s.portB := rfl

@[simp] theorem State.modSheet_dirQueue (s : State) (t : Tag) (f : Sheet → Sheet) : (s.modSheet t f).dirQueue = s.dirQueue := rfl

@[simp] theorem State.modSheet_flags (s : State) (t : Tag) (f : Sheet → Sheet) : (s.modSheet t f).flags = s.flags := rfl

@[simp] theorem State.modSheet_mask (s : State) (t : Tag) (f : Sheet → Sheet) : (s.modSheet t f).mask = s.mask := rfl

@[simp] theorem State.modSheet_reportStation (s : State) (t : Tag) (f : Sheet → Sheet) : (s.modSheet t f).reportStation = s.reportStation := rfl

@[simp] theorem State.modSheet_notices (s : State) (t : Tag) (f : Sheet → Sheet) : (s.modSheet t f).notices = s.notices := rfl

@[simp] theorem State.modSheet_pendingLost (s : State) (t : Tag) (f : Sheet → Sheet) : (s.modSheet t f).pendingLost = s.pendingLost := rfl

@[simp] theorem State.modSheet_lostCount (s : State) (t : Tag) (f : Sheet → Sheet) : (s.modSheet t f).lostCount = s.lostCount := rfl

@[simp] theorem State.modSheet_straps (s : State) (t : Tag) (f : Sheet → Sheet) : (s.modSheet t f).straps = s.straps := rfl

@[simp] theorem State.modSheet_usPhase (s : State) (t : Tag) (f : Sheet → Sheet) : (s.modSheet t f).usPhase = s.usPhase := rfl

@[simp] theorem State.modSheet_freeIndex (s : State) (t : Tag) (f : Sheet → Sheet) : (s.modSheet t f).freeIndex = s.freeIndex := rfl

@[simp] theorem State.modSheet_pending (s : State) (t : Tag) (f : Sheet → Sheet) : (s.modSheet t f).pending = s.pending := rfl

/-! ### modBatch -/

@[simp] theorem State.modBatch_lanes (s : State) (id : Nat) (f : Batch → Batch) : (s.modBatch id f).lanes = s.lanes := rfl

@[simp] theorem State.modBatch_profiles (s : State) (id : Nat) (f : Batch → Batch) : (s.modBatch id f).profiles = s.profiles := rfl

@[simp] theorem State.modBatch_sheets (s : State) (id : Nat) (f : Batch → Batch) : (s.modBatch id f).sheets = s.sheets := rfl

@[simp] theorem State.modBatch_free (s : State) (id : Nat) (f : Batch → Batch) : (s.modBatch id f).free = s.free := rfl

@[simp] theorem State.modBatch_reserved (s : State) (id : Nat) (f : Batch → Batch) : (s.modBatch id f).reserved = s.reserved := rfl

@[simp] theorem State.modBatch_allocated (s : State) (id : Nat) (f : Batch → Batch) : (s.modBatch id f).allocated = s.allocated := rfl

@[simp] theorem State.modBatch_lowMark (s : State) (id : Nat) (f : Batch → Batch) : (s.modBatch id f).lowMark = s.lowMark := rfl

@[simp] theorem State.modBatch_directory (s : State) (id : Nat) (f : Batch → Batch) : (s.modBatch id f).directory = s.directory := rfl

@[simp] theorem State.modBatch_dram (s : State) (id : Nat) (f : Batch → Batch) : (s.modBatch id f).dram = s.dram := rfl

@[simp] theorem State.modBatch_held (s : State) (id : Nat) (f : Batch → Batch) : (s.modBatch id f).held = s.held := rfl

@[simp] theorem State.modBatch_lastReport (s : State) (id : Nat) (f : Batch → Batch) : (s.modBatch id f).lastReport = s.lastReport := rfl

@[simp] theorem State.modBatch_separators (s : State) (id : Nat) (f : Batch → Batch) : (s.modBatch id f).separators = s.separators := rfl

@[simp] theorem State.modBatch_bank0 (s : State) (id : Nat) (f : Batch → Batch) : (s.modBatch id f).bank0 = s.bank0 := rfl

@[simp] theorem State.modBatch_bank1 (s : State) (id : Nat) (f : Batch → Batch) : (s.modBatch id f).bank1 = s.bank1 := rfl

@[simp] theorem State.modBatch_activeBank (s : State) (id : Nat) (f : Batch → Batch) : (s.modBatch id f).activeBank = s.activeBank := rfl

@[simp] theorem State.modBatch_dests (s : State) (id : Nat) (f : Batch → Batch) : (s.modBatch id f).dests = s.dests := rfl

@[simp] theorem State.modBatch_portA (s : State) (id : Nat) (f : Batch → Batch) : (s.modBatch id f).portA = s.portA := rfl

@[simp] theorem State.modBatch_portB (s : State) (id : Nat) (f : Batch → Batch) : (s.modBatch id f).portB = s.portB := rfl

@[simp] theorem State.modBatch_dirQueue (s : State) (id : Nat) (f : Batch → Batch) : (s.modBatch id f).dirQueue = s.dirQueue := rfl

@[simp] theorem State.modBatch_flags (s : State) (id : Nat) (f : Batch → Batch) : (s.modBatch id f).flags = s.flags := rfl

@[simp] theorem State.modBatch_mask (s : State) (id : Nat) (f : Batch → Batch) : (s.modBatch id f).mask = s.mask := rfl

@[simp] theorem State.modBatch_reportStation (s : State) (id : Nat) (f : Batch → Batch) : (s.modBatch id f).reportStation = s.reportStation := rfl

@[simp] theorem State.modBatch_notices (s : State) (id : Nat) (f : Batch → Batch) : (s.modBatch id f).notices = s.notices := rfl

@[simp] theorem State.modBatch_pendingLost (s : State) (id : Nat) (f : Batch → Batch) : (s.modBatch id f).pendingLost = s.pendingLost := rfl

@[simp] theorem State.modBatch_lostCount (s : State) (id : Nat) (f : Batch → Batch) : (s.modBatch id f).lostCount = s.lostCount := rfl

@[simp] theorem State.modBatch_straps (s : State) (id : Nat) (f : Batch → Batch) : (s.modBatch id f).straps = s.straps := rfl

@[simp] theorem State.modBatch_usPhase (s : State) (id : Nat) (f : Batch → Batch) : (s.modBatch id f).usPhase = s.usPhase := rfl

@[simp] theorem State.modBatch_freeIndex (s : State) (id : Nat) (f : Batch → Batch) : (s.modBatch id f).freeIndex = s.freeIndex := rfl

@[simp] theorem State.modBatch_pending (s : State) (id : Nat) (f : Batch → Batch) : (s.modBatch id f).pending = s.pending := rfl

/-! ### modProfile -/

@[simp] theorem State.modProfile_lanes (s : State) (i : Fin 16) (f : Profile → Profile) : (s.modProfile i f).lanes = s.lanes := rfl

@[simp] theorem State.modProfile_sheets (s : State) (i : Fin 16) (f : Profile → Profile) : (s.modProfile i f).sheets = s.sheets := rfl

@[simp] theorem State.modProfile_free (s : State) (i : Fin 16) (f : Profile → Profile) : (s.modProfile i f).free = s.free := rfl

@[simp] theorem State.modProfile_reserved (s : State) (i : Fin 16) (f : Profile → Profile) : (s.modProfile i f).reserved = s.reserved := rfl

@[simp] theorem State.modProfile_allocated (s : State) (i : Fin 16) (f : Profile → Profile) : (s.modProfile i f).allocated = s.allocated := rfl

@[simp] theorem State.modProfile_lowMark (s : State) (i : Fin 16) (f : Profile → Profile) : (s.modProfile i f).lowMark = s.lowMark := rfl

@[simp] theorem State.modProfile_directory (s : State) (i : Fin 16) (f : Profile → Profile) : (s.modProfile i f).directory = s.directory := rfl

@[simp] theorem State.modProfile_dram (s : State) (i : Fin 16) (f : Profile → Profile) : (s.modProfile i f).dram = s.dram := rfl

@[simp] theorem State.modProfile_held (s : State) (i : Fin 16) (f : Profile → Profile) : (s.modProfile i f).held = s.held := rfl

@[simp] theorem State.modProfile_batches (s : State) (i : Fin 16) (f : Profile → Profile) : (s.modProfile i f).batches = s.batches := rfl

@[simp] theorem State.modProfile_lastReport (s : State) (i : Fin 16) (f : Profile → Profile) : (s.modProfile i f).lastReport = s.lastReport := rfl

@[simp] theorem State.modProfile_separators (s : State) (i : Fin 16) (f : Profile → Profile) : (s.modProfile i f).separators = s.separators := rfl

@[simp] theorem State.modProfile_bank0 (s : State) (i : Fin 16) (f : Profile → Profile) : (s.modProfile i f).bank0 = s.bank0 := rfl

@[simp] theorem State.modProfile_bank1 (s : State) (i : Fin 16) (f : Profile → Profile) : (s.modProfile i f).bank1 = s.bank1 := rfl

@[simp] theorem State.modProfile_activeBank (s : State) (i : Fin 16) (f : Profile → Profile) : (s.modProfile i f).activeBank = s.activeBank := rfl

@[simp] theorem State.modProfile_dests (s : State) (i : Fin 16) (f : Profile → Profile) : (s.modProfile i f).dests = s.dests := rfl

@[simp] theorem State.modProfile_portA (s : State) (i : Fin 16) (f : Profile → Profile) : (s.modProfile i f).portA = s.portA := rfl

@[simp] theorem State.modProfile_portB (s : State) (i : Fin 16) (f : Profile → Profile) : (s.modProfile i f).portB = s.portB := rfl

@[simp] theorem State.modProfile_dirQueue (s : State) (i : Fin 16) (f : Profile → Profile) : (s.modProfile i f).dirQueue = s.dirQueue := rfl

@[simp] theorem State.modProfile_flags (s : State) (i : Fin 16) (f : Profile → Profile) : (s.modProfile i f).flags = s.flags := rfl

@[simp] theorem State.modProfile_mask (s : State) (i : Fin 16) (f : Profile → Profile) : (s.modProfile i f).mask = s.mask := rfl

@[simp] theorem State.modProfile_reportStation (s : State) (i : Fin 16) (f : Profile → Profile) : (s.modProfile i f).reportStation = s.reportStation := rfl

@[simp] theorem State.modProfile_notices (s : State) (i : Fin 16) (f : Profile → Profile) : (s.modProfile i f).notices = s.notices := rfl

@[simp] theorem State.modProfile_pendingLost (s : State) (i : Fin 16) (f : Profile → Profile) : (s.modProfile i f).pendingLost = s.pendingLost := rfl

@[simp] theorem State.modProfile_lostCount (s : State) (i : Fin 16) (f : Profile → Profile) : (s.modProfile i f).lostCount = s.lostCount := rfl

@[simp] theorem State.modProfile_straps (s : State) (i : Fin 16) (f : Profile → Profile) : (s.modProfile i f).straps = s.straps := rfl

@[simp] theorem State.modProfile_usPhase (s : State) (i : Fin 16) (f : Profile → Profile) : (s.modProfile i f).usPhase = s.usPhase := rfl

@[simp] theorem State.modProfile_freeIndex (s : State) (i : Fin 16) (f : Profile → Profile) : (s.modProfile i f).freeIndex = s.freeIndex := rfl

@[simp] theorem State.modProfile_pending (s : State) (i : Fin 16) (f : Profile → Profile) : (s.modProfile i f).pending = s.pending := rfl

/-! ### modDest -/

@[simp] theorem State.modDest_lanes (s : State) (d : Fin 16) (f : Dest → Dest) : (s.modDest d f).lanes = s.lanes := rfl

@[simp] theorem State.modDest_profiles (s : State) (d : Fin 16) (f : Dest → Dest) : (s.modDest d f).profiles = s.profiles := rfl

@[simp] theorem State.modDest_sheets (s : State) (d : Fin 16) (f : Dest → Dest) : (s.modDest d f).sheets = s.sheets := rfl

@[simp] theorem State.modDest_free (s : State) (d : Fin 16) (f : Dest → Dest) : (s.modDest d f).free = s.free := rfl

@[simp] theorem State.modDest_reserved (s : State) (d : Fin 16) (f : Dest → Dest) : (s.modDest d f).reserved = s.reserved := rfl

@[simp] theorem State.modDest_allocated (s : State) (d : Fin 16) (f : Dest → Dest) : (s.modDest d f).allocated = s.allocated := rfl

@[simp] theorem State.modDest_lowMark (s : State) (d : Fin 16) (f : Dest → Dest) : (s.modDest d f).lowMark = s.lowMark := rfl

@[simp] theorem State.modDest_directory (s : State) (d : Fin 16) (f : Dest → Dest) : (s.modDest d f).directory = s.directory := rfl

@[simp] theorem State.modDest_dram (s : State) (d : Fin 16) (f : Dest → Dest) : (s.modDest d f).dram = s.dram := rfl

@[simp] theorem State.modDest_held (s : State) (d : Fin 16) (f : Dest → Dest) : (s.modDest d f).held = s.held := rfl

@[simp] theorem State.modDest_batches (s : State) (d : Fin 16) (f : Dest → Dest) : (s.modDest d f).batches = s.batches := rfl

@[simp] theorem State.modDest_lastReport (s : State) (d : Fin 16) (f : Dest → Dest) : (s.modDest d f).lastReport = s.lastReport := rfl

@[simp] theorem State.modDest_separators (s : State) (d : Fin 16) (f : Dest → Dest) : (s.modDest d f).separators = s.separators := rfl

@[simp] theorem State.modDest_bank0 (s : State) (d : Fin 16) (f : Dest → Dest) : (s.modDest d f).bank0 = s.bank0 := rfl

@[simp] theorem State.modDest_bank1 (s : State) (d : Fin 16) (f : Dest → Dest) : (s.modDest d f).bank1 = s.bank1 := rfl

@[simp] theorem State.modDest_activeBank (s : State) (d : Fin 16) (f : Dest → Dest) : (s.modDest d f).activeBank = s.activeBank := rfl

@[simp] theorem State.modDest_portA (s : State) (d : Fin 16) (f : Dest → Dest) : (s.modDest d f).portA = s.portA := rfl

@[simp] theorem State.modDest_portB (s : State) (d : Fin 16) (f : Dest → Dest) : (s.modDest d f).portB = s.portB := rfl

@[simp] theorem State.modDest_dirQueue (s : State) (d : Fin 16) (f : Dest → Dest) : (s.modDest d f).dirQueue = s.dirQueue := rfl

@[simp] theorem State.modDest_flags (s : State) (d : Fin 16) (f : Dest → Dest) : (s.modDest d f).flags = s.flags := rfl

@[simp] theorem State.modDest_mask (s : State) (d : Fin 16) (f : Dest → Dest) : (s.modDest d f).mask = s.mask := rfl

@[simp] theorem State.modDest_reportStation (s : State) (d : Fin 16) (f : Dest → Dest) : (s.modDest d f).reportStation = s.reportStation := rfl

@[simp] theorem State.modDest_notices (s : State) (d : Fin 16) (f : Dest → Dest) : (s.modDest d f).notices = s.notices := rfl

@[simp] theorem State.modDest_pendingLost (s : State) (d : Fin 16) (f : Dest → Dest) : (s.modDest d f).pendingLost = s.pendingLost := rfl

@[simp] theorem State.modDest_lostCount (s : State) (d : Fin 16) (f : Dest → Dest) : (s.modDest d f).lostCount = s.lostCount := rfl

@[simp] theorem State.modDest_straps (s : State) (d : Fin 16) (f : Dest → Dest) : (s.modDest d f).straps = s.straps := rfl

@[simp] theorem State.modDest_usPhase (s : State) (d : Fin 16) (f : Dest → Dest) : (s.modDest d f).usPhase = s.usPhase := rfl

@[simp] theorem State.modDest_freeIndex (s : State) (d : Fin 16) (f : Dest → Dest) : (s.modDest d f).freeIndex = s.freeIndex := rfl

@[simp] theorem State.modDest_pending (s : State) (d : Fin 16) (f : Dest → Dest) : (s.modDest d f).pending = s.pending := rfl

/-! ### setFlag -/

@[simp] theorem State.setFlag_lanes (s : State) (f : Flag) (b : Bool) : (s.setFlag f b).lanes = s.lanes := rfl

@[simp] theorem State.setFlag_profiles (s : State) (f : Flag) (b : Bool) : (s.setFlag f b).profiles = s.profiles := rfl

@[simp] theorem State.setFlag_sheets (s : State) (f : Flag) (b : Bool) : (s.setFlag f b).sheets = s.sheets := rfl

@[simp] theorem State.setFlag_free (s : State) (f : Flag) (b : Bool) : (s.setFlag f b).free = s.free := rfl

@[simp] theorem State.setFlag_reserved (s : State) (f : Flag) (b : Bool) : (s.setFlag f b).reserved = s.reserved := rfl

@[simp] theorem State.setFlag_allocated (s : State) (f : Flag) (b : Bool) : (s.setFlag f b).allocated = s.allocated := rfl

@[simp] theorem State.setFlag_lowMark (s : State) (f : Flag) (b : Bool) : (s.setFlag f b).lowMark = s.lowMark := rfl

@[simp] theorem State.setFlag_directory (s : State) (f : Flag) (b : Bool) : (s.setFlag f b).directory = s.directory := rfl

@[simp] theorem State.setFlag_dram (s : State) (f : Flag) (b : Bool) : (s.setFlag f b).dram = s.dram := rfl

@[simp] theorem State.setFlag_held (s : State) (f : Flag) (b : Bool) : (s.setFlag f b).held = s.held := rfl

@[simp] theorem State.setFlag_batches (s : State) (f : Flag) (b : Bool) : (s.setFlag f b).batches = s.batches := rfl

@[simp] theorem State.setFlag_lastReport (s : State) (f : Flag) (b : Bool) : (s.setFlag f b).lastReport = s.lastReport := rfl

@[simp] theorem State.setFlag_separators (s : State) (f : Flag) (b : Bool) : (s.setFlag f b).separators = s.separators := rfl

@[simp] theorem State.setFlag_bank0 (s : State) (f : Flag) (b : Bool) : (s.setFlag f b).bank0 = s.bank0 := rfl

@[simp] theorem State.setFlag_bank1 (s : State) (f : Flag) (b : Bool) : (s.setFlag f b).bank1 = s.bank1 := rfl

@[simp] theorem State.setFlag_activeBank (s : State) (f : Flag) (b : Bool) : (s.setFlag f b).activeBank = s.activeBank := rfl

@[simp] theorem State.setFlag_dests (s : State) (f : Flag) (b : Bool) : (s.setFlag f b).dests = s.dests := rfl

@[simp] theorem State.setFlag_portA (s : State) (f : Flag) (b : Bool) : (s.setFlag f b).portA = s.portA := rfl

@[simp] theorem State.setFlag_portB (s : State) (f : Flag) (b : Bool) : (s.setFlag f b).portB = s.portB := rfl

@[simp] theorem State.setFlag_dirQueue (s : State) (f : Flag) (b : Bool) : (s.setFlag f b).dirQueue = s.dirQueue := rfl

@[simp] theorem State.setFlag_mask (s : State) (f : Flag) (b : Bool) : (s.setFlag f b).mask = s.mask := rfl

@[simp] theorem State.setFlag_reportStation (s : State) (f : Flag) (b : Bool) : (s.setFlag f b).reportStation = s.reportStation := rfl

@[simp] theorem State.setFlag_notices (s : State) (f : Flag) (b : Bool) : (s.setFlag f b).notices = s.notices := rfl

@[simp] theorem State.setFlag_pendingLost (s : State) (f : Flag) (b : Bool) : (s.setFlag f b).pendingLost = s.pendingLost := rfl

@[simp] theorem State.setFlag_lostCount (s : State) (f : Flag) (b : Bool) : (s.setFlag f b).lostCount = s.lostCount := rfl

@[simp] theorem State.setFlag_straps (s : State) (f : Flag) (b : Bool) : (s.setFlag f b).straps = s.straps := rfl

@[simp] theorem State.setFlag_usPhase (s : State) (f : Flag) (b : Bool) : (s.setFlag f b).usPhase = s.usPhase := rfl

@[simp] theorem State.setFlag_freeIndex (s : State) (f : Flag) (b : Bool) : (s.setFlag f b).freeIndex = s.freeIndex := rfl

@[simp] theorem State.setFlag_pending (s : State) (f : Flag) (b : Bool) : (s.setFlag f b).pending = s.pending := rfl

/-! ### modPort -/

@[simp] theorem State.modPort_lanes (s : State) (p : Port) (f : PortState → PortState) : (s.modPort p f).lanes = s.lanes := by
  cases p <;> rfl

@[simp] theorem State.modPort_profiles (s : State) (p : Port) (f : PortState → PortState) : (s.modPort p f).profiles = s.profiles := by
  cases p <;> rfl

@[simp] theorem State.modPort_sheets (s : State) (p : Port) (f : PortState → PortState) : (s.modPort p f).sheets = s.sheets := by
  cases p <;> rfl

@[simp] theorem State.modPort_free (s : State) (p : Port) (f : PortState → PortState) : (s.modPort p f).free = s.free := by
  cases p <;> rfl

@[simp] theorem State.modPort_reserved (s : State) (p : Port) (f : PortState → PortState) : (s.modPort p f).reserved = s.reserved := by
  cases p <;> rfl

@[simp] theorem State.modPort_allocated (s : State) (p : Port) (f : PortState → PortState) : (s.modPort p f).allocated = s.allocated := by
  cases p <;> rfl

@[simp] theorem State.modPort_lowMark (s : State) (p : Port) (f : PortState → PortState) : (s.modPort p f).lowMark = s.lowMark := by
  cases p <;> rfl

@[simp] theorem State.modPort_directory (s : State) (p : Port) (f : PortState → PortState) : (s.modPort p f).directory = s.directory := by
  cases p <;> rfl

@[simp] theorem State.modPort_dram (s : State) (p : Port) (f : PortState → PortState) : (s.modPort p f).dram = s.dram := by
  cases p <;> rfl

@[simp] theorem State.modPort_held (s : State) (p : Port) (f : PortState → PortState) : (s.modPort p f).held = s.held := by
  cases p <;> rfl

@[simp] theorem State.modPort_batches (s : State) (p : Port) (f : PortState → PortState) : (s.modPort p f).batches = s.batches := by
  cases p <;> rfl

@[simp] theorem State.modPort_lastReport (s : State) (p : Port) (f : PortState → PortState) : (s.modPort p f).lastReport = s.lastReport := by
  cases p <;> rfl

@[simp] theorem State.modPort_separators (s : State) (p : Port) (f : PortState → PortState) : (s.modPort p f).separators = s.separators := by
  cases p <;> rfl

@[simp] theorem State.modPort_bank0 (s : State) (p : Port) (f : PortState → PortState) : (s.modPort p f).bank0 = s.bank0 := by
  cases p <;> rfl

@[simp] theorem State.modPort_bank1 (s : State) (p : Port) (f : PortState → PortState) : (s.modPort p f).bank1 = s.bank1 := by
  cases p <;> rfl

@[simp] theorem State.modPort_activeBank (s : State) (p : Port) (f : PortState → PortState) : (s.modPort p f).activeBank = s.activeBank := by
  cases p <;> rfl

@[simp] theorem State.modPort_dests (s : State) (p : Port) (f : PortState → PortState) : (s.modPort p f).dests = s.dests := by
  cases p <;> rfl

@[simp] theorem State.modPort_dirQueue (s : State) (p : Port) (f : PortState → PortState) : (s.modPort p f).dirQueue = s.dirQueue := by
  cases p <;> rfl

@[simp] theorem State.modPort_flags (s : State) (p : Port) (f : PortState → PortState) : (s.modPort p f).flags = s.flags := by
  cases p <;> rfl

@[simp] theorem State.modPort_mask (s : State) (p : Port) (f : PortState → PortState) : (s.modPort p f).mask = s.mask := by
  cases p <;> rfl

@[simp] theorem State.modPort_reportStation (s : State) (p : Port) (f : PortState → PortState) : (s.modPort p f).reportStation = s.reportStation := by
  cases p <;> rfl

@[simp] theorem State.modPort_notices (s : State) (p : Port) (f : PortState → PortState) : (s.modPort p f).notices = s.notices := by
  cases p <;> rfl

@[simp] theorem State.modPort_pendingLost (s : State) (p : Port) (f : PortState → PortState) : (s.modPort p f).pendingLost = s.pendingLost := by
  cases p <;> rfl

@[simp] theorem State.modPort_lostCount (s : State) (p : Port) (f : PortState → PortState) : (s.modPort p f).lostCount = s.lostCount := by
  cases p <;> rfl

@[simp] theorem State.modPort_straps (s : State) (p : Port) (f : PortState → PortState) : (s.modPort p f).straps = s.straps := by
  cases p <;> rfl

@[simp] theorem State.modPort_usPhase (s : State) (p : Port) (f : PortState → PortState) : (s.modPort p f).usPhase = s.usPhase := by
  cases p <;> rfl

@[simp] theorem State.modPort_freeIndex (s : State) (p : Port) (f : PortState → PortState) : (s.modPort p f).freeIndex = s.freeIndex := by
  cases p <;> rfl

@[simp] theorem State.modPort_pending (s : State) (p : Port) (f : PortState → PortState) : (s.modPort p f).pending = s.pending := by
  cases p <;> rfl

end Sys2Proof.Machine
end

