-- ==== Sys2Proof/Laws/Ops.lean ====
section
/-!
SUPPORT. Read after write for lanes, ports, destinations and profiles; the free order is a permutation.
-/

namespace Sys2Proof.Machine

/-! ### Lanes -/

@[simp] theorem State.lane_setLane_same (s : State) (l : Fin 8) (x : Lane) : (s.setLane l x).lane l = x := by
  simp [State.lane, State.setLane]

theorem State.lane_setLane_other (s : State) {l k : Fin 8} (x : Lane) (h : k ≠ l) :
    (s.setLane l x).lane k = s.lane k := by
  have : l.val ≠ k.val := fun e => h (Fin.ext e.symm)
  simp [State.lane, State.setLane, Vector.getElem_set_ne _ _ this]

@[simp] theorem State.lane_modLane_same (s : State) (l : Fin 8) (f : Lane → Lane) :
    (s.modLane l f).lane l = f (s.lane l) := State.lane_setLane_same s l _

theorem State.lane_modLane_other (s : State) {l k : Fin 8} (f : Lane → Lane) (h : k ≠ l) :
    (s.modLane l f).lane k = s.lane k := State.lane_setLane_other s _ h

/-- An update of another part of the state leaves every lane. -/
theorem State.lane_eq_of_lanes {s t : State} (h : s.lanes = t.lanes) (l : Fin 8) : s.lane l = t.lane l := by
  simp [State.lane, h]

/-! ### Ports -/

@[simp] theorem State.port_modPort_same (s : State) (p : Port) (f : PortState → PortState) :
    (s.modPort p f).port p = f (s.port p) := by cases p <;> rfl

theorem State.port_modPort_other (s : State) {p q : Port} (f : PortState → PortState) (h : q ≠ p) :
    (s.modPort p f).port q = s.port q := by cases p <;> cases q <;> simp_all [State.port, State.modPort]

/-! ### Destinations and profiles -/

@[simp] theorem State.dest_modDest_same (s : State) (d : Fin 16) (f : Dest → Dest) :
    (s.modDest d f).dest d = f (s.dest d) := by simp [State.dest, State.modDest]

theorem State.dest_modDest_other (s : State) {d e : Fin 16} (f : Dest → Dest) (h : e ≠ d) :
    (s.modDest d f).dest e = s.dest e := by
  have : d.val ≠ e.val := fun x => h (Fin.ext x.symm)
  simp [State.dest, State.modDest, Vector.getElem_set_ne _ _ this]

@[simp] theorem State.profile_modProfile_same (s : State) (i : Fin 16) (f : Profile → Profile) :
    (s.modProfile i f).profile i = f (s.profile i) := by simp [State.profile, State.modProfile]

@[simp] theorem State.port_setLane (s : State) (l : Fin 8) (x : Lane) (p : Port) : (s.setLane l x).port p = s.port p := by
  cases p <;> rfl

@[simp] theorem State.port_modLane (s : State) (l : Fin 8) (f : Lane → Lane) (p : Port) :
    (s.modLane l f).port p = s.port p := by cases p <;> rfl

@[simp] theorem State.port_modSheet (s : State) (t : Tag) (f : Sheet → Sheet) (p : Port) :
    (s.modSheet t f).port p = s.port p := by cases p <;> rfl

@[simp] theorem State.port_modBatch (s : State) (id : Nat) (f : Batch → Batch) (p : Port) :
    (s.modBatch id f).port p = s.port p := by cases p <;> rfl

@[simp] theorem State.port_modDest (s : State) (d : Fin 16) (f : Dest → Dest) (p : Port) :
    (s.modDest d f).port p = s.port p := by cases p <;> rfl

/-! ### Event flags -/

@[simp] theorem State.flag_setFlag_same (s : State) (f : Flag) (b : Bool) : (s.setFlag f b).flag f = b := by
  simp [State.flag, State.setFlag]

/-! ### The free order -/

theorem insertRanked_perm {α : Type} (r : Nat) (x : α) (l : List (Nat × α)) :
    ((insertRanked r x l).map Prod.snd).Perm (x :: l.map Prod.snd) := by
  induction l with
  | nil => simp [insertRanked]
  | cons y rest ih =>
    obtain ⟨r', y⟩ := y
    unfold insertRanked
    split
    · simp
    · simpa using (List.Perm.cons y ih).trans (List.Perm.swap x y _)

theorem rankItems_perm {α : Type} (k j : Nat) (l : List α) : ((rankItems k j l).map Prod.snd).Perm l := by
  induction l generalizing j with
  | nil => simp [rankItems]
  | cons x rest ih =>
    simp only [rankItems]
    exact (insertRanked_perm _ _ _).trans ((ih (j + 1)).cons x)

/-- A free order holds exactly the items it orders. -/
theorem freeOrder_perm {α : Type} (k : Nat) (l : List α) : (freeOrder k l).Perm l := rankItems_perm k 0 l

end Sys2Proof.Machine
end

