-- ==== Sys2Proof/Laws/Egress.lean ====
section
/-!
SUPPORT. What forming notices and making the ports' choices can change: said once for each shared operation.
-/

namespace Sys2Proof.Machine

/-! ### Notices and flags -/

theorem State.setFlag_self {s : State} {f : Flag} (h : s.flag f = true) : s.setFlag f true = s := by
  unfold State.setFlag
  have : s.flags.set f.index.val true = s.flags := by
    simp only [State.flag] at h
    rw [← h, Vector.set_getElem_self]
  rw [this]

@[simp] theorem interior_setNoticeLost (s : State) (b : Bool) :
    (s.setFlag noticeLostFlag b).interior = s.interior := by
  simp [State.interior, State.setFlag]

@[simp] theorem interior_loseNotice (st : ReportStation) (s : State) : (loseNotice st s).interior = s.interior := by
  unfold loseNotice
  split
  · rfl
  · split <;> simp [State.interior, State.setFlag]

@[simp] theorem interior_formNotice (b : NoticeBody) (s : State) : (formNotice b s).interior = s.interior := by
  unfold formNotice
  split
  · rfl
  · split
    · rfl
    · simp

/-- Raising a flag sets it; all else is a notice's matter. -/
@[simp] theorem interior_raise (f : Flag) (s : State) : (raise f s).interior = (s.setFlag f true).interior := by
  unfold raise
  split
  · next h => rw [State.setFlag_self h]
  · dsimp only
    split <;> simp

@[simp] theorem interior_placePendingLost (s : State) : (placePendingLost s).interior = s.interior := by
  unfold placePendingLost
  split
  · rfl
  · split <;> rfl

/-! ### Sending -/

/-- `t` is `s` but for ports, destinations, notices and the pending notice. -/
def onlySends (s t : State) : Prop :=
  t = { s with portA := t.portA, portB := t.portB, dests := t.dests, notices := t.notices, pendingLost := t.pendingLost }

theorem onlySends.refl (s : State) : onlySends s s := rfl

theorem onlySends.trans {s t u : State} (h : onlySends s t) (k : onlySends t u) : onlySends s u := by
  unfold onlySends at *
  rw [h] at k
  exact k

theorem onlySends.straps_eq {s t : State} (h : onlySends s t) : t.straps = s.straps := by
  have e : t = _ := h
  have := congrArg State.straps e
  exact this

theorem onlySends.dirQueue_eq {s t : State} (h : onlySends s t) : t.dirQueue = s.dirQueue := by
  have e : t = _ := h
  have := congrArg State.dirQueue e
  exact this

theorem onlySends_modPort (s : State) (p : Port) (f : PortState → PortState) : onlySends s (s.modPort p f) := by
  cases p <;> rfl

theorem onlySends_placePendingLost (s : State) : onlySends s (placePendingLost s) := by
  unfold placePendingLost
  split
  · rfl
  · split <;> rfl

theorem onlySends_sendStrip (p : Port) (c : Delivery) (s : State) : onlySends s (sendStrip p c s) := by
  unfold sendStrip
  split
  · rfl
  · exact onlySends_modPort _ _ _

theorem onlySends_startDelivery (p : Port) (d : Fin 16) (s : State) : onlySends s (startDelivery p d s) := by
  unfold startDelivery
  split
  · rfl
  · exact .trans (.trans (by rfl) (onlySends_modPort _ _ _)) (onlySends_sendStrip _ _ _)

theorem onlySends_chooseDelivery (p : Port) (s : State) : onlySends s (chooseDelivery p s) := by
  unfold chooseDelivery
  dsimp only
  repeat' split
  all_goals first
    | exact onlySends.refl _
    | exact onlySends_startDelivery _ _ _
    | exact onlySends_sendStrip _ _ _
    | exact .trans (onlySends_modPort _ _ _) (onlySends_startDelivery _ _ _)
    | exact .trans (onlySends_modPort _ _ _) (onlySends_sendStrip _ _ _)

theorem onlySends_boundary (p : Port) (s : State) : onlySends s (boundary p s) := by
  unfold boundary
  dsimp only
  split
  · split
    · exact onlySends_modPort _ _ _
    · split
      · exact .trans (.trans (by rfl) (onlySends_placePendingLost _)) (onlySends_modPort _ _ _)
      · exact onlySends_chooseDelivery _ _
  · exact onlySends.refl _

/-- The choices of the ports change ports, destinations and notices alone. -/
theorem onlySends_kickPorts (s : State) : onlySends s (kickPorts s) :=
  .trans (.trans (onlySends_boundary _ _) (onlySends_boundary _ _)) (onlySends_boundary _ _)

/-! ### The interior under sending -/

theorem interior_modPort (s : State) (p : Port) (f : PortState → PortState)
    (h : ∀ q, (f q).interior = q.interior) : (s.modPort p f).interior = s.interior := by
  cases p <;> simp [State.interior, State.modPort, h]

theorem interior_modDest_credit (s : State) (d : Fin 16) (f : Dest → Dest)
    (h : ∀ x, { f x with credit := 0 } = { x with credit := 0 }) : (s.modDest d f).interior = s.interior := by
  have : (s.dests.set d.val (f (s.dest d))).map (fun x => { x with credit := 0 }) =
      s.dests.map (fun x => { x with credit := 0 }) := by
    ext1 i hi
    simp only [Vector.getElem_map, Vector.getElem_set]
    split
    · next e => subst e; exact h _
    · rfl
  simp [State.interior, State.modDest, this]

@[simp] theorem interior_pushReply (p : Port) (r : Reply) (s : State) : (pushReply p r s).interior = s.interior :=
  interior_modPort _ _ _ (fun _ => rfl)

theorem interior_sendStrip (p : Port) (c : Delivery) (s : State) : (sendStrip p c s).interior = s.interior := by
  unfold sendStrip
  split
  · rfl
  · exact interior_modPort _ _ _ (fun _ => rfl)

theorem interior_startDelivery (p : Port) (d : Fin 16) (s : State) : (startDelivery p d s).interior = s.interior := by
  unfold startDelivery
  split
  · rfl
  · rw [interior_sendStrip, interior_modPort, interior_modDest_credit]
    · exact fun _ => rfl
    · exact fun _ => rfl

theorem interior_chooseDelivery (p : Port) (s : State) : (chooseDelivery p s).interior = s.interior := by
  unfold chooseDelivery
  dsimp only
  repeat' split
  all_goals first
    | rfl
    | exact interior_startDelivery _ _ _
    | exact interior_sendStrip _ _ _
    | (rw [interior_startDelivery]; exact interior_modPort _ _ _ (fun _ => rfl))
    | (rw [interior_sendStrip]; exact interior_modPort _ _ _ (fun _ => rfl))

theorem interior_boundary (p : Port) (s : State) : (boundary p s).interior = s.interior := by
  unfold boundary
  dsimp only
  split
  · split
    · exact interior_modPort _ _ _ (fun _ => rfl)
    · split
      · unfold sendNotice
        rw [interior_modPort, interior_placePendingLost]
        · rfl
        · exact fun _ => rfl
      · exact interior_chooseDelivery _ _
  · rfl

/-- The ports' choices leave the interior. -/
@[simp] theorem interior_kickPorts (s : State) : (kickPorts s).interior = s.interior := by
  unfold kickPorts
  rw [interior_boundary, interior_boundary, interior_boundary]

/-! ### Busy ports -/

theorem boundary_of_busy {p : Port} {s : State} (h : (s.port p).linkUp = false ∨ (s.port p).tx.isSome = true) :
    boundary p s = s := by
  unfold boundary
  rcases h with h | h
  · simp [h]
  · cases hx : (s.port p).tx <;> simp_all

/-- With every port busy no choice is made. -/
theorem kickPorts_of_busy {s : State} (h : portsBusy s) : kickPorts s = s := by
  unfold kickPorts
  rw [boundary_of_busy (h .a), boundary_of_busy (h .b), boundary_of_busy (h .a)]

/-! ### Other ports and the reply lists -/

theorem port_sendStrip_other {p q : Port} (c : Delivery) (s : State) (h : q ≠ p) :
    (sendStrip p c s).port q = s.port q := by
  unfold sendStrip
  split
  · rfl
  · exact State.port_modPort_other _ _ h

theorem port_startDelivery_other {p q : Port} (d : Fin 16) (s : State) (h : q ≠ p) :
    (startDelivery p d s).port q = s.port q := by
  unfold startDelivery
  split
  · rfl
  · rw [port_sendStrip_other _ _ h, State.port_modPort_other _ _ h, State.port_modDest]

theorem port_chooseDelivery_other {p q : Port} (s : State) (h : q ≠ p) : (chooseDelivery p s).port q = s.port q := by
  unfold chooseDelivery
  dsimp only
  repeat' split
  all_goals first
    | rfl
    | exact port_startDelivery_other _ _ h
    | exact port_sendStrip_other _ _ h
    | (rw [port_startDelivery_other _ _ h]; exact State.port_modPort_other _ _ h)
    | (rw [port_sendStrip_other _ _ h]; exact State.port_modPort_other _ _ h)

@[simp] theorem port_placePendingLost (s : State) (q : Port) : (placePendingLost s).port q = s.port q := by
  unfold placePendingLost
  split
  · rfl
  · split <;> cases q <;> rfl

/-- The choice of one port leaves the other. -/
theorem port_boundary_other {p q : Port} (s : State) (h : q ≠ p) : (boundary p s).port q = s.port q := by
  unfold boundary
  dsimp only
  split
  · split
    · exact State.port_modPort_other _ _ h
    · split
      · unfold sendNotice
        rw [State.port_modPort_other _ _ h, port_placePendingLost]
        cases q <;> rfl
      · exact port_chooseDelivery_other _ h
  · rfl

theorem replies_sendStrip (p : Port) (c : Delivery) (s : State) (q : Port) :
    ((sendStrip p c s).port q).replies = (s.port q).replies := by
  unfold sendStrip
  split
  · rfl
  · cases p <;> cases q <;> rfl

theorem replies_startDelivery (p : Port) (d : Fin 16) (s : State) (q : Port) :
    ((startDelivery p d s).port q).replies = (s.port q).replies := by
  unfold startDelivery
  split
  · rfl
  · rw [replies_sendStrip]
    cases p <;> cases q <;> rfl

theorem replies_chooseDelivery (p : Port) (s : State) (q : Port) :
    ((chooseDelivery p s).port q).replies = (s.port q).replies := by
  unfold chooseDelivery
  dsimp only
  repeat' split
  all_goals first
    | rfl
    | exact replies_startDelivery _ _ _ _
    | exact replies_sendStrip _ _ _ _
    | (rw [replies_startDelivery]; cases p <;> cases q <;> rfl)
    | (rw [replies_sendStrip]; cases p <;> cases q <;> rfl)

/-- At a boundary a port's reply list stays, or its oldest reply begins. -/
theorem repliesBecome_boundary (p : Port) (s : State) : repliesBecome p (s.port p).replies s (boundary p s) := by
  unfold boundary
  dsimp only
  split
  · split
    · next r rest h => exact .inr ⟨r, rest, h, by simp [sendReply], by simp [sendReply]⟩
    · next h =>
      refine .inl ?_
      split
      · simp [sendNotice]
        cases p <;> rfl
      · exact replies_chooseDelivery _ _ _
  · exact .inl rfl

theorem straps_boundary (p : Port) (s : State) : (boundary p s).straps = s.straps :=
  (onlySends_boundary p s).straps_eq

/-- The ports' choices begin at most the oldest reply of a port. -/
theorem repliesBecome_kickPorts (p : Port) (s : State) : repliesBecome p (s.port p).replies s (kickPorts s) := by
  unfold kickPorts
  cases p with
  | b =>
    have h := repliesBecome_boundary .b (boundary .a s)
    rw [port_boundary_other s (by decide : Port.b ≠ .a)] at h
    unfold repliesBecome at *
    rw [port_boundary_other _ (by decide : Port.b ≠ .a)]
    rwa [straps_boundary] at h
  | a =>
    have h1 := repliesBecome_boundary .a s
    have hp : (boundary .b (boundary .a s)).port .a = (boundary .a s).port .a :=
      port_boundary_other _ (by decide)
    rcases h1 with h1 | ⟨r0, rest, e, h1, h2⟩
    · have h := repliesBecome_boundary .a (boundary .b (boundary .a s))
      rw [hp, h1] at h
      unfold repliesBecome at *
      rwa [straps_boundary, straps_boundary] at h
    · have hb : boundary .a (boundary .b (boundary .a s)) = boundary .b (boundary .a s) :=
        boundary_of_busy (.inr (by rw [hp, h2]; rfl))
      rw [hb]
      exact .inr ⟨r0, rest, e, by rw [hp, h1], by rw [hp, h2]⟩

@[simp] theorem dirQueue_kickPorts (s : State) : (kickPorts s).dirQueue = s.dirQueue :=
  (onlySends_kickPorts s).dirQueue_eq

@[simp] theorem straps_kickPorts (s : State) : (kickPorts s).straps = s.straps :=
  (onlySends_kickPorts s).straps_eq

end Sys2Proof.Machine
end

