-- ==== Sys2Proof/Laws/Frames.lean ====
section
/-!
SUPPORT. Bytes and frames: the length of a field, reading a field back, and a lane link frame whose check is its own.
-/

namespace Sys2Proof.Machine

@[simp] theorem be_length (k n : Nat) : (be k n).length = k := by
  induction k generalizing n with
  | zero => rfl
  | succ k ih => simp [be, ih]

/-- The number that a list of bytes spells, from a number already read. -/
theorem foldl_be (k n a : Nat) :
    (be k n).foldl (fun a b => a * 256 + b.toNat) a = a * 256 ^ k + n % 256 ^ k := by
  induction k generalizing a with
  | zero => simp [be, Nat.mod_one]
  | succ k ih =>
    have h : n % 256 ^ (k + 1) = n / 256 ^ k % 256 * 256 ^ k + n % 256 ^ k := by
      rw [Nat.pow_succ, Nat.mod_mul, Nat.mul_comm (256 ^ k)]; omega
    simp only [be, List.foldl_cons, ih, BitVec.toNat_ofNat]
    rw [h, Nat.pow_succ]
    ring

/-- A field of `k` bytes reads back, modulo its range. -/
theorem rd_be (k n : Nat) (rest : List Byte) : rd (be k n ++ rest) 0 k = n % 256 ^ k := by
  have h : (be k n ++ rest).take k = be k n := by simp
  simp [rd, h, foldl_be]

/-- Fields behind others read as where they stand. -/
theorem rd_append_be (i j k n : Nat) (rest : List Byte) : rd (be i n ++ rest) (i + j) k = rd rest j k := by
  have h : (be i n).drop (i + j) = [] := List.drop_eq_nil_of_le (by simp)
  simp [rd, List.drop_append, h]

/-- A frame that carries its own check is read as its body (R199). -/
theorem readLaneFrame_withCheck (body : List Byte) : readLaneFrame (withCheck body) = readLaneBody body := by
  have h : (withCheck body).length - 4 = body.length := by simp [withCheck]
  have h' : ¬ (withCheck body).length < 4 := by simp [withCheck]
  unfold readLaneFrame
  rw [if_neg h', h]
  simp [withCheck]

end Sys2Proof.Machine
end

