-- ==== Sys2Proof/Laws/Memory.lean ====
section
/-!
SUPPORT. The page store's DRAM: every operation keeps its canonical form, a read after a write gives what was written,
and a write leaves every other byte alone.
-/

namespace Sys2Proof.Machine

theorem cellsOf_ge {a : Nat} {bytes : List Byte} {c : Host.Cell} (h : c ∈ cellsOf a bytes) :
    a ≤ c.1 ∧ c.1 < a + bytes.length ∧ c.2 ≠ unwritten := by
  induction bytes generalizing a with
  | nil => simp [cellsOf] at h
  | cons b rest ih =>
    unfold cellsOf at h
    split at h
    · obtain ⟨h1, h2, h3⟩ := ih h
      exact ⟨by omega, by simp only [List.length_cons]; omega, h3⟩
    · rcases List.mem_cons.mp h with rfl | h
      · simp_all
      · obtain ⟨h1, h2, h3⟩ := ih h
        exact ⟨by omega, by simp only [List.length_cons]; omega, h3⟩

theorem cellsOf_rising (a : Nat) (bytes : List Byte) : (cellsOf a bytes).Pairwise (fun c d => c.1 < d.1) := by
  induction bytes generalizing a with
  | nil => simp [cellsOf]
  | cons b rest ih =>
    unfold cellsOf
    split
    · exact ih _
    · refine List.pairwise_cons.mpr ⟨fun c hc => ?_, ih _⟩
      have := cellsOf_ge hc
      exact Nat.lt_of_lt_of_le (Nat.lt_succ_self a) this.1

/-- A write keeps the canonical form. -/
theorem writeBytes_wf {mem : List Host.Cell} (h : Memory.wf mem) (a : Nat) (bytes : List Byte) :
    Memory.wf (writeBytes mem a bytes) := by
  obtain ⟨hr, hn⟩ := h
  refine ⟨?_, ?_⟩
  · unfold writeBytes
    rw [List.pairwise_append, List.pairwise_append]
    refine ⟨⟨hr.filter _, cellsOf_rising a bytes, ?_⟩, hr.filter _, ?_⟩
    · intro c hc d hd
      have h1 : c.1 < a := by simpa using (List.mem_filter.mp hc).2
      have h2 := (cellsOf_ge hd).1
      omega
    · intro c hc d hd
      have h2 : a + bytes.length ≤ d.1 := by simpa using (List.mem_filter.mp hd).2
      rcases List.mem_append.mp hc with hc | hc
      · have h1 : c.1 < a := by simpa using (List.mem_filter.mp hc).2
        omega
      · have h1 := (cellsOf_ge hc).2.1
        omega
  · intro c hc
    unfold writeBytes at hc
    rcases List.mem_append.mp hc with hc | hc
    · rcases List.mem_append.mp hc with hc | hc
      · exact hn c (List.mem_filter.mp hc).1
      · exact (cellsOf_ge hc).2.2
    · exact hn c (List.mem_filter.mp hc).1

theorem find_filter_of_imp {mem : List Host.Cell} {x : Nat} {p : Host.Cell → Bool} (h : ∀ c, c.1 = x → p c = true) :
    (mem.filter p).find? (fun c => decide (c.1 = x)) = mem.find? (fun c => decide (c.1 = x)) := by
  induction mem with
  | nil => rfl
  | cons c rest ih =>
    by_cases hx : c.1 = x
    · simp [h c hx, hx]
    · by_cases hp : p c = true
      · simp [hp, hx, ih]
      · simp [hp, hx, ih]

theorem find_eq_none_of_ne {mem : List Host.Cell} {x : Nat} (h : ∀ c ∈ mem, c.1 ≠ x) :
    mem.find? (fun c => decide (c.1 = x)) = none := by
  simpa [List.find?_eq_none] using h

/-- A write leaves every byte outside the written range. -/
theorem readByte_writeBytes_outside (mem : List Host.Cell) (a : Nat) (bytes : List Byte) {x : Nat}
    (h : x < a ∨ a + bytes.length ≤ x) : readByte (writeBytes mem a bytes) x = readByte mem x := by
  have hc : (cellsOf a bytes).find? (fun c => decide (c.1 = x)) = none :=
    find_eq_none_of_ne (fun c hc => by have := cellsOf_ge hc; omega)
  unfold readByte writeBytes
  rw [List.find?_append, List.find?_append, hc]
  rcases h with h | h
  · rw [find_filter_of_imp (fun c hx => by simpa [hx] using h),
      find_eq_none_of_ne (mem := mem.filter _) (fun c hc => by
        have : a + bytes.length ≤ c.1 := by simpa using (List.mem_filter.mp hc).2
        omega)]
    simp
  · rw [find_eq_none_of_ne (mem := mem.filter (fun c => decide (c.1 < a))) (fun c hc => by
        have : c.1 < a := by simpa using (List.mem_filter.mp hc).2
        omega), find_filter_of_imp (fun c hx => by simpa [hx] using h)]
    simp

theorem readByte_cellsOf (a : Nat) (bytes : List Byte) (i : Nat) (h : i < bytes.length) :
    readByte (cellsOf a bytes) (a + i) = bytes[i] := by
  induction bytes generalizing a i with
  | nil => simp at h
  | cons b rest ih =>
    unfold cellsOf
    cases i with
    | zero =>
      split
      · next hb =>
        have hn : (cellsOf (a + 1) rest).find? (fun c => decide (c.1 = a)) = none :=
          find_eq_none_of_ne (fun c hc => by have := cellsOf_ge hc; omega)
        simp [readByte, hn, hb]
      · simp [readByte]
    | succ j =>
      have hj : j < rest.length := by simpa using h
      have := ih (a + 1) j hj
      rw [show a + 1 + j = a + (j + 1) by omega] at this
      split
      · simpa using this
      · simpa [readByte] using this

/-- A byte that was written reads as written. -/
theorem readByte_writeBytes_inside (mem : List Host.Cell) (a : Nat) (bytes : List Byte) (i : Nat)
    (h : i < bytes.length) : readByte (writeBytes mem a bytes) (a + i) = bytes[i] := by
  have h1 : (mem.filter (fun c => decide (c.1 < a))).find? (fun c => decide (c.1 = a + i)) = none :=
    find_eq_none_of_ne (fun c hc => by
      have : c.1 < a := by simpa using (List.mem_filter.mp hc).2
      omega)
  have h2 : (mem.filter (fun c => decide (a + bytes.length ≤ c.1))).find? (fun c => decide (c.1 = a + i)) = none :=
    find_eq_none_of_ne (fun c hc => by
      have : a + bytes.length ≤ c.1 := by simpa using (List.mem_filter.mp hc).2
      omega)
  have := readByte_cellsOf a bytes i h
  unfold readByte writeBytes
  rw [List.find?_append, List.find?_append, h1, h2]
  simpa [readByte] using this

/-- The memory after reset is in canonical form. -/
theorem reset_dram_wf : Memory.wf State.reset.dram := by
  exact ⟨List.Pairwise.nil, fun c h => absurd h List.not_mem_nil⟩

end Sys2Proof.Machine
end

