-- ==== Sys2Proof/Laws/Station.lean ====
section
/-!
SUPPORT. What the execution of a waiting directive leaves, whatever the directive; lookups after updates by tag and id.
-/

namespace Sys2Proof.Machine

/-- What is left of the directive queue once its oldest directive is taken. -/
abbrev State.dequeued (s : State) : State := { s with dirQueue := s.dirQueue.tail }

theorem takeDirective_of_waiting {row : DirectiveRow} {d : Directive} {s : State} (h : waiting row d s) :
    takeDirective row s = some (d, s.dequeued) := by
  obtain ⟨h1, h2⟩ := h
  unfold takeDirective
  cases hq : s.dirQueue with
  | nil => simp [hq] at h1
  | cons e rest =>
    have : e = d := by simpa [hq] using h1
    subst this
    simp [h2, State.dequeued, hq]

/-- A waiting directive of the row is executed by the row's body, answered, and the ports choose. -/
theorem runDirective_of_waiting {row : DirectiveRow} {d : Directive} {s : State} (h : waiting row d s)
    (body : List Byte → State → Executed) :
    runDirective row body s =
      kickPorts (pushReply d.port (replyTo d (body d.params s.dequeued).result (body d.params s.dequeued).data)
        { (body d.params s.dequeued).state with freeIndex := (body d.params s.dequeued).state.freeIndex + 1 }) := by
  unfold runDirective
  rw [takeDirective_of_waiting h]

@[simp] theorem dirQueue_pushReply (p : Port) (r : Reply) (s : State) : (pushReply p r s).dirQueue = s.dirQueue :=
  State.modPort_dirQueue _ _ _

@[simp] theorem straps_pushReply (p : Port) (r : Reply) (s : State) : (pushReply p r s).straps = s.straps :=
  State.modPort_straps _ _ _

@[simp] theorem interior_freeIndex (s : State) (k : Nat) : ({ s with freeIndex := k } : State).interior = s.interior := rfl

@[simp] theorem interior_dirQueue (s : State) (q : List Directive) :
    ({ s with dirQueue := q } : State).interior = s.interior := rfl

/-- The execution of a waiting directive: answered once, and the interior is what the body leaves. -/
theorem runDirective_spec {row : DirectiveRow} {d : Directive} {s : State} (h : waiting row d s)
    (body : List Byte → State → Executed) {r : Result} {data : List Byte} {u : State}
    (hb : body d.params s.dequeued = ⟨r, data, u⟩) (hq : u.dirQueue = s.dirQueue.tail)
    (hr : (u.port d.port).replies = (s.port d.port).replies) (hs : u.straps = s.straps) :
    answered d r data s (runDirective row body s) ∧ (runDirective row body s).interior = u.interior := by
  rw [runDirective_of_waiting h, hb]
  dsimp only
  refine ⟨⟨by simpa using hq, ?_⟩, by simp⟩
  have k := repliesBecome_kickPorts d.port (pushReply d.port (replyTo d r data) { u with freeIndex := u.freeIndex + 1 })
  have e : ((pushReply d.port (replyTo d r data) { u with freeIndex := u.freeIndex + 1 }).port d.port).replies =
      (s.port d.port).replies ++ [replyTo d r data] := by
    rw [← hr]
    simp only [pushReply, State.port_modPort_same]
    cases d.port <;> rfl
  unfold repliesBecome at *
  rw [e] at k
  simpa [hs] using k

/-! ### Lookups after updates -/

theorem find_map_same {α : Type} (l : List α) (p : α → Bool) (g : α → α) (h : ∀ a, p (g a) = p a) :
    (l.map g).find? p = (l.find? p).map g := by
  induction l with
  | nil => rfl
  | cons a rest ih =>
    simp only [List.map_cons, List.find?_cons, h]
    split <;> simp_all

theorem State.sheet?_modSheet_same (s : State) (t : Tag) (f : Sheet → Sheet) (h : ∀ r, (f r).tag = r.tag) :
    (s.modSheet t f).sheet? t = (s.sheet? t).map f := by
  unfold State.sheet? State.modSheet
  dsimp only
  rw [find_map_same _ _ _ (fun r => by split <;> simp_all)]
  cases hx : s.sheets.find? (fun r => decide (r.tag = t)) with
  | none => rfl
  | some r =>
    have : r.tag = t := by simpa using List.find?_some hx
    simp [this]

theorem State.sheet?_modSheet_other (s : State) {t u : Tag} (f : Sheet → Sheet) (h : ∀ r, (f r).tag = r.tag)
    (hu : u ≠ t) : (s.modSheet t f).sheet? u = s.sheet? u := by
  unfold State.sheet? State.modSheet
  dsimp only
  rw [find_map_same _ _ _ (fun r => by split <;> simp_all)]
  cases hx : s.sheets.find? (fun r => decide (r.tag = u)) with
  | none => rfl
  | some r =>
    have : r.tag = u := by simpa using List.find?_some hx
    simp [this, hu]

theorem State.batch?_modBatch_same (s : State) (id : Nat) (f : Batch → Batch) (h : ∀ b, (f b).id = b.id) :
    (s.modBatch id f).batch? id = (s.batch? id).map f := by
  unfold State.batch? State.modBatch
  dsimp only
  rw [find_map_same _ _ _ (fun r => by split <;> simp_all)]
  cases hx : s.batches.find? (fun b => decide (b.id = id)) with
  | none => rfl
  | some r =>
    have : r.id = id := by simpa using List.find?_some hx
    simp [this]

theorem State.batch?_modBatch_other (s : State) {id k : Nat} (f : Batch → Batch) (h : ∀ b, (f b).id = b.id)
    (hk : k ≠ id) : (s.modBatch id f).batch? k = s.batch? k := by
  unfold State.batch? State.modBatch
  dsimp only
  rw [find_map_same _ _ _ (fun r => by split <;> simp_all)]
  cases hx : s.batches.find? (fun b => decide (b.id = k)) with
  | none => rfl
  | some r =>
    have : r.id = k := by simpa using List.find?_some hx
    simp [this, hk]

theorem State.batchOf_modBatch_same (s : State) (id : Nat) (f : Batch → Batch) (h : ∀ b, (f b).id = b.id) {b : Batch}
    (hb : s.batch? id = some b) : (s.modBatch id f).batchOf id = f b := by
  simp [State.batchOf, State.batch?_modBatch_same s id f h, hb]

/-- The lane number of a lane directive (R60). -/
theorem laneOf_val {n : Nat} {l : Fin 8} (h : n = l.val) : laneOf n = some l := by
  subst h
  simp [laneOf]

theorem sixteenOf_val {n : Nat} {i : Fin 16} (h : n = i.val) : sixteenOf n = some i := by
  subst h
  simp [sixteenOf]

/-- A lane directive's body runs once its length and lane number pass. -/
theorem withLane_of_names {d : Directive} {k : Nat} {l : Fin 8} (h : names d k l.val)
    (body : Fin 8 → List Byte → State → Executed) (s : State) :
    withLength k (withLane body) d.params s = body l d.params s := by
  simp [withLength, withLane, h.1, laneOf_val h.2]

theorem withSixteen_of_names {d : Directive} {k : Nat} {i : Fin 16} (h : names d k i.val)
    (body : Fin 16 → List Byte → State → Executed) (s : State) :
    withLength k (withSixteen body) d.params s = body i d.params s := by
  simp [withLength, withSixteen, h.1, sixteenOf_val h.2]

end Sys2Proof.Machine
end

