-- ==== Sys2Proof/Laws/Settle.lean ====
section
/-!
SUPPORT. What the operations of settlement and of the batch unit do, up to the traffic that leaves: congruence of the
updates under `State.interior`, freed records, reports, halts, closures, examinations that leave the cursor alone; and
the path entry that an exit window goes to.
-/

namespace Sys2Proof.Machine

/-! ### Updates and the interior -/

theorem interior_modLane_congr {s t : State} (h : s.interior = t.interior) (l : Fin 8) (f : Lane → Lane) :
    (s.modLane l f).interior = (t.modLane l f).interior := by
  have step : ∀ u : State, (u.modLane l f).interior = u.interior.modLane l f := fun _ => rfl
  rw [step, h, ← step]

theorem interior_modSheet_congr {s t : State} (h : s.interior = t.interior) (g : Tag) (f : Sheet → Sheet) :
    (s.modSheet g f).interior = (t.modSheet g f).interior := by
  have step : ∀ u : State, (u.modSheet g f).interior = u.interior.modSheet g f := fun _ => rfl
  rw [step, h, ← step]

theorem interior_modBatch_congr {s t : State} (h : s.interior = t.interior) (id : Nat) (f : Batch → Batch) :
    (s.modBatch id f).interior = (t.modBatch id f).interior := by
  have step : ∀ u : State, (u.modBatch id f).interior = u.interior.modBatch id f := fun _ => rfl
  rw [step, h, ← step]

theorem interior_setFlag_congr {s t : State} (h : s.interior = t.interior) (f : Flag) (b : Bool) :
    (s.setFlag f b).interior = (t.setFlag f b).interior := by
  have step : ∀ u : State, (u.setFlag f b).interior =
      (u.interior.setFlag f b).setFlag noticeLostFlag false := by
    intro u
    have flags : (u.flags.set f.index.val b).set noticeLostFlag.index.val false =
        ((u.flags.set noticeLostFlag.index.val false).set f.index.val b).set noticeLostFlag.index.val false := by
      ext k hk
      simp only [Vector.getElem_set]
      split <;> rfl
    simp only [State.setFlag, State.interior]
    rw [flags]
  rw [step, h, ← step]

theorem State.modLane_modLane (s : State) (l : Fin 8) (f g : Lane → Lane) :
    (s.modLane l f).modLane l g = s.modLane l (g ∘ f) := by
  simp [State.modLane, State.setLane, State.lane]

theorem State.modLane_congr (s : State) (l : Fin 8) {f g : Lane → Lane} (h : f (s.lane l) = g (s.lane l)) :
    s.modLane l f = s.modLane l g := by
  simp [State.modLane, h]

theorem State.modBatch_modBatch (s : State) (id : Nat) (f g : Batch → Batch) (hf : ∀ b, (f b).id = b.id) :
    (s.modBatch id f).modBatch id g = s.modBatch id (g ∘ f) := by
  simp only [State.modBatch, List.map_map]
  congr 1
  refine List.map_congr_left fun b _ => ?_
  by_cases h : b.id = id <;> simp [Function.comp, h, hf]

/-! ### Found records -/

theorem State.tag_of_sheet? {s : State} {g : Tag} {r : Sheet} (h : s.sheet? g = some r) : r.tag = g := by
  simpa using List.find?_some h

theorem State.id_of_batch? {s : State} {id : Nat} {b : Batch} (h : s.batch? id = some b) : b.id = id := by
  simpa using List.find?_some h

theorem freeRecord_of_sheet? {s : State} {g : Tag} {r : Sheet} (h : s.sheet? g = some r) : freeRecord g s = freedOf r s := by
  simp [freeRecord, h, freedOf, State.tag_of_sheet? h]

theorem freeRecord_of_absent {s : State} {g : Tag} (h : s.sheet? g = none) : freeRecord g s = s := by
  simp [freeRecord, h]

theorem freedOf_sheet? (r : Sheet) (s : State) (g : Tag) :
    (freedOf r s).sheet? g = if g = r.tag then none else s.sheet? g := by
  simp only [freedOf, State.sheet?]
  split <;> rename_i h
  · subst h; simp
  · induction s.sheets with
    | nil => rfl
    | cons q rest ih =>
      by_cases hq : q.tag = r.tag
      · have hg : q.tag ≠ g := fun e => h (e ▸ hq)
        simp_all
      · by_cases hg : q.tag = g <;> simp_all

/-- R128, R133: the batch at the head of a lane's queue is its active batch in FEEDING, DRAINING and ABORTED. -/
theorem activeBatch_head {s : State} {l : Fin 8} {id : Nat} {rest : List Nat} {b : Batch}
    (h : (s.lane l).batchQueue = id :: rest) (hb : s.batch? id = some b)
    (hs : b.state = .feeding ∨ b.state = .draining ∨ b.state = .aborted) : s.activeBatch l = some id := by
  unfold State.activeBatch
  rw [h]
  simp only [hb]
  rcases hs with h | h | h <;> rw [h]

/-! ### Reports and closures -/

theorem interior_handReport (r : Report) (s : State) :
    (handReport r s).interior =
      (({ s with lastReport := some r } : State).setFlag (.device .batchReport) true).interior := by
  unfold handReport
  simp only
  split
  · simp
  · rfl

theorem interior_finishBatch (final : FinalState) {id : Nat} {s : State} {b : Batch} (h : s.batch? id = some b) :
    (finishBatch final id s).interior = (reportedOf b final s).interior := by
  unfold finishBatch
  simp only [h]
  rw [interior_handReport, ← State.id_of_batch? h]
  rfl

/-- R132: all that the test for closure can do. -/
theorem interior_testClosure {id : Nat} {s : State} {b : Batch} (h : s.batch? id = some b) :
    (testClosure id s).interior =
      if b.state = .ended ∧ b.heldNow = 0 ∧ b.deliveriesPending = 0 then (reportedOf b .closed s).interior
      else s.interior := by
  unfold testClosure
  simp only [h]
  split
  · exact interior_finishBatch .closed h
  · rfl

/-- R137: all that the test for the end of an abort can do. -/
theorem interior_testAbort {id : Nat} {s : State} {b : Batch} (h : s.batch? id = some b) :
    (testAbort id s).interior =
      if b.state = .aborted ∧ s.inLaneQueue b = false ∧ b.deliveriesPending = 0 then (reportedOf b .aborted s).interior
      else s.interior := by
  unfold testAbort
  simp only [h]
  split
  · exact interior_finishBatch .aborted h
  · rfl

/-! ### Halts -/

/-- R40: all that a halt cause can do. -/
theorem interior_halt (l : Fin 8) (r : HaltReason) (s : State) :
    (halt l r s).interior =
      if haltsIn r (s.lane l).state = true then
        ((s.modLane l (fun x => { x with
          state := .halted, haltReason := r, spinTarget := none, spinRemaining := none, pickPulseEnd := none,
          pickDriven := false })).setFlag (.lane l .halt) true).interior
      else s.interior := by
  unfold halt
  split
  · rw [interior_raise]; rfl
  · rfl

/-! ### The cursor and the drain -/

theorem drainTest_of_not_drained {l : Fin 8} {s : State} (h : (s.lane l).drained = false) : drainTest l s = s := by
  simp [drainTest, h]

theorem drained_of_state_ne {x : Lane} (h : x.state ≠ .draining) : x.drained = false := by
  simp [Lane.drained, h]

/-- R105, R106: a cursor that waits for its images is left where it is. -/
theorem examine_of_cursorWaits {s : State} {l : Fin 8} (h : cursorWaits s l) : examine l s = s := by
  unfold examine
  split
  case isFalse => rfl
  unfold poke
  rcases h with h | ⟨u, rest, q, ho, hs, hw, hr, hj, hb, hd, hi, ht⟩
  · rw [h]; rfl
  · have ready : cursorReady s u = false := by
      simp [cursorReady, hs, sheetReady, hr, hj, hb, hd, hi, ht]
    rw [ho]
    simp [settleLoop, ho, ready]

/-- R43, R105: with a waiting cursor and a lane that has not completed its drain, examination and drain test do nothing. -/
theorem settleLane_of_cursorWaits {s : State} {l : Fin 8} (h : cursorWaits s l) (hd : (s.lane l).drained = false) :
    settleLane l s = s := by
  unfold settleLane
  rw [examine_of_cursorWaits h, drainTest_of_not_drained hd]

/-! ### Directives whose bodies form no traffic -/

/-- R184: a directive whose body leaves the queue's rest, the replies and the straps as they are is answered once, and
the interior is what its body leaves. -/
theorem runDirective_answers {row : DirectiveRow} {d : Directive} {s : State} (h : waiting row d s)
    (body : List Byte → State → Executed) {r : Result} {data : List Byte} {v : State}
    (hb : ∃ u, body d.params s.dequeued = ⟨r, data, u⟩ ∧ u.dirQueue = s.dirQueue.tail ∧
      u.portA.replies = s.portA.replies ∧ u.portB.replies = s.portB.replies ∧ u.straps = s.straps ∧
      u.interior = v.interior) :
    ∃ t, (Host.Outcome.next (runDirective row body s) : Answer) = .next t ∧ answered d r data s t ∧
      t.interior = v.interior := by
  obtain ⟨u, hu, hq, ha, hb', hs, hi⟩ := hb
  refine ⟨_, rfl, ?_⟩
  have replies : (u.port d.port).replies = (s.port d.port).replies := by
    cases d.port <;> simpa [State.port]
  have spec := runDirective_spec h body hu hq replies hs
  exact ⟨spec.1, spec.2.trans hi⟩

@[simp] theorem raise_batches (f : Flag) (s : State) : (raise f s).batches = s.batches := by
  change (raise f s).interior.batches = _
  rw [interior_raise]
  rfl

/-! ### A batch that leaves active feeding, a sheet that is dropped -/

/-- R43, R131: all that a batch leaving active feeding does, while deliveries of it are pending. -/
theorem interior_batchLeaves {s : State} {l : Fin 8} {id : Nat} {rest : List Nat} {b : Batch}
    (h : (s.lane l).batchQueue = id :: rest) (hb : s.batch? id = some b)
    (hs : b.state = .feeding ∨ b.state = .draining ∨ b.state = .aborted) (hp : 0 < b.deliveriesPending) :
    (batchLeaves l s).interior =
      (leftLane l id rest (s.lane l).drainCause (s.modLane l (fun x => { x with drainCause := .none }))).interior := by
  have unqueue : ∀ u : State, (u.lane l).batchQueue = id :: rest →
      u.modLane l (fun x => { x with batchQueue := x.batchQueue.erase id }) =
        u.modLane l (fun x => { x with batchQueue := rest }) := fun u hu =>
    State.modLane_congr u l (by simp [hu])
  unfold batchLeaves leftLane
  simp only [activeBatch_head h hb hs]
  cases (s.lane l).drainCause with
  | none => rfl
  | pause => rfl
  | feedEnd =>
    simp only
    rw [unqueue _ (by simpa [State.lane, State.modBatch, State.modLane, State.setLane] using h)]
    have ended : ∀ u : State, u.batch? id = some { b with state := .ended } → (testClosure id u).interior = u.interior :=
      fun u hu => by rw [interior_testClosure hu, if_neg (by simp; omega)]
    rw [ended, interior_raise]
    have marked := State.batch?_modBatch_same (s.modLane l (fun x => { x with drainCause := .none })) id
      (fun c => { c with state := .ended }) (fun _ => rfl)
    unfold State.batch? at marked hb ⊢
    rw [raise_batches]
    exact marked.trans (by simp [hb])
  | abort =>
    simp only
    rw [unqueue _ (by simp [h]), interior_testAbort (b := b), if_neg (by simp; omega)]
    exact hb

theorem State.modSheet_modSheet (s : State) (g : Tag) (f k : Sheet → Sheet) (hf : ∀ r, (f r).tag = r.tag) :
    (s.modSheet g f).modSheet g k = s.modSheet g (k ∘ f) := by
  simp only [State.modSheet, List.map_map]
  congr 1
  refine List.map_congr_left fun r _ => ?_
  by_cases h : r.tag = g <;> simp [Function.comp, h, hf]

/-- Updates of a sheet that is then filtered out leave nothing behind. -/
theorem filter_map_tag_ne (g : Tag) (f : Sheet → Sheet) (hf : ∀ q, (f q).tag = q.tag) (qs : List Sheet) :
    (qs.map (fun q => if q.tag = g then f q else q)).filter (fun q => decide (q.tag ≠ g)) =
      qs.filter (fun q => decide (q.tag ≠ g)) := by
  induction qs with
  | nil => rfl
  | cons q rest ih =>
    simp only [List.map_cons, List.filter_cons, ih]
    by_cases hq : q.tag = g <;> simp [hq, hf]

/-- R95, R109: all that leaving the settlement order does. -/
theorem leaveOrder_of_sheet? {s : State} {r : Sheet} {g : Tag} (l : Fin 8) (h : s.sheet? g = some r) :
    leaveOrder l g s =
      ({ s.modLane l (fun x => { x with
          settleOrder := x.settleOrder.erase g
          sampleDue := if x.gateHolder = some g then none else x.sampleDue
          acc := if x.gateHolder = some g then .empty else x.acc }) with
        free := s.free + r.reserve, reserved := s.reserved - r.reserve } : State).modSheet g
      (fun q => { q with reserve := 0, imageDeadline := none, queueWait := [] }) := by
  unfold leaveOrder returnReserve
  simp only
  rw [show ∀ f, (s.modLane l f).sheet? g = some r from fun _ => h]
  simp only
  rw [State.modSheet_modSheet]
  · rfl
  · exact fun _ => rfl

/-- R109, R111, R112, R114: all that dropping an unsettled sheet does. -/
theorem dropSheet_of_sheet? {s : State} {g : Tag} {r : Sheet} (count : Batch → Batch) (l : Fin 8)
    (h : s.sheet? g = some r) :
    dropSheet count l g s =
      (dropped l r s).modBatch r.batch (fun b => count { b with settled := addSat b.settled 1 }) := by
  have tag := State.tag_of_sheet? h
  subst tag
  have left : (leaveOrder l r.tag s).sheet? r.tag =
      some { r with reserve := 0, imageDeadline := none, queueWait := [] } := by
    rw [leaveOrder_of_sheet? l h, State.sheet?_modSheet_same]
    · exact congrArg (Option.map _) h
    · exact fun _ => rfl
  unfold dropSheet
  simp only [h]
  rw [freeRecord_of_sheet? (r := { r with reserve := 0, imageDeadline := none, queueWait := [] })
    (by unfold sendHead; split <;> (try split) <;> exact left), leaveOrder_of_sheet? l h]
  have same := filter_map_tag_ne r.tag (fun q => { q with reserve := 0, imageDeadline := none, queueWait := [] })
    (fun _ => rfl) s.sheets
  cases hi : imagesComplete s r <;> cases hl : s.lanes[l.val].linkUp <;>
    simp [dropped, sendHead, freedOf, hi, hl, State.lane, State.modSheet, State.modLane, State.setLane, State.modBatch,
      Nat.add_right_comm] <;>
    first | simpa using same | exact ⟨rfl, by simpa using same⟩

/-! ### The exit window of a path entry (R7, R14) -/

/-- R14: the window goes to the first entry of the sheet that has not exited. -/
theorem armExitWindow_append (g : Tag) (at_ : Tick) (before after : List PathEntry) (w : Option Tick)
    (h : ∀ e ∈ before, e.tag ≠ g ∨ e.exited = true) :
    armExitWindow g at_ (before ++ ⟨g, false, w⟩ :: after) = before ++ ⟨g, false, some at_⟩ :: after := by
  induction before with
  | nil => simp [armExitWindow]
  | cons e rest ih =>
    have skip : ¬ (e.tag = g ∧ e.exited = false) := by
      rcases h e (by simp) with k | k <;> simp [k]
    simp only [List.cons_append, armExitWindow, if_neg skip]
    rw [ih fun x hx => h x (by simp [hx])]

/-- R14: with no entry of the sheet left to exit, no window is armed. -/
theorem armExitWindow_eq_self (g : Tag) (at_ : Tick) (path : List PathEntry)
    (h : ∀ e ∈ path, e.tag ≠ g ∨ e.exited = true) : armExitWindow g at_ path = path := by
  induction path with
  | nil => rfl
  | cons e rest ih =>
    have skip : ¬ (e.tag = g ∧ e.exited = false) := by
      rcases h e (by simp) with k | k <;> simp [k]
    simp only [armExitWindow, if_neg skip]
    rw [ih fun x hx => h x (by simp [hx])]

/-! ### MANUAL -/

/-- A disarmed lane has no armed deadline (R65). -/
theorem Lane.disarmed_no_deadline (x : Lane) :
    (∀ v, x.disarmed.nextPick ≠ .armed v) ∧ x.disarmed.pickPulseEnd = none ∧ x.disarmed.pickWindow = none ∧
      x.disarmed.sampleDue = none ∧ x.disarmed.gateLimit = none ∧ x.disarmed.divertEnd = none ∧
      ∀ e ∈ x.disarmed.path, e.exitWindow = none := by
  refine ⟨fun v => ?_, rfl, rfl, rfl, rfl, rfl, by simp [Lane.disarmed]⟩
  cases h : x.nextPick <;> simp [Lane.disarmed, NextPick.disarmed, h]

end Sys2Proof.Machine
end

