-- ==== Sys2Proof/WellFormed.lean ====
section
/-!
DEFINITION. Well-formed commands: the checks on a command's operands that need no state.
-/

namespace Sys2Proof

open Sys2Proof.Machine

/-- The station kind of a frame that reaches the part's station interface; 0 when it is no station frame at all. -/
def stationKind (frame : List Byte) : Nat :=
  if 17 ≤ frame.length ∧ rd frame 12 2 = 0x88B5 then rd frame 14 1 else 0

/-- Whether a lane link frame is a STRIP, a PATCH or malformed (R85, R199). -/
def laneRowOf : LaneArrival → Nat
  | .strip _ _ _ _ _ => 1
  | .patch _ _ => 2
  | .malformed => 0

/-- Whether a batch id can name a batch (R128: 1 to 65535). -/
def isBatchId (id : Nat) : Bool := decide (1 ≤ id) && decide (id ≤ 65535)

/-- A well-formed command: its frame is of the kind its row names, its batch id can name a batch. -/
def Instr.wellFormed : Instr → Bool
  | .directive _ frame => decide (stationKind frame = 1) && decide (3 ≤ (stationBody frame).length)
  | .credit _ frame => decide (stationKind frame = 4) && decide (2 ≤ (stationBody frame).length)
  | .strip _ frame => decide (laneRowOf (readLaneFrame frame) = 1)
  | .patch _ frame => decide (laneRowOf (readLaneFrame frame) = 2)
  | .malformedFrame _ frame => decide (laneRowOf (readLaneFrame frame) = 0)
  | .batchClosure id => isBatchId id
  | .endOfAbort id => isBatchId id
  | .discardedStationFrame _ _ | .powerOn _ _ _ _ _ | .unknown | .laneSet | .laneStart | .lanePause | .laneResume | .laneClear
  | .laneManualEnter | .laneManualLeave | .laneRead | .linesMap _ | .linesSet _ | .linesRead | .lanePowerOff
  | .lanePowerIdle | .lanePowerSet | .lanePowerStandby | .profileLoad | .profileRead | .storeSet | .storeRead
  | .resolveAccept | .resolveReview | .resolveDiscard | .heldList | .sheetRead | .batchOpen | .batchClose
  | .batchAbort | .batchRead | .separatorLoad | .separatorRead | .routeLoad | .routeSwap | .routeRead | .destSet
  | .destEnable | .destDisable | .destRead | .portRead | .reportSet | .eventsRead | .eventsClear | .restart
  | .nextPickExpiry _ | .pickPulseEnd _ | .pickWindowExpiry _ | .sampleExpiry _ _ | .gateLimitExpiry _
  | .imageDeadlineExpiry _ | .exitWindowExpiry _ | .divertEnd _ | .endOfSpinup _ | .idleCountdownExpiry _
  | .lead _ | .trail _ | .exitLead _ | .exitTrail _ | .coverActive _ | .coverInactive _ | .trayEdge _
  | .spareEdge _ _ | .linkStateChange _ _ | .pick _ | .settlement _ | .queueWaitRetry _ | .drainCompletion _
  | .frameEnd _ | .frameBoundary _ | .pendingLostNotice | .portLinkUp _ | .portLinkDown _ => true

end Sys2Proof
end

