-- ==== Sys2Proof/Tests/Slice0.lean ====
section
/-!
SUPPORT. The row's own tests: ill-formed commands refused, examples of the manual worked out, and for every obligation
with hypotheses a concrete state and operands that meet them. Expected values come from the manual's rules and tables.
-/

namespace Sys2Proof.Tests

open Sys2Proof.Machine

-- One theorem at a time: each evaluation by the kernel would hold a thread of its own.
set_option Elab.async false

/-! ### Small states -/

/-- A batch on lane 0, QUEUED. -/
def batch7 : Batch := Batch.opened 7 0 5 2 .simplex 0 .flag 0

/-- The same batch FEEDING. -/
def feeding7 : Batch := { batch7 with state := .feeding }

/-- A lane with its timer at 1000, no input active, its link UP, and batch 7 in its queue. -/
def lane0 : Lane :=
  { Lane.powerOn 0 true with
    counter := 1000
    batchQueue := [7]
    config := { LaneConfig.powerOn with
      gap := 50, pickPulse := 20, pickWindow := 100, sampleInterval := 4, gateLimit := 300, imageWindow := 400,
      exitWindow := 500, divertPulse := 30, depth := 3, reserve := 4 } }

/-- A state with lane 0 and batch 7 as given, and one valid profile. -/
def stateOf (x : Lane) (b : Batch) : State :=
  (({ State.reset with batches := [b], portA := PortState.powerOn true } : State).setLane 0 x).modProfile 2
    (fun p => { p with
      valid := true, b0 := 800, working := 800, threshold := 400, runLength := 3, guardE := 1, nominal := 2970,
      tolerance := 50, tracking := true })

/-- Lane 0 FEEDING with batch 7, changed as given. -/
def feedingWith (f : Lane → Lane) : State := stateOf (f { lane0 with state := .feeding, nextPick := .passed }) feeding7

/-- A directive from a station on port A. -/
def dir (code : Nat) (params : List Byte) : Directive := ⟨.a, 0x021122334455, 0x1234, BitVec.ofNat 8 code, params⟩

/-- A state with one directive waiting. -/
def waits (s : State) (d : Directive) : State := { s with dirQueue := [d] }

/-- The tag of lane 0 with a sequence number. -/
def tag (q : Fin 4096) : Tag := ⟨0, q⟩

/-- A sheet of batch 7 with four blocks reserved. -/
def sheetAs (q : Fin 4096) (st : SheetState) : Sheet := Sheet.create (tag q) 7 st .empty 4

/-- A lane with a line's sensed level. -/
def sensedAs (n : Fin 8) (v : Level) (x : Lane) : Lane := x.setLine n { x.line n with sensed := v }

/-! ### Well-formed commands -/

/-- A station frame of a kind for the part with straps 0. -/
def stationTo (kind : Nat) (body : List Byte) : List Byte :=
  be 6 0x02D057000000 ++ be 6 0x021122334455 ++ be 2 0x88B5 ++ be 1 kind ++ be 2 body.length ++ body

theorem test_directive_frame_well_formed : (Instr.directive .a (stationTo 1 [0, 9, 7, 0])).wellFormed = true := by decide

theorem test_directive_frame_of_other_kind_refused : (Instr.directive .a (stationTo 4 [0, 9, 7, 0])).wellFormed = false := by
  decide

theorem test_directive_frame_too_short_refused : (Instr.directive .a (stationTo 1 [0, 9])).wellFormed = false := by decide

theorem test_credit_frame_of_other_kind_refused : (Instr.credit .b (stationTo 1 [0, 9, 7])).wellFormed = false := by decide

theorem test_credit_frame_too_short_refused : (Instr.credit .b (stationTo 4 [9])).wellFormed = false := by decide

theorem test_strip_row_with_patch_refused : (Instr.strip 0 (withCheck (be 1 2 ++ be 2 1 ++ be 4 9))).wellFormed = false := by
  decide +kernel

theorem test_patch_row_with_malformed_refused : (Instr.patch 0 [1, 2, 3]).wellFormed = false := by decide

theorem test_malformed_row_with_patch_refused :
    (Instr.malformedFrame 0 (withCheck (be 1 2 ++ be 2 1 ++ be 4 9))).wellFormed = false := by decide +kernel

theorem test_closure_of_batch_zero_refused : (Instr.batchClosure 0).wellFormed = false := by decide

theorem test_abort_end_of_batch_above_range_refused : (Instr.endOfAbort 65536).wellFormed = false := by decide

/-! ### Examples of the manual -/

/-- R37's table of bands. -/
theorem test_bands_of_R37 :
    (bandLow 1, bandHigh 1) = (1, 1) ∧ (bandLow 3, bandHigh 3) = (2, 3) ∧ (bandLow 800, bandHigh 800) = (600, 1000) ∧
      (bandLow 3300, bandHigh 3300) = (2475, 4095) ∧ (bandLow 4095, bandHigh 4095) = (3071, 4095) := by decide

/-- R20: a sample of 4095 is over at a baseline that no product reaches. -/
theorem test_overrange_is_over : sampleOver 1023 4095 4095 = true ∧ sampleOver 1023 4095 4094 = false := by decide

/-- R25: a trail on the lead's own tick gives length 0, and a result above 9999 is limited. -/
theorem test_length_limits : sheetLength 0 4096 = 0 ∧ sheetLength 9999 4096 = 9999 ∧ sheetLength 10000 4096 = 9999 := by
  decide

/-- R4: elapsed time across one wrap of the counter. -/
theorem test_elapsed_across_wrap : elapsed 1048570 4 = 10 := by decide

/-- R151: mask 56 matches the eight classes that share the value's three upper bits. -/
theorem test_mask_56 :
    let e : RouteEntry := { RouteEntry.invalid with classValue := 12, classMask := 56 }
    e.matchesClass 8 = true ∧ e.matchesClass 15 = true ∧ e.matchesClass 16 = false ∧ e.matchesClass 7 = false := by decide

/-- R163, R195: the part's own address with straps 0x2A. -/
theorem test_own_address : ownAddr 0x2A = 0x02D057002A00 := by decide

/-- R199: the check of the nine bytes "123456789" without the final bit reversal: a value known outside the manual for
this generator, input order and inversion (the reverse of 0xCBF43926). -/
theorem test_check_of_nine_bytes : crc32 [0x31, 0x32, 0x33, 0x34, 0x35, 0x36, 0x37, 0x38, 0x39] = 0x649C2FD3 := by
  decide +kernel

/-- R199: a frame whose check fails is malformed. -/
theorem test_bad_check_malformed : readLaneFrame (withCheck (be 1 2 ++ be 2 1 ++ be 4 9) ++ [0]) = .malformed := by
  decide +kernel

/-- R78: idle codes 60 and 61. -/
theorem test_idle_lengths : idleMs 60 = some 300000 ∧ idleMs 61 = some 360000 := by decide

/-- R195: the number of a destination's DISABLED_DROP notice. -/
theorem test_flag_numbers : (Flag.dest 9 .disabledDrop).number = (11, 9) ∧ (Flag.device .batchReport).number = (14, 0) := by
  decide

/-! ### Witnesses: states and operands that meet every hypothesis of an obligation -/

theorem witness_StepRunsFrontCommand : ({ State.reset with pending := [.unknown] } : State).pending = .unknown :: [] := rfl

/-- Due: a pick, a gate limit, a directive; nothing due: reset, and a spin-up at the end of a millisecond. -/
theorem witness_EmptyQueueRaisesDueEventsOrTicks :
    State.reset.pending = [] ∧ dueEvents State.reset = [] ∧ (feedingWith id).pending = [] ∧
      dueEvents (feedingWith id) = [.pick 0] ∧
      (let s := waits (feedingWith (fun x => { x with nextPick := .none, gateLimit := some 1000 })) (dir 15 [])
       (s.lane 0).gateLimit = some (s.lane 0).counter ∧ s.dirQueue.head? = some (dir 15 []) ∧
        dueEvents s = [.gateLimitExpiry 0, .storeRead] ∧ (s.sheets.map Sheet.tag).Nodup) ∧
      (let s := { stateOf { lane0 with state := .spinup, spinRemaining := some 5 } batch7 with usPhase := 999 }
       s.pending = [] ∧ dueEvents s = [] ∧ 999 ≤ s.usPhase ∧ (s.lane 0).spinRemaining = some 5) := by
  refine ⟨rfl, by decide, rfl, by decide, by decide, by decide⟩

theorem witness_StepKeepsInvariants :
    Memory.wf State.reset.dram ∧ capacitiesHold State.reset ∧ storeBalanced State.reset ∧ State.reset.sheets.length ≤ 128 ∧
      baselinesHold State.reset ∧ destsHold State.reset ∧ placesHold State.reset ∧
      step State.reset = .next (idle State.reset) := by
  refine ⟨by decide, ?_, ?_, by decide, ?_, ?_, ?_, rfl⟩
  · unfold capacitiesHold; decide
  · unfold storeBalanced; decide
  · unfold baselinesHold; decide
  · unfold destsHold; decide
  · refine ⟨by decide, fun p => ?_⟩
    cases p <;> decide

theorem witness_PowerOnStationInterfaceEmpty : State.reset.masked (.lane 3 .jam) = false := by decide

/-- A directive frame, a LANE_READ of lane 0. -/
def readFrame : List Byte := stationTo 1 (be 2 9 ++ be 1 7 ++ be 1 0)

/-- The states of the admission: with room, with the directive queue full, with the reply list full. -/
def admitState (waiting replies : Nat) : State :=
  { feedingWith id with
    dirQueue := List.replicate waiting (dir 0 [])
    portA := { PortState.powerOn true with replies := List.replicate replies (busyReply (dir 0 [])) } }

theorem witness_DirectiveAdmission :
    ((admitState 7 8).port .a).linkUp = true ∧ readStationFrame (ownAddr (admitState 7 8).straps) .a readFrame =
      .directive ⟨.a, 0x021122334455, 9, 7, [0]⟩ ∧
    replyPlaces (admitState 7 8) .a = 15 ∧ queuePlaces (admitState 7 8) = 7 ∧
    replyPlaces (admitState 8 7) .a = 15 ∧ queuePlaces (admitState 8 7) = 8 ∧ replyPlaces (admitState 8 8) .a = 16 := by
  decide

/-- A state whose port A sends, with one destination of it enabled at the address of `dir`. -/
def creditState : State :=
  ({ feedingWith id with portA := { PortState.powerOn true with tx := some (.reply []) } } : State).modDest 3
    (fun x => { x with enabled := true, addr := 0x021122334455, credit := 4000 })

theorem witness_CreditFrameRaisesCredit :
    (creditState.port .a).linkUp = true ∧ portsBusy creditState ∧
    readStationFrame (ownAddr creditState.straps) .a (stationTo 4 (be 2 4095)) = .credit 0x021122334455 4095 ∧
    (creditState.dest 3).enabled = true ∧ (creditState.dest 3).addr = 0x021122334455 ∧ (creditState.dest 3).port = .a ∧
    (∀ e : Fin 16, (creditState.dest e).enabled = true → (creditState.dest e).addr = 0x021122334455 →
      (creditState.dest e).port = .a → e = 3) ∧
    readStationFrame (ownAddr creditState.straps) .a (stationTo 4 (be 2 4096)) = .credit 0x021122334455 4096 ∧
    readStationFrame (ownAddr creditState.straps) .a (stationTo 4 (be 2 0)) = .credit 0x021122334455 0 ∧
    (stationTo 4 [1]).length = 18 ∧ (stationBody (stationTo 4 [1])).length < 2 ∧ rd (stationTo 4 [1]) 14 1 = 4 ∧
    (stationTo 4 []).tail.length < 17 := by
  refine ⟨by decide, fun p => by cases p <;> decide, by decide, by decide, by decide, by decide, by decide, by decide,
    by decide, by decide, by decide, by decide, by decide⟩

theorem witness_EveryDirectiveAnsweredOnce :
    (waits State.reset (dir 0x25 [])).dirQueue.head? = some (dir 0x25 []) ∧ (dir 0x25 []).row ≠ .restart ∧
      0x24 < (dir 0x25 []).code.toNat ∧ (dir 0 []).code = 0 ∧ (dir 0x24 [1]).row = .restart ∧
      (dir 0x24 [1]).params ≠ [] := by decide

/-- A LANE_SET for lane 0 with a new prescale and settings out of range. -/
def laneSetParams : List Byte :=
  be 1 0 ++ be 1 4 ++ be 3 0 ++ be 3 20 ++ be 3 0xFFFFFF ++ be 2 5 ++ be 3 6 ++ be 3 7 ++ be 3 8 ++ be 3 9 ++ be 1 9 ++
    be 1 8 ++ be 2 300 ++ be 2 0

theorem witness_LaneSetStoresConfiguration :
    waiting .laneSet (dir 1 laneSetParams) (waits State.reset (dir 1 laneSetParams)) ∧ names (dir 1 laneSetParams) 31 0 ∧
      Prescale.ofCode (rd (dir 1 laneSetParams).params 1 1) = some .us4 ∧
      ((waits State.reset (dir 1 laneSetParams)).lane 0).state = .off := by decide

/-- A lane with its cover open. -/
def coverOpen (x : Lane) : Lane := sensedAs 6 .high x

/-- A lane whose line `n` is SPARE. -/
def spareAt (n : Fin 8) (x : Lane) : Lane := x.setLine n { x.line n with role := .spare }

/-- Batch 7 in a state, with deliveries pending and held sheets as given. -/
def batchIn (st : BatchState) (pending held : Nat) : Batch :=
  { batch7 with state := st, deliveriesPending := pending, heldNow := held }

theorem witness_LaneStartStartsHeadBatch :
    (let s := waits (stateOf lane0 batch7) (dir 2 [0])
     waiting .laneStart (dir 2 [0]) s ∧ names (dir 2 [0]) 1 0 ∧ (s.lane 0).state = .off ∧ (s.lane 0).canFeed = true ∧
      (s.lane 0).coverCondition = false ∧ laneHeld s 0 = false ∧ (s.lane 0).batchQueue = [7] ∧
      (s.batchOf 7).action ≠ .divert) ∧
    ((stateOf { lane0 with state := .jammed } batch7).lane 0).state = .jammed ∧
    ((stateOf (spareAt 1 lane0) batch7).lane 0).canFeed = false ∧
    (((stateOf (coverOpen lane0) batch7).lane 0).canFeed = true ∧
      ((stateOf (coverOpen lane0) batch7).lane 0).coverCondition = true) ∧
    laneHeld { stateOf lane0 batch7 with held := [⟨tag 3, 7, .empty⟩] } 0 = true ∧
    ((stateOf { lane0 with batchQueue := [] } batch7).lane 0).batchQueue = [] ∧
    (let s := stateOf (spareAt 2 lane0) { batch7 with action := .divert }
     (s.lane 0).canFeed = true ∧ (s.batchOf 7).action = .divert ∧ (s.lane 0).hasRole .divert = false) := by decide

/-- R61, R76: an open cover refuses LANE_START with INTERLOCK. -/
theorem test_laneStart_interlock :
    (match exec .laneStart (waits { stateOf (coverOpen lane0) batch7 with portA := PortState.powerOn false } (dir 2 [0])) with
      | .next t => decide (t.portA.replies.map Reply.result = [.interlock])
      | _ => false) = true := by decide +kernel

/-- Lane 0 HALTED with a drain cause, its batch in a state with deliveries pending, and LANE_RESUME waiting. -/
def resuming (c : DrainCause) (st : BatchState) (f : Lane → Lane) : State :=
  waits (stateOf (f { lane0 with state := .halted, haltReason := .held, drainCause := c })
    { batch7 with state := st, deliveriesPending := 2 }) (dir 4 [0])

theorem witness_LanePauseDrainsAndResumeFeeds :
    (let s := waits (feedingWith id) (dir 3 [0])
     waiting .lanePause (dir 3 [0]) s ∧ names (dir 3 [0]) 1 0 ∧ (s.lane 0).drainCause = .none ∧
      (s.lane 0).state = .feeding ∧ (s.lane 0).batchQueue = [7] ∧ s.batch? 7 = some feeding7 ∧
      feeding7.state = .feeding ∧ (s.lane 0).nothingInProgress = true) ∧
    ((feedingWith (fun x => { x with drainCause := .feedEnd })).lane 0).drainCause ≠ .none ∧
    (let s := resuming .none .feeding id
     waiting .laneResume (dir 4 [0]) s ∧ names (dir 4 [0]) 1 0 ∧ (s.lane 0).state = .halted ∧
      (s.lane 0).canFeed = true ∧ (s.lane 0).coverCondition = false ∧ laneHeld s 0 = false ∧
      (s.lane 0).drainCause = .none) ∧
    (let s := resuming .feedEnd .draining (fun x => { x with settleOrder := [tag 0] })
     (s.lane 0).drainCause ≠ .none ∧ (s.lane 0).nothingInProgress = false) ∧
    (let s := resuming .abort .aborted id
     (s.lane 0).drainCause ≠ .none ∧ (s.lane 0).nothingInProgress = true ∧
      activeWith s 0 7 [] { batch7 with state := .aborted, deliveriesPending := 2 }) ∧
    (let s := stateOf { lane0 with state := .halted, drainCause := .feedEnd } (batchIn .draining 0 0)
     (s.lane 0).nothingInProgress = true ∧ activeWith s 0 7 [] (batchIn .draining 0 0)) ∧
    ((resuming .none .feeding (spareAt 1)).lane 0).canFeed = false ∧
    (((resuming .none .feeding coverOpen).lane 0).canFeed = true ∧
      ((resuming .none .feeding coverOpen).lane 0).coverCondition = true) ∧
    laneHeld { resuming .none .feeding id with held := [⟨tag 3, 7, .empty⟩] } 0 = true := by decide

/-- Lane 0 JAMMED with an unsettled sheet that is still in the gate, a picking sheet as given, and LANE_CLEAR waiting. -/
def clearing (c : DrainCause) (st : BatchState) (p : Option Tag) : State :=
  waits { stateOf { lane0 with
      state := .jammed, jamReason := .gate, drainCause := c, settleOrder := [tag 1], picking := p
      gateHolder := some (tag 1), path := [⟨tag 1, false, none⟩] } { batch7 with state := st, deliveriesPending := 2 } with
    sheets := [sheetAs 1 .inGate, sheetAs 2 .picking], free := 4088, reserved := 8 } (dir 5 [0])

theorem witness_LaneClearEmptiesLane :
    (let s := waits (feedingWith (fun x => { x with
       state := .jammed, jamReason := .exit, path := [⟨tag 0, true, none⟩] })) (dir 5 [0])
     waiting .laneClear (dir 5 [0]) s ∧ names (dir 5 [0]) 1 0 ∧ (s.lane 0).state = .jammed ∧
      (s.lane 0).coverCondition = false ∧ (s.lane 0).picking = none ∧ (s.lane 0).settleOrder = [] ∧
      activeWith s 0 7 [] feeding7 ∧ (s.lane 0).drainCause = .none) ∧
    (let s := stateOf { lane0 with state := .jammed } batch7
     (s.lane 0).picking = none ∧ (s.lane 0).settleOrder = [] ∧ s.activeBatch 0 = none) ∧
    (let s := clearing .abort .aborted (some (tag 2))
     waiting .laneClear (dir 5 [0]) s ∧ (s.lane 0).state = .jammed ∧ (s.lane 0).coverCondition = false ∧
      (s.lane 0).settleOrder = [tag 1] ∧ s.sheet? (tag 1) = some (sheetAs 1 .inGate) ∧
      activeWith s 0 7 [] { batch7 with state := .aborted, deliveriesPending := 2 } ∧
      (s.lane 0).picking = some (tag 2) ∧ tag 2 ≠ tag 1 ∧ s.sheet? (tag 2) = some (sheetAs 2 .picking)) ∧
    ((clearing .feedEnd .draining none).lane 0).picking = none ∧
    (let s := stateOf { lane0 with state := .halted, drainCause := .feedEnd } (batchIn .draining 0 0)
     (s.lane 0).state = .halted ∧ activeWith s 0 7 [] (batchIn .draining 0 0)) ∧
    ((stateOf (coverOpen { lane0 with state := .jammed }) batch7).lane 0).coverCondition = true ∧
    ((feedingWith id).lane 0).state ≠ .jammed := by
  refine ⟨?_, ?_, ?_, ?_, ?_, ?_, ?_⟩ <;> decide

theorem witness_LaneManualMovesBetweenOffAndManual :
    (let s := waits (stateOf { lane0 with nextPick := .armed 7, gateLimit := some 9, gateHolder := some (tag 3) } batch7)
       (dir 6 [0, 0])
     names (dir 6 [0, 0]) 2 0 ∧ waiting .laneManualEnter (dir 6 [0, 0]) s ∧ rd (dir 6 [0, 0]).params 1 1 = 0 ∧
      (s.lane 0).state = .off) ∧
    (let s := waits (stateOf { lane0 with state := .manual } batch7) (dir 6 [0, 1])
     names (dir 6 [0, 1]) 2 0 ∧ waiting .laneManualLeave (dir 6 [0, 1]) s ∧ (s.lane 0).state = .manual) := by decide

/-- R65: ENTER leaves no deadline of the lane armed. -/
theorem test_manual_has_no_deadline :
    (match exec .laneManualEnter (waits (stateOf { lane0 with nextPick := .armed 7, gateLimit := some 9 } batch7)
        (dir 6 [0, 0])) with
      | .next t => decide ((t.lane 0).nextPick = .none ∧ (t.lane 0).gateLimit = none)
      | _ => false) = true := by decide +kernel

/-- A LINES_MAP for lane 0: MOTOR and PICK exchanged, DIVERT's line SPARE, ENTRY active LOW. -/
def mapParams : List Byte := [0, 1, 0, 0, 0, 7, 0, 3, 1, 4, 0, 5, 0, 6, 0, 7, 0]

/-- The roles it names. -/
def mapRoles (n : Fin 8) : Role := #v[Role.pick, .motor, .spare, .entry, .exit, .tray, .cover, .spare][n.val]

/-- The active levels it names. -/
def mapLevels (n : Fin 8) : Level := if n = 3 then .low else .high

/-- A LINES_MAP for lane 0 that names PICK twice. -/
def twicePick : List Byte := [0, 1, 0, 1, 0, 7, 0, 3, 1, 4, 0, 5, 0, 6, 0, 7, 0]

theorem witness_LinesMapStoresMap :
    (let s := waits (stateOf (lane0.setLine 7 { lane0.line 7 with spareDirection := .output, latch := true }) batch7)
       (dir 8 mapParams)
     waiting .linesMap (dir 8 mapParams) s ∧ names (dir 8 mapParams) 17 0 ∧ (s.lane 0).state = .off ∧
      (∀ n : Fin 8, Role.ofCode (rd (dir 8 mapParams).params (1 + 2 * n.val) 1) = some (mapRoles n) ∧
        Level.ofCode (rd (dir 8 mapParams).params (2 + 2 * n.val) 1) = some (mapLevels n)) ∧
      (∀ n k : Fin 8, mapRoles n = mapRoles k → mapRoles n ≠ .spare → n = k) ∧
      mapRoles 7 = .spare ∧ ((s.lane 0).line 7).role = .spare ∧ ((s.lane 0).line 7).direction = .output ∧
      mapRoles 2 = .spare ∧ ((s.lane 0).line 2).role ≠ .spare) ∧
    ((feedingWith id).lane 0).state ≠ .off ∧
    (names (dir 8 twicePick) 17 0 ∧
      ∀ n : Fin 8, Role.ofCode (rd (dir 8 twicePick).params (1 + 2 * n.val) 1) =
          some (if n = 1 then .pick else mapRoles n) ∧
        Level.ofCode (rd (dir 8 twicePick).params (2 + 2 * n.val) 1) = some (mapLevels n)) := by decide

/-- R69: a SPARE line that keeps its role keeps its direction. -/
theorem test_linesMap_keeps_direction :
    (match exec (.linesMap 0) (waits (stateOf (lane0.setLine 7 { lane0.line 7 with spareDirection := .output }) batch7)
        (dir 8 mapParams)) with
      | .next t => decide (((t.lane 0).line 7).direction = .output ∧ ((t.lane 0).line 2).direction = .input)
      | _ => false) = true := by decide +kernel

/-- One LINES_SET for line 7: LEVEL mode, then output with a latch, then an EDGE input again. -/
def setEntries : Directive := dir 9 [0, 3, 7, 4, 0, 0, 1, 7, 3, 0, 1, 0, 7, 5, 1, 0, 0]

theorem witness_LinesSetWritesLatch :
    (let s := waits (stateOf lane0 batch7) (dir 9 [0, 1, 7, 2, 0, 1, 0])
     waiting .linesSet (dir 9 [0, 1, 7, 2, 0, 1, 0]) s ∧ names (dir 9 [0, 1, 7, 2, 0, 1, 0]) 7 0 ∧
      rd (dir 9 [0, 1, 7, 2, 0, 1, 0]).params 1 1 = 1 ∧ rd (dir 9 [0, 1, 7, 2, 0, 1, 0]).params 2 1 = 7 ∧
      rd (dir 9 [0, 1, 7, 2, 0, 1, 0]).params 3 1 = 2 ∧ rd (dir 9 [0, 1, 7, 2, 0, 1, 0]).params 5 1 = flagByte true ∧
      ((s.lane 0).line 7).role = .spare) ∧
    (let s := stateOf { lane0 with state := .manual } batch7
     ((s.lane 0).line 1).role.isDrive = true ∧ (s.lane 0).state = .manual) ∧
    (let s := stateOf lane0 batch7
     ((s.lane 0).line 1).role.isDrive = true ∧ (s.lane 0).state ≠ .manual) ∧
    (waiting .linesSet (dir 9 [8]) (waits (stateOf lane0 batch7) (dir 9 [8])) ∧ (dir 9 [8]).params.length < 2 ∧
      8 < rd (dir 9 [8, 9]).params 1 1 ∧ rd (dir 9 [8, 0]).params 1 1 = 0 ∧
      (dir 9 [8, 1, 7, 2, 0, 1]).params.length ≠ 2 + 5 * 1 ∧ (dir 9 [8, 1, 7, 2, 0, 1, 0]).params.length = 2 + 5 * 1 ∧
      7 < rd (dir 9 [8, 1, 7, 2, 0, 1, 0]).params 0 1) ∧
    (waiting .linesSet setEntries (waits (stateOf lane0 batch7) setEntries) ∧ names setEntries (2 + 5 * 3) 0 ∧
      rd setEntries.params 1 1 = 3 ∧
      ∀ i, i < 3 → rd setEntries.params (2 + 5 * i) 1 = 7 ∧ rd setEntries.params (4 + 5 * i) 1 ≤ 1 ∧
        rd setEntries.params (5 + 5 * i) 1 ≤ 1 ∧ rd setEntries.params (6 + 5 * i) 1 ≤ 1 ∧
        (((stateOf lane0 batch7).lane 0).line 7).role = .spare) := by decide

/-- R72, R197: with a lane above 7 and a length its count does not give, LINES_SET is refused with LENGTH. -/
theorem test_linesSet_length_before_lane :
    (match exec (.linesSet 0) (waits { stateOf lane0 batch7 with portA := PortState.powerOn false }
        (dir 9 [8, 1, 7, 2, 0, 1, 0, 0, 0, 0])) with
      | .next t => decide (t.portA.replies.map Reply.result = [.length])
      | _ => false) = true := by decide +kernel

/-- R72, R75: a mode change to LEVEL on an active SPARE input sets SPARE; a later entry's EDGE stands. -/
theorem test_linesSet_later_entry_stands :
    (match exec (.linesSet 0) (waits (stateOf (sensedAs 7 .high lane0) batch7) (dir 9 [0, 2, 7, 4, 0, 0, 1, 7, 4, 0, 0, 0])) with
      | .next t => decide (((t.lane 0).line 7).mode = .edge) && t.flag (.lane 0 .spare)
      | _ => false) = true := by decide +kernel

theorem witness_LanePowerSetsAndMovesLane :
    names (dir 11 [0, 2, 0x10, 0, 200]) 5 0 ∧
    waiting .lanePowerSet (dir 11 [0, 2, 0x10, 0, 200]) (waits (stateOf lane0 batch7) (dir 11 [0, 2, 0x10, 0, 200])) ∧
    names (dir 11 [0, 0, 0, 0, 0]) 5 0 ∧ rd (dir 11 [0, 0, 0, 0, 0]).params 1 1 = 0 ∧
    (let x := { lane0 with state := .idle, idleRemaining := some 20 }
     waiting .lanePowerOff (dir 11 [0, 0, 0, 0, 0]) (waits (stateOf x batch7) (dir 11 [0, 0, 0, 0, 0])) ∧
      waiting .lanePowerStandby (dir 11 [0, 3, 0, 0, 0]) (waits (stateOf x batch7) (dir 11 [0, 3, 0, 0, 0])) ∧
      ((stateOf x batch7).lane 0).state = .idle) ∧
    (waiting .lanePowerIdle (dir 11 [0, 1, 0, 0, 0]) (waits (stateOf lane0 batch7) (dir 11 [0, 1, 0, 0, 0])) ∧
      names (dir 11 [0, 1, 0, 0, 0]) 5 0 ∧ ((stateOf lane0 batch7).lane 0).state = .off ∧
      ((stateOf lane0 batch7).lane 0).hasRole .motor = true ∧ ((stateOf lane0 batch7).lane 0).coverCondition = false) ∧
    ((stateOf (spareAt 0 lane0) batch7).lane 0).hasRole .motor = false ∧
    (((stateOf (coverOpen lane0) batch7).lane 0).hasRole .motor = true ∧
      ((stateOf (coverOpen lane0) batch7).lane 0).coverCondition = true) ∧
    (let s := waits (feedingWith (fun x => { x with state := .halted, haltReason := .misfeed })) (dir 11 [0, 3, 0, 0, 0])
     waiting .lanePowerStandby (dir 11 [0, 3, 0, 0, 0]) s ∧ names (dir 11 [0, 3, 0, 0, 0]) 5 0 ∧
      (s.lane 0).state = .halted ∧ (s.lane 0).nothingInProgress = true ∧ activeWith s 0 7 [] feeding7) ∧
    activeWith (stateOf { lane0 with state := .halted, drainCause := .abort } (batchIn .aborted 0 0)) 0 7 []
      (batchIn .aborted 0 0) ∧
    ((feedingWith (fun x => { x with state := .halted, path := [⟨tag 0, true, none⟩] })).lane 0).nothingInProgress =
      false ∧
    ((feedingWith id).lane 0).state = .feeding := by decide

/-- One profile entry, with T and R below and E above their ranges. -/
def profileParams : List Byte :=
  be 1 1 ++ be 1 2 ++ be 1 1 ++ be 2 0xF001 ++ be 2 7 ++ be 2 5 ++ be 1 0 ++ be 1 200 ++ be 2 10000 ++ be 2 999 ++ be 1 9

/-- One separator entry. -/
def separatorParams : List Byte :=
  be 1 1 ++ be 1 7 ++ be 1 1 ++ be 4 0xDEADBEEF ++ be 4 0xF0F0F0F0 ++ be 1 1 ++ be 1 1

/-- PROFILE_LOADs of one, of two and of three entries that all name one index. -/
def profileLoads : List (Nat × Directive) :=
  [1, 2, 3].map (fun n => (n, dir 12 (be 1 n ++ (List.replicate n (profileParams.drop 1)).flatten)))

/-- The SEPARATOR_LOADs. -/
def separatorLoads : List (Nat × Directive) :=
  [1, 2, 3].map (fun n => (n, dir 0x17 (be 1 n ++ (List.replicate n (separatorParams.drop 1)).flatten)))

theorem witness_SharedTablesStoreSettings :
    (∀ x ∈ profileLoads,
      let s := waits (stateOf lane0 batch7) x.2
      waiting .profileLoad x.2 s ∧ rd x.2.params 0 1 = x.1 ∧ x.2.params.length = 1 + 15 * x.1 ∧
        (∀ i, i < x.1 → rd x.2.params (1 + 15 * i) 1 = 2) ∧
        ∀ b ∈ s.batches, b.profile.val = 2 → b.state ≠ .feeding ∧ b.state ≠ .draining) ∧
    (feeding7 ∈ (feedingWith id).batches ∧ feeding7.profile = 2 ∧ feeding7.state = .feeding) ∧
    15 < rd (dir 12 (be 1 1 ++ be 1 16 ++ List.replicate 14 0)).params 1 1 ∧ rd (dir 12 []).params 0 1 = 0 ∧
    16 < rd (dir 12 [17]).params 0 1 ∧ (dir 12 [16]).params.length ≠ 1 + 15 * 16 ∧
    (waiting .storeSet (dir 14 (be 2 4097)) (waits (stateOf lane0 batch7) (dir 14 (be 2 4097))) ∧
      (dir 14 (be 2 4097)).params.length = 2) ∧
    (∀ x ∈ separatorLoads,
      let s := waits (stateOf lane0 batch7) x.2
      waiting .separatorLoad x.2 s ∧ rd x.2.params 0 1 = x.1 ∧ x.2.params.length = 1 + 12 * x.1 ∧
        (∀ i, i < x.1 → rd x.2.params (1 + 12 * i) 1 = 7 ∧ rd x.2.params (11 + 12 * i) 1 = 1) ∧
        ∀ b ∈ s.batches, b.mask.getLsbD 7 = true → b.state ≠ .feeding ∧ b.state ≠ .draining) ∧
    ({ feeding7 with mask := 0x80 } : Batch).mask.getLsbD 7 = true ∧
    1 < rd (dir 0x17 (be 1 1 ++ List.replicate 10 0 ++ [2, 0])).params 11 1 := by decide

/-- R32: of two PROFILE_LOAD entries for one profile the later stands; its values in range, the reply is CLAMPED for the
earlier one. -/
theorem test_profileLoad_later_stands :
    (match exec .profileLoad (waits { stateOf lane0 batch7 with portA := PortState.powerOn false } (dir 12
        (be 1 2 ++ profileParams.drop 1 ++ be 1 2 ++ be 1 1 ++ be 2 700 ++ be 2 0 ++ be 2 300 ++ be 1 4 ++ be 1 5 ++
          be 2 2970 ++ be 2 50 ++ be 1 0))) with
      | .next t => decide ((t.profile 2).b0 = 700 ∧ (t.profile 2).runLength = 4 ∧
          t.portA.replies.map Reply.result = [.clamped])
      | _ => false) = true := by decide +kernel

theorem witness_ReadsAnswerAndChangeNothing :
    let s := { feedingWith id with sheets := [sheetAs 3 .imaging], lastReport := some ⟨{ batch7 with id := 9 }, .closed⟩ }
    (waiting .profileRead (dir 13 [2]) (waits s (dir 13 [2])) ∧ names (dir 13 [2]) 1 2) ∧
    (waiting .storeRead (dir 15 []) (waits s (dir 15 [])) ∧ (dir 15 []).params = []) ∧
    waiting .heldList (dir 0x11 []) (waits s (dir 0x11 [])) ∧
    (waiting .separatorRead (dir 0x18 [7]) (waits s (dir 0x18 [7])) ∧ names (dir 0x18 [7]) 1 7) ∧
    (waiting .batchRead (dir 0x16 [0, 7]) (waits s (dir 0x16 [0, 7])) ∧ (dir 0x16 [0, 7]).params.length = 2 ∧
      rd (dir 0x16 [0, 7]).params 0 2 = 7 ∧ s.batch? 7 = some feeding7) ∧
    (waiting .batchRead (dir 0x16 [0, 9]) (waits s (dir 0x16 [0, 9])) ∧ rd (dir 0x16 [0, 9]).params 0 2 = 9 ∧
      s.batch? 9 = none ∧ s.lastReport = some ⟨{ batch7 with id := 9 }, .closed⟩) ∧
    (waiting .laneRead (dir 7 [0]) (waits s (dir 7 [0])) ∧ names (dir 7 [0]) 1 0) ∧
    waiting .linesRead (dir 10 [0]) (waits s (dir 10 [0])) ∧
    (waiting .sheetRead (dir 0x12 [0, 3]) (waits s (dir 0x12 [0, 3])) ∧ (dir 0x12 [0, 3]).params.length = 2 ∧
      rd (dir 0x12 [0, 3]).params 0 2 = tagCode (tag 3) ∧ s.sheet? (tag 3) = some (sheetAs 3 .imaging)) ∧
    (waiting .routeRead (dir 0x1B [1, 48, 16]) (waits s (dir 0x1B [1, 48, 16])) ∧
      names (dir 0x1B [1, 48, 16]) 3 (Bank.code .b1) ∧ rd (dir 0x1B [1, 48, 16]).params 1 1 = 48 ∧
      rd (dir 0x1B [1, 48, 16]).params 2 1 = 16) ∧
    (waiting .destRead (dir 0x1F [15]) (waits s (dir 0x1F [15])) ∧ names (dir 0x1F [15]) 1 15) ∧
    (waiting .portRead (dir 0x20 [1]) (waits s (dir 0x20 [1])) ∧ names (dir 0x20 [1]) 1 (portCode .b)) ∧
    waiting .eventsRead (dir 0x22 []) (waits s (dir 0x22 [])) := by decide

/-! ### Witnesses: sheets and batches -/

/-- A state with destinations 3 and 5 enabled, and route entry 0 to both for every kind. -/
def routed (s : State) : State :=
  (({ s with bank0 := (Vector.replicate 64 RouteEntry.invalid).set 0 ⟨true, 5, 63, true, true, true, true, true, [3, 5]⟩ } :
    State).modDest 3 (fun x => { x with enabled := true, warn := 1 })).modDest 5
    (fun x => { x with enabled := true, addr := 9, credit := 3, priority := 1 })

/-- A held sheet of batch 7 with two front blocks. -/
def heldSheet : Sheet :=
  { sheetAs 3 .held with
    findings := { Findings.empty with incomplete := true }, front := [0, 1], reserve := 0, outcome := some .held,
    document := some 1, page := some 2, lead := some 5 }

/-- Batch 7 with that sheet held, in a state. -/
def holding7 (st : BatchState) : Batch := { batch7 with state := st, heldNow := 1, holds := 1, settled := 1 }

/-- The list's entry for it. -/
def heldEntry : HeldEntry := ⟨tag 3, 7, heldSheet.findings⟩

/-- A state with that sheet held, and one RESOLVE waiting. -/
def heldState (r : Sheet) (b : Batch) (d : Directive) : State :=
  waits (routed { stateOf { lane0 with state := .idle } b with
    sheets := [r], held := [heldEntry], free := 4094, allocated := 2
    directory := [⟨0, tag 3, 256⟩, ⟨1, tag 3, 300⟩] }) d

/-- The delivery entries of the held sheet. -/
def heldDeliveries (kind : Kind) : List (Fin 16 × DeliveryEntry) :=
  [(3, ⟨tag 3, true, false, 2, kind⟩), (5, ⟨tag 3, true, false, 2, kind⟩)]

theorem witness_ResolveReleasesHeldSheet :
    (let s := heldState heldSheet (holding7 .ended) (dir 0x10 [0, 3, 0])
     (dir 0x10 [0, 3, 0]).params.length = 3 ∧ rd (dir 0x10 [0, 3, 0]).params 0 2 = tagCode heldEntry.tag ∧
      s.held.find? (fun h => decide (h.tag = heldEntry.tag)) = some heldEntry ∧ s.sheet? heldEntry.tag = some heldSheet ∧
      heldEntry.batch = heldSheet.batch ∧ s.batch? heldSheet.batch = some (holding7 .ended) ∧
      deliveryEntries s heldSheet .ordinary = some (heldDeliveries .ordinary) ∧ heldDeliveries .ordinary ≠ [] ∧
      fullDests s (heldDeliveries .ordinary) = [] ∧ waiting .resolveAccept (dir 0x10 [0, 3, 0]) s ∧
      rd (dir 0x10 [0, 3, 0]).params 2 1 = 0 ∧ separatorMatch s heldSheet = none) ∧
    (let s := heldState heldSheet (holding7 .queued) (dir 0x10 [0, 3, 1])
     deliveryEntries s heldSheet .suspect = some (heldDeliveries .suspect) ∧
      fullDests s (heldDeliveries .suspect) = [] ∧ waiting .resolveReview (dir 0x10 [0, 3, 1]) s ∧
      rd (dir 0x10 [0, 3, 1]).params 2 1 = 1) ∧
    (let r := { heldSheet with patch := some 0x1F }
     let s := { heldState r { holding7 .queued with mask := 4 } (dir 0x10 [0, 3, 0]) with
      separators := (Vector.replicate 8 Separator.powerOn).set 2 ⟨true, 0x10, 0xF0, .docBreak, true⟩ }
     separatorMatch s r = some 2 ∧ (s.separators[2]).keep = true ∧
      deliveryEntries s r .separator = some (heldDeliveries .separator) ∧
      fullDests s (heldDeliveries .separator) = []) ∧
    (let r := { heldSheet with front := [] }
     let s := heldState r (holding7 .ended) (dir 0x10 [0, 3, 0])
     s.sheet? heldEntry.tag = some r ∧ deliveryEntries s r .ordinary = some [] ∧ fullDests s [] = [] ∧
      separatorMatch s r = none ∧ (holding7 .ended).state = .ended ∧ (holding7 .ended).heldNow ≤ 1 ∧
      (holding7 .ended).deliveriesPending = 0 ∧ deliveryEntries s r .suspect = some []) := by decide +kernel

theorem witness_ResolveDiscardFreesHeldSheet :
    (let s := heldState heldSheet (holding7 .queued) (dir 0x10 [0, 3, 2])
     waiting .resolveDiscard (dir 0x10 [0, 3, 2]) s ∧ rd (dir 0x10 [0, 3, 2]).params 2 1 = 2 ∧
      s.held.find? (fun h => decide (h.tag = heldEntry.tag)) = some heldEntry ∧ s.sheet? heldEntry.tag = some heldSheet ∧
      s.batch? heldEntry.batch = some (holding7 .queued)) ∧
    (let s := heldState heldSheet (holding7 .ended) (dir 0x10 [0, 3, 2])
     waiting .resolveDiscard (dir 0x10 [0, 3, 2]) s ∧ s.batch? heldEntry.batch = some (holding7 .ended) ∧
      (holding7 .ended).state = .ended ∧ (holding7 .ended).heldNow ≤ 1 ∧ (holding7 .ended).deliveriesPending = 0) ∧
    (({ holding7 .ended with deliveriesPending := 1 } : Batch).state = .ended ∧
      0 < ({ holding7 .ended with deliveriesPending := 1 } : Batch).deliveriesPending) := by decide +kernel

/-- A BATCH_OPEN for batch 9 on lane 0. -/
def openParams : List Byte :=
  be 2 9 ++ be 1 0 ++ be 1 63 ++ be 1 2 ++ be 1 1 ++ be 2 100 ++ be 1 2 ++ be 1 0xFF

theorem witness_BatchOpenQueuesBatch :
    let s := waits (feedingWith id) (dir 0x13 openParams)
    waiting .batchOpen (dir 0x13 openParams) s ∧ (dir 0x13 openParams).params.length = 10 ∧
      rd (dir 0x13 openParams).params 0 2 = 9 ∧ rd (dir 0x13 openParams).params 2 1 = 0 ∧
      rd (dir 0x13 openParams).params 3 1 = 63 ∧ rd (dir 0x13 openParams).params 4 1 = 2 ∧
      Sides.ofCode (rd (dir 0x13 openParams).params 5 1) = some .duplex ∧
      Action.ofCode (rd (dir 0x13 openParams).params 8 1) = some .flag ∧ s.batch? 9 = none ∧
      (s.profile 2).valid = true ∧ s.batches.length < 16 ∧ (s.lane 0).batchQueue.length < 4 := by decide

theorem witness_BatchEndHandsReportOver :
    (let s := heldState heldSheet (holding7 .ended) (dir 0x14 [0, 7, 1])
     s.batch? 7 = some (holding7 .ended) ∧ (holding7 .ended).deliveriesPending = 0 ∧
      waiting .batchClose (dir 0x14 [0, 7, 1]) s ∧ rd (dir 0x14 [0, 7, 1]).params 0 2 = 7 ∧
      rdFlag (dir 0x14 [0, 7, 1]).params 2 = true ∧ (holding7 .ended).heldNow = 1 ∧
      s.held.filter (fun h => decide (h.batch = 7)) = [heldEntry] ∧ s.sheet? heldEntry.tag = some heldSheet) ∧
    (waiting .batchClose (dir 0x14 [0, 7, 0]) (heldState heldSheet (holding7 .ended) (dir 0x14 [0, 7, 0])) ∧
      rdFlag (dir 0x14 [0, 7, 0]).params 2 = false) ∧
    (let s := stateOf { lane0 with batchQueue := [] } { batch7 with state := .ended }
     s.batch? 7 = some { batch7 with state := .ended } ∧ ({ batch7 with state := .ended } : Batch).heldNow = 0) ∧
    (let s := stateOf { lane0 with batchQueue := [] } { batch7 with state := .aborted }
     s.batch? 7 = some { batch7 with state := .aborted } ∧ 7 ∉ (s.lane 0).batchQueue) := by decide +kernel

/-- Lane 0 FEEDING with an unsettled sheet in its path and one picking, and BATCH_ABORT waiting. -/
def abortingActive : State :=
  waits { feedingWith (fun x => { x with
      path := [⟨tag 1, false, none⟩], settleOrder := [tag 1], picking := some (tag 2) }) with
    sheets := [sheetAs 1 .imaging, sheetAs 2 .picking], free := 4088, reserved := 8 } (dir 0x15 [0, 7])

/-- Lane 0 in a state, its batch DRAINING, a path as given, and BATCH_ABORT waiting. -/
def abortingIn (st : LaneState) (path : List PathEntry) : State :=
  waits (stateOf { lane0 with state := st, haltReason := .held, path := path, drainCause := .feedEnd }
    { batch7 with state := .draining }) (dir 0x15 [0, 7])

theorem witness_BatchAbortAbortsBatch :
    (let s := waits (stateOf lane0 batch7) (dir 0x15 [0, 7])
     waiting .batchAbort (dir 0x15 [0, 7]) s ∧ (dir 0x15 [0, 7]).params.length = 2 ∧
      rd (dir 0x15 [0, 7]).params 0 2 = 7 ∧ s.batch? 7 = some batch7 ∧ (∀ h ∈ s.held, h.batch ≠ 7) ∧
      (∀ x : Fin 16, ∀ y ∈ (s.dest x).queue, entryBatch s y ≠ some 7) ∧ batch7.state = .queued ∧
      batch7.deliveriesPending = 0 ∧ (s.lane batch7.lane).batchQueue.Nodup) ∧
    (let s := heldState heldSheet (holding7 .ended) (dir 0x15 [0, 7])
     waiting .batchAbort (dir 0x15 [0, 7]) s ∧ (holding7 .ended).deliveriesPending = 0 ∧
      (∀ x : Fin 16, ∀ y ∈ (s.dest x).queue, entryBatch s y ≠ some 7) ∧
      s.held.filter (fun h => decide (h.batch = 7)) = [heldEntry] ∧ s.sheet? heldEntry.tag = some heldSheet) ∧
    (let s := waits (feedingWith (fun x => { x with path := [⟨tag 0, false, none⟩] })) (dir 0x15 [0, 7])
     waiting .batchAbort (dir 0x15 [0, 7]) s ∧ s.batch? 7 = some feeding7 ∧
      (∀ x : Fin 16, ∀ y ∈ (s.dest x).queue, entryBatch s y ≠ some 7) ∧ feeding7.state = .feeding ∧
      (s.lane feeding7.lane).state = .feeding ∧ (s.lane feeding7.lane).picking = none ∧
      (s.lane feeding7.lane).settleOrder = [] ∧ (s.lane feeding7.lane).path ≠ [] ∧
      (s.lane feeding7.lane).batchQueue.head? = some 7) ∧
    (let s := abortingActive
     s.batch? 7 = some feeding7 ∧ (s.lane 0).picking = some (tag 2) ∧ s.sheet? (tag 2) = some (sheetAs 2 .picking) ∧
      tag 2 ≠ tag 1 ∧ (s.lane 0).settleOrder = [tag 1] ∧ s.sheet? (tag 1) = some (sheetAs 1 .imaging) ∧
      (s.lane 0).path ≠ [] ∧ (s.lane 0).batchQueue.head? = some 7) := by decide +kernel

/-- The abort of the active batch of a lane in the other states of R136, with paper in its path and with nothing in it. -/
theorem witness_BatchAbortAbortsBatch_active :
    (∀ st ∈ [LaneState.spinup, .draining, .halted, .jammed],
      let s := abortingIn st [⟨tag 0, true, none⟩]
      waiting .batchAbort (dir 0x15 [0, 7]) s ∧ s.batch? 7 = some { batch7 with state := .draining } ∧
        (s.lane 0).state = st ∧ (st.attributing = true ∨ st = .jammed) ∧ (s.lane 0).picking = none ∧
        (s.lane 0).settleOrder = [] ∧ (s.lane 0).path ≠ [] ∧ (s.lane 0).batchQueue.head? = some 7) ∧
    (let s := abortingIn .halted []
     s.batch? 7 = some { batch7 with state := .draining } ∧ (s.lane 0).state.attributing = true ∧
      (s.lane 0).picking = none ∧ (s.lane 0).path = [] ∧ (s.lane 0).settleOrder = [] ∧ (s.lane 0).batchQueue = 7 :: [] ∧
      7 ∉ ([] : List Nat)) := by decide +kernel

/-- Lane 0 DRAINING with nothing in it, batch 7 in a state with deliveries pending. -/
def drained (c : DrainCause) (st : BatchState) : State :=
  stateOf { lane0 with state := .draining, drainCause := c } { batch7 with state := st, deliveriesPending := 2 }

theorem witness_DrainCompletionMovesBatch :
    (let s := drained .pause .draining
     (s.lane 0).state = .draining ∧ (s.lane 0).picking = none ∧ (s.lane 0).path = [] ∧ (s.lane 0).settleOrder = [] ∧
      (s.lane 0).batchQueue = [7] ∧ s.batch? 7 = some { batch7 with state := .draining, deliveriesPending := 2 } ∧
      (s.lane 0).drainCause = .pause) ∧
    ((drained .feedEnd .draining).lane 0).drainCause = .feedEnd ∧
    (((drained .abort .aborted).lane 0).drainCause = .abort ∧
      (drained .abort .aborted).batch? 7 = some { batch7 with state := .aborted, deliveriesPending := 2 } ∧
      batch7.lane = 0) ∧
    (∀ x ∈ [(DrainCause.feedEnd, batchIn .draining 0 0), (.feedEnd, batchIn .draining 0 1), (.abort, batchIn .aborted 0 0)],
      let s := stateOf { lane0 with state := .draining, drainCause := x.1 } x.2
      (s.lane 0).state = .draining ∧ (s.lane 0).drainCause = x.1 ∧ s.batch? 7 = some x.2 ∧
        (s.lane 0).batchQueue = 7 :: [] ∧ 7 ∉ ([] : List Nat)) := by decide

/-- R132: a batch whose feeding has ended closes at the completed drain when nothing of it is held or pending. -/
theorem test_drain_closes_batch :
    (match exec (.drainCompletion 0) (stateOf { lane0 with state := .draining, drainCause := .feedEnd }
        (batchIn .draining 0 0)) with
      | .next t => decide (t.batches = [] ∧ t.lastReport.map Report.final = some .closed)
      | _ => false) = true := by decide +kernel

/-! ### Witnesses: routes, destinations, events -/

/-- A ROUTE_LOAD of one entry: valid flag and index as given, two destinations. -/
def routeParams (v i : Nat) : List Byte :=
  be 1 1 ++ be 1 i ++ be 1 v ++ be 1 0xFF ++ be 1 0xF0 ++ be 1 3 ++ be 1 5 ++ be 1 2 ++ be 1 15 ++ be 1 0 ++ be 1 99

/-- A ROUTE_LOAD of three entries: a good one, one at index 64, 6 or 7 with a count and slots as given, and a good one. -/
def routeList (i n a b : Nat) : Directive :=
  dir 0x19 (be 1 3 ++ (be 1 3 ++ be 1 1 ++ be 4 0 ++ be 1 3 ++ be 1 0 ++ be 1 15 ++ be 1 7) ++
    (be 1 i ++ be 1 1 ++ be 4 0 ++ be 1 n ++ be 1 a ++ be 1 b ++ be 1 0) ++ be 10 0)

theorem witness_RouteLoadAndSwap :
    (let d := dir 0x19 (routeParams 1 63)
     waiting .routeLoad d (waits State.reset d) ∧ names d 11 1 ∧ rd d.params 1 1 = 63 ∧ rdFlag d.params 2 = true ∧
      rd d.params 7 1 = [(15 : Fin 16), 0].length ∧ [(15 : Fin 16), 0].Nodup ∧ rd d.params 8 1 = 15 ∧
      rd d.params 9 1 = 0) ∧
    rdFlag (dir 0x19 (routeParams 0 63)).params 2 = false ∧ rd (dir 0x19 (routeParams 1 64)).params 1 1 = 64 ∧
    (let d := routeList 6 2 1 9
     waiting .routeLoad d (waits State.reset d) ∧ rd d.params 0 1 = 3 ∧ d.params.length = 1 + 10 * 3 ∧
      (∀ i, i < 2 → rd d.params (1 + 10 * i) 1 ≤ 63 ∧ 1 ≤ rd d.params (7 + 10 * i) 1 ∧ rd d.params (7 + 10 * i) 1 ≤ 3 ∧
        ∀ k, k < rd d.params (7 + 10 * i) 1 → rd d.params (8 + 10 * i + k) 1 ≤ 15) ∧
      rdFlag d.params 22 = false ∧ rd d.params 21 1 = 0) ∧
    (63 < rd (routeList 64 1 0 0).params 11 1 ∧ rd (routeList 6 0 0 0).params 17 1 = 0 ∧
      3 < rd (routeList 6 4 0 0).params 17 1 ∧ 15 < rd (routeList 6 2 16 16).params 18 1 ∧
      rd (routeList 6 2 4 4).params 18 1 = rd (routeList 6 2 4 4).params 19 1) ∧
    (waiting .routeSwap (dir 0x1A []) (waits State.reset (dir 0x1A [])) ∧ (dir 0x1A []).params = []) := by decide

/-- R156: the second load entry is bad, each time for another reason; one is stored, and the reason is reported. -/
theorem test_routeLoad_reasons :
    ([routeList 64 0 0 0, routeList 6 0 0 0, routeList 6 4 0 0, routeList 6 2 16 16, routeList 6 2 4 4].map
      (fun (d : Directive) => match exec .routeLoad (waits State.reset d) with
        | .next t => t.portA.replies.map (fun (r : Reply) => (r.result, r.data))
        | _ => [])) =
    [[(.partialDone, [1, 1])], [(.partialDone, [1, 2])], [(.partialDone, [1, 3])], [(.partialDone, [1, 4])],
      [(.partialDone, [1, 5])]] := by decide +kernel

/-- A sheet with front strips and a patch word, of a batch that pattern 2 is in the mask of, after a pattern 1 that is not. -/
def patternState : State :=
  { routed (feedingWith id) with
    batches := [{ feeding7 with mask := 4 }]
    separators := (Vector.replicate 8 Separator.powerOn).set 1 ⟨true, 0, 0, .docBreak, false⟩ |>.set 2
      ⟨true, 0x1F, 0xFF, .docBreak, true⟩ }

theorem witness_LookupTakesFirstFit :
    (let e : RouteEntry := ⟨true, 5, 63, true, true, true, true, true, [3, 5]⟩
     (routed State.reset).activeBank = .b0 ∧ (routed State.reset).bank0[0] = e ∧ e.valid = true ∧
      (∀ k : Fin 6, e.classMask.getLsbD k.val = true → (5 : BitVec 6).getLsbD k.val = e.classValue.getLsbD k.val) ∧
      e.back = true ∧ e.suspect = true ∧ lookup (routed State.reset) 5 .back .suspect = [3, 5] ∧
      lookup (routed State.reset) 4 .back .suspect = []) ∧
    (let r := { sheetAs 1 .imaging with front := [0, 1] }
     lookup (routed (feedingWith id)) ((routed (feedingWith id)).batchOf r.batch).routeClass .front .ordinary ≠ [] ∧
      r.back = [] ∧ r.front ≠ [] ∧
      lookup (feedingWith id) ((feedingWith id).batchOf r.batch).routeClass .front .ordinary = []) ∧
    (let r := { sheetAs 1 .imaging with patch := some 0xABCD001F }
     r.findings.measurement = false ∧ r.patch = some 0xABCD001F ∧
      (patternState.batchOf r.batch).mask.getLsbD 1 = false ∧ (patternState.batchOf r.batch).mask.getLsbD 2 = true ∧
      (patternState.separators[2]).valid = true ∧
      (∀ k : Fin 32, (patternState.separators[2]).mask.getLsbD k.val = true →
        (0xABCD001F : BitVec 32).getLsbD k.val = (patternState.separators[2]).value.getLsbD k.val) ∧
      separatorMatch patternState r = some 2 ∧ separatorMatch patternState { r with patch := some 0xABCD011E } = none ∧
      (sheetAs 1 .imaging).patch = none) := by decide +kernel

/-- A DEST_SET of destination 15 with a warning level above its range. -/
def destParams : List Byte := be 1 15 ++ be 6 0x001122334455 ++ be 1 1 ++ be 1 3 ++ be 1 49

theorem witness_DestSetAndEnable :
    (let d := dir 0x1C destParams
     let s := waits (routed State.reset) d
     (s.dest 15).enabled = false ∧ (s.dest 15).closing = false ∧ waiting .destSet d s ∧ names d 10 15 ∧
      groupBit (BitVec.ofNat 48 (rd d.params 1 6)) = false ∧ portOfCode (rd d.params 7 1) = some .b ∧
      rd d.params 8 1 = 3) ∧
    (let d := dir 0x1D [15]
     let s := waits State.reset d
     waiting .destEnable d s ∧ names d 1 15 ∧ (s.dest 15).queue = [] ∧ (s.dest 15).closing = false ∧
      ∀ y : Fin 16, (s.dest y).enabled = false) ∧
    (let d := dir 0x1D [15]
     let s := waits (routed State.reset) d
     (s.dest 3).enabled = true ∧ (s.dest 3).addr = (s.dest 15).addr ∧ (s.dest 3).port = (s.dest 15).port) := by decide

/-- A released sheet with one front block and deliveries pending. -/
def releasedSheet (q : Fin 4096) : Sheet :=
  { sheetAs q .released with front := [0, 1], reserve := 0, pendingDests := 2, lead := some 5 }

/-- The delivery entry of such a sheet. -/
def entryOf (q : Fin 4096) : DeliveryEntry := ⟨tag q, true, false, 2, .ordinary⟩

/-- Batch 7 QUEUED with deliveries pending. -/
def pending7 : Batch := { batch7 with deliveriesPending := 3 }

/-- Three entries queued at destination 3, the head in delivery with a progress, port A as changed. -/
def delivering (k : Nat) (f : PortState → PortState) : State :=
  { (routed { stateOf { lane0 with state := .idle } pending7 with
      sheets := [releasedSheet 1, releasedSheet 2, releasedSheet 3], allocated := 6, free := 4090
      directory := [⟨0, tag 1, 300⟩, ⟨1, tag 1, 300⟩] }).modDest 3
      (fun x => { x with queue := [entryOf 1, entryOf 2, entryOf 3], credit := 9, priority := 1 }) with
    portA := f { PortState.powerOn true with tx := some (.archive []), current := some ⟨3, entryOf 1, k⟩ } }

theorem witness_DestDisableEmptiesQueue :
    (let s := waits (delivering 0 id) (dir 0x1E [3])
     waiting .destDisable (dir 0x1E [3]) s ∧ names (dir 0x1E [3]) 1 3 ∧ (s.dest 3).enabled = true ∧
      isOf 3 (s.port (s.dest 3).port).current = true ∧ (s.port (s.dest 3).port).tx = some (.archive []) ∧
      (s.dest 3).queue.drop 1 = [entryOf 2, entryOf 3] ∧ (∀ l : Fin 8, waitsOn s [3] l = false) ∧
      s.sheet? (entryOf 2).sheet = some (releasedSheet 2) ∧ s.sheet? (entryOf 3).sheet = some (releasedSheet 3) ∧
      entriesOf (tag 2) [entryOf 2, entryOf 3] ≤ (releasedSheet 2).pendingDests ∧
      entriesOf (tag 3) [entryOf 2, entryOf 3] ≤ (releasedSheet 3).pendingDests ∧ s.batch? 7 = some pending7) ∧
    (let s := waits (delivering 0 (fun q => { q with current := none })) (dir 0x1E [3])
     isOf 3 (s.port (s.dest 3).port).current = false ∧ (s.dest 3).queue ≠ []) ∧
    (let s := waits (delivering 0 (fun q => { q with tx := some (.reply [1]) })) (dir 0x1E [3])
     isOf 3 (s.port .a).current = true ∧ (s.port .a).tx = some (.reply [1]) ∧ (s.port .a).tx.isSome = true ∧
      (s.port .b).linkUp = false) ∧
    (let s := waits (delivering 0 (fun q => { q with
       current := some ⟨5, entryOf 2, 0⟩, suspended := some ⟨3, entryOf 1, 1⟩ })) (dir 0x1E [3])
     isOf 3 (s.port .a).current = false ∧ isOf 3 (s.port .a).suspended = true ∧ (s.port .a).tx.isSome = true) := by
  decide +kernel

/-- The abort of batch 7, QUEUED, with all its entries in destination 3's queue, none in delivery, then the head current,
then the head suspended. -/
theorem witness_BatchAbortAbortsBatch_queued :
    (let s := waits (delivering 0 (fun q => { q with current := none })) (dir 0x15 [0, 7])
     waiting .batchAbort (dir 0x15 [0, 7]) s ∧ s.batch? 7 = some pending7 ∧ pending7.state = .queued ∧
      (∀ y : Fin 16, y ≠ 3 → ∀ e ∈ (s.dest y).queue, entryBatch s e ≠ some 7) ∧
      isOf 3 (s.port (s.dest 3).port).current = false ∧ isOf 3 (s.port (s.dest 3).port).suspended = false ∧
      (∀ l : Fin 8, cursorWait s l = []) ∧
      (s.dest 3).queue.filter (fun e => decide (entryBatch s e = some 7)) = [entryOf 1, entryOf 2, entryOf 3] ∧
      (∀ e ∈ [entryOf 1, entryOf 2, entryOf 3], (s.sheet? e.sheet).any (fun r =>
        decide (entriesOf e.sheet [entryOf 1, entryOf 2, entryOf 3] ≤ r.pendingDests)) = true) ∧
      [entryOf 1, entryOf 2, entryOf 3].length = pending7.deliveriesPending) ∧
    (∀ s ∈ [delivering 0 id, delivering 0 (fun q => { q with current := none, suspended := some ⟨3, entryOf 1, 1⟩ })],
      (isOf 3 (s.port (s.dest 3).port).current = true ∨ isOf 3 (s.port (s.dest 3).port).suspended = true) ∧
      ((s.dest 3).queue.drop 1).filter (fun e => decide (entryBatch s e = some 7)) = [entryOf 2, entryOf 3] ∧
      (∀ e ∈ [entryOf 2, entryOf 3], (s.sheet? e.sheet).any (fun r =>
        decide (entriesOf e.sheet [entryOf 2, entryOf 3] ≤ r.pendingDests)) = true) ∧
      [entryOf 2, entryOf 3].length < pending7.deliveriesPending) := by decide +kernel

/-- An append that takes destination 3, with warning level 1, to it. -/
theorem witness_WarnSetAtLevel :
    let s := routed State.reset
    (s.dest 3).warn = 1 ∧ (s.dest 3).queue.length = (s.dest 3).warn - 1 ∧ s.flag (.dest 3 .warn) = false ∧
      (appendEntry s (3, entryOf 1)).flag (.dest 3 .warn) = true := by decide +kernel

/-- A REPORT_SET naming port B. -/
def reportParams : List Byte := List.replicate 33 0x11 ++ be 6 0x001122334455 ++ be 1 1

theorem witness_ReportSetAndEventsClear :
    (let d := dir 0x21 reportParams
     waiting .reportSet d (waits State.reset d) ∧ d.params.length = 40 ∧ portOfCode (rd d.params 39 1) = some .b ∧
      groupBit (BitVec.ofNat 48 (rd d.params 33 6)) = false) ∧
    (let d := dir 0x23 (List.replicate 33 0xFF)
     let s := waits { State.reset with flags := Vector.replicate 115 true } d
     waiting .eventsClear d s ∧ d.params.length = 33 ∧ s.flag noticeLostFlag = true ∧
      (rdFlagSet d.params 0)[noticeLostFlag.index.val] = true) := by decide +kernel

theorem witness_RestartResetsPart :
    let s := waits (delivering 0 id) (dir 0x24 [])
    waiting .restart (dir 0x24 []) s ∧ (dir 0x24 []).params = [] := by decide +kernel

/-! ### Witnesses: deadlines, picks and edges -/

theorem witness_LaneDeadlinesExpire :
    ((feedingWith (fun x => { x with nextPick := .armed 1000 })).lane 0).nextPick =
      .armed ((feedingWith (fun x => { x with nextPick := .armed 1000 })).lane 0).counter ∧
    ((feedingWith (fun x => { x with pickPulseEnd := some 1000 })).lane 0).pickPulseEnd =
      some ((feedingWith (fun x => { x with pickPulseEnd := some 1000 })).lane 0).counter ∧
    ((feedingWith (fun x => { x with divertEnd := some 1000 })).lane 0).divertEnd =
      some ((feedingWith (fun x => { x with divertEnd := some 1000 })).lane 0).counter ∧
    (let s := feedingWith (fun x => { x with state := .spinup, spinTarget := some .feeding, spinRemaining := some 0 })
     (s.lane 0).state = .spinup ∧ (s.lane 0).spinRemaining = some 0 ∧ (s.lane 0).spinTarget = some .feeding) ∧
    (let s := stateOf { lane0 with state := .spinup, spinTarget := some .idle, spinRemaining := some 0 } batch7
     (s.lane 0).state = .spinup ∧ (s.lane 0).spinRemaining = some 0 ∧ (s.lane 0).spinTarget = some .idle) ∧
    (let s := feedingWith (fun x => { x with
      sampleDue := some 1000, acc := { openAccumulator (tag 1) 2 Profile.powerOn with m := 4094 } })
     (s.lane 0).sampleDue = some (s.lane 0).counter ∧ (s.lane 0).acc.m + 1 = 4095) ∧
    (let s := stateOf { lane0 with state := .idle, idleRemaining := some 0 } batch7
     (s.lane 0).state = .idle ∧ (s.lane 0).idleRemaining = some 0) := by decide

/-- A picking sheet on lane 0 whose window has passed, the expected count and the lane as given. -/
def windowPassed (expected : Nat) (f : Lane → Lane) : State :=
  { feedingWith (fun x => f { x with picking := some (tag 1), pickWindow := some 1000 }) with
    batches := [{ feeding7 with expected := expected }], sheets := [sheetAs 1 .picking], free := 4092, reserved := 4 }

theorem witness_PickWindowDecidesPick :
    (let s := windowPassed 4 (sensedAs 5 .high)
     (s.lane 0).pickWindow = some (s.lane 0).counter ∧ (s.lane 0).picking = some (tag 1) ∧
      s.sheet? (tag 1) = some (sheetAs 1 .picking) ∧ s.activeBatch 0 = some 7 ∧ (s.lane 0).state = .feeding ∧
      (s.lane 0).trayEmpty = true ∧ (s.batchOf 7).expected ≠ 0) ∧
    (let s := windowPassed 0 (sensedAs 5 .high)
     (s.lane 0).trayEmpty = true ∧ (s.batchOf 7).expected = 0 ∧ (s.lane 0).path = [] ∧ (s.lane 0).settleOrder = [] ∧
      (s.lane 0).drainCause ≠ .abort ∧ activeWith s 0 7 [] { feeding7 with expected := 0 }) ∧
    ((windowPassed 0 (fun x => { sensedAs 5 .high x with settleOrder := [tag 0] })).lane 0).settleOrder ≠ [] ∧
    (let s := windowPassed 0 id
     (s.lane 0).trayEmpty = false ∧ (sheetAs 1 .picking).retries < (s.lane 0).config.retryLimit) ∧
    (let s := windowPassed 0 (fun x => { x with config := { x.config with retryLimit := 0 } })
     (s.lane 0).trayEmpty = false ∧ (s.lane 0).config.retryLimit ≤ (sheetAs 1 .picking).retries) ∧
    (let s := windowPassed 0 (fun x => { x with state := .halted })
     (s.lane 0).state = .halted ∧ s.activeBatch 0 = some 7) ∧
    (let s := windowPassed 0 (fun x => { x with state := .draining, path := [⟨tag 0, false, none⟩] })
     (s.lane 0).state = .draining ∧ (s.lane 0).path ≠ [] ∧ s.activeBatch 0 = some 7) ∧
    (∀ b ∈ [batchIn .draining 2 0, batchIn .draining 0 0],
      let s := { windowPassed 0 (fun x => { x with state := .draining, drainCause := .feedEnd }) with batches := [b] }
      (s.lane 0).state = .draining ∧ (s.lane 0).picking = some (tag 1) ∧ s.activeBatch 0 = some 7 ∧
        (s.lane 0).path = [] ∧ (s.lane 0).settleOrder = [] ∧ activeWith s 0 7 [] b) := by decide

/-- A sheet measured and waiting for its images. -/
def imagingSheet (q : Fin 4096) : Sheet :=
  { sheetAs q .imaging with trail := some 5, lead := some 3, imageDeadline := some 1000 }

/-- Two such sheets in lead order, the second's images as changed. -/
def twoImaging (f : Sheet → Sheet) : State :=
  { feedingWith (fun x => { x with settleOrder := [tag 0, tag 1] }) with
    sheets := [imagingSheet 0, f (imagingSheet 1)], free := 4088, reserved := 8 }

theorem cursor_waits_twoImaging (f : Sheet → Sheet) : cursorWaits (twoImaging f) 0 :=
  .inr ⟨tag 0, [tag 1], imagingSheet 0, rfl, rfl, rfl, by decide, rfl, rfl, rfl, rfl, rfl⟩

/-- A sheet at its image deadline, alone in lane 0's settlement order. -/
def cursorImaging (r : Sheet) : State :=
  { feedingWith (fun x => { x with settleOrder := [tag 1] }) with sheets := [r], free := 4092, reserved := 4 }

theorem witness_ImageDeadlineMarksSheet :
    (let s := twoImaging id
     (s.sheets.map Sheet.tag).Nodup ∧ s.sheet? (tag 1) = some (imagingSheet 1) ∧
      (imagingSheet 1).imageDeadline = some (s.lane (tag 1).lane).counter ∧ cursorStays s (tag 1).lane ∧
      (s.lane (tag 1).lane).settleOrder.head? ≠ some (tag 1) ∧ (s.lane (tag 1).lane).state ≠ .draining ∧
      imagesComplete s (imagingSheet 1) = false) ∧
    (let r := { imagingSheet 1 with frontLast := true }
     ((twoImaging (fun q => { q with frontLast := true })).sheets.map Sheet.tag).Nodup ∧
      (twoImaging (fun q => { q with frontLast := true })).sheet? (tag 1) = some r ∧
      imagesComplete (twoImaging (fun q => { q with frontLast := true })) r = true) ∧
    (let s := cursorImaging (imagingSheet 1)
     (s.sheets.map Sheet.tag).Nodup ∧ s.sheet? (tag 1) = some (imagingSheet 1) ∧ (s.lane 0).settleOrder = [tag 1] ∧
      (imagingSheet 1).imageDeadline = some (s.lane 0).counter ∧ (imagingSheet 1).queueWait = []) ∧
    (let r := { imagingSheet 1 with state := .ready, queueWait := [3] }
     let s := cursorImaging r
     (s.sheets.map Sheet.tag).Nodup ∧ s.sheet? (tag 1) = some r ∧ (s.lane 0).settleOrder = [tag 1] ∧
      r.imageDeadline = some (s.lane 0).counter ∧ r.queueWait ≠ [] ∧ imagesComplete s r = false ∧
      r.findings.incomplete = false) ∧
    (let r := { imagingSheet 1 with state := .ready, queueWait := [3], frontLast := true }
     let s := cursorImaging r
     s.sheet? (tag 1) = some r ∧ r.imageDeadline = some (s.lane 0).counter ∧ r.queueWait ≠ [] ∧
      imagesComplete s r = true) :=
  ⟨⟨by decide, by decide, by decide, .inr (cursor_waits_twoImaging id), by decide, by decide, by decide⟩, by decide, by decide,
    by decide, by decide⟩

theorem witness_PickCreatesRecord :
    let s := feedingWith id
    (s.lane 0).state = .feeding ∧ (s.lane 0).nextPick = .passed ∧ (s.lane 0).picking = none ∧
      openSheets s 0 < (s.lane 0).config.depth ∧ s.activeBatch 0 = some 7 ∧ (s.batchOf 7).expected = 0 ∧
      s.sheets.length < 128 ∧ (s.lane 0).config.reserve ≤ s.free ∧
      s.sheet? ⟨0, (s.lane 0).sequence⟩ = none := by decide

theorem witness_LeadOpensGate :
    (let s := windowPassed 2 id
     (s.lane 0).state.attributing = true ∧ (s.lane 0).lineWith .entry = some 3 ∧ ((s.lane 0).line 3).isActive = false ∧
      (s.lane 0).path.length < 128 ∧ (s.lane 0).picking = some (tag 1) ∧
      s.sheet? (tag 1) = some (sheetAs 1 .picking) ∧ (sheetAs 1 .picking).findings = .empty ∧
      (sheetAs 1 .picking).trail = none ∧ (sheetAs 1 .picking).divertDone = false ∧
      s.batch? (sheetAs 1 .picking).batch = some { feeding7 with expected := 2 } ∧ min (feeding7.fed + 1) 65535 ≠ 2 ∧
      (s.lane 0).settleOrder.head? ≠ some (tag 1) ∧ feeding7.state ≠ .aborted) ∧
    cursorStays (windowPassed 2 id) 0 ∧
    (let s := windowPassed 1 id
     s.batch? 7 = some { feeding7 with expected := 1 } ∧ 0 < 1 ∧ min (feeding7.fed + 1) 65535 = 1 ∧
      s.activeBatch 0 = some 7) ∧
    (let s := { windowPassed 2 (fun x => { x with settleOrder := [tag 0] }) with
       sheets := [{ imagingSheet 0 with state := .ready, queueWait := [3] }, sheetAs 1 .picking] }
     cursorWait s 0 ≠ [] ∧ (s.lane 0).settleOrder ≠ [] ∧ s.sheet? (tag 1) = some (sheetAs 1 .picking)) ∧
    (let s := feedingWith id
     (s.lane 0).lineWith .entry = some 3 ∧ ((s.lane 0).line 3).isActive = false ∧ (s.lane 0).picking = none ∧
      s.activeBatch 0 = some 7 ∧ s.batch? 7 = some feeding7 ∧ s.sheets.length < 128 ∧ feeding7.action ≠ .stop ∧
      feeding7.expected = 0 ∧ feeding7.state ≠ .aborted) ∧
    cursorStays (feedingWith id) 0 ∧
    (let s := { feedingWith id with batches := [{ feeding7 with action := .stop, expected := 1 }] }
     s.activeBatch 0 = some 7 ∧ s.batch? 7 = some { feeding7 with action := .stop, expected := 1 }) ∧
    (let s := { feedingWith id with sheets := List.replicate 128 (sheetAs 1 .held) }
     (s.lane 0).picking = none ∧ s.activeBatch 0 = some 7 ∧ 128 ≤ s.sheets.length ∧ (s.lane 0).state ≠ .halted) ∧
    (∀ st ∈ [LaneState.off, .idle, .jammed, .manual],
      let s := stateOf { lane0 with state := st } batch7
      (s.lane 0).lineWith .entry = some 3 ∧ ((s.lane 0).line 3).isActive = false ∧
        (s.lane 0).state.attributing = false) :=
  ⟨by decide, .inr (.inl rfl), by decide, by decide, by decide, .inr (.inl rfl), by decide, by decide +kernel, by decide⟩

/-- R52, R54: an unexpected lead with double-feed action STOP halts a FEEDING lane. -/
theorem test_unexpected_lead_stops :
    (match exec (.lead 0) { feedingWith id with batches := [{ feeding7 with action := .stop }] } with
      | .next t => decide ((t.lane 0).state = .halted ∧ (t.lane 0).haltReason = .suspect ∧ (t.lane 0).settleOrder ≠ [])
      | _ => false) = true := by decide +kernel

/-- A sheet in the gate. -/
def gateSheet : Sheet := { sheetAs 1 .inGate with lead := some 0xFFF00 }

/-- Lane 0 with that sheet in its gate behind an imaging sheet, its samples inside every limit. -/
def gateState (f : Lane → Lane) : State :=
  { feedingWith (fun x => f (sensedAs 3 .high { x with
      gateHolder := some (tag 1), settleOrder := [tag 0, tag 1], path := [⟨tag 1, false, none⟩], sampleDue := some 7
      gateLimit := some 1000
      acc := { openAccumulator (tag 1) 2 { Profile.powerOn with runLength := 3 } with m := 10, n := 8, sum := 7000 } })) with
    sheets := [imagingSheet 0, gateSheet], free := 4088, reserved := 8 }

theorem witness_TrailMeasuresSheet :
    (let s := gateState id
     (s.lane 0).state.attributing = true ∧ (s.lane 0).state ≠ .draining ∧ (s.lane 0).lineWith .entry = some 3 ∧
      ((s.lane 0).line 3).isActive = true ∧ (s.lane 0).gateHolder = some (tag 1) ∧
      s.sheet? (tag 1) = some gateSheet ∧ gateSheet.state = .inGate ∧ cursorStays s 0 ∧
      (trailFindings (s.lane 0).acc
        (min 9999 (((s.lane 0).counter - gateSheet.lead.getD 0).toNat * (s.lane 0).config.pitch / 4096))
        gateSheet.findings).measurement = false ∧
      (s.lane 0).path = [] ++ ⟨tag 1, false, none⟩ :: []) ∧
    (∀ e ∈ ((gateState (fun x => { x with path := [⟨tag 1, true, none⟩] })).lane 0).path,
      e.tag ≠ tag 1 ∨ e.exited = true) ∧
    (let s := { gateState (fun x => { x with acc := { x.acc with longest := 3 } }) with
       batches := [{ feeding7 with action := .stop }] }
     (trailFindings (s.lane 0).acc 0 gateSheet.findings).double = true ∧ (s.batchOf 7).action = .stop ∧
      (s.lane 0).state = .feeding) ∧
    (let s := gateState (fun x => { x with state := .draining })
     (s.lane 0).state = .draining ∧ (s.lane 0).path ≠ [] ∧ (s.lane 0).settleOrder ≠ []) ∧
    (((gateState (fun x => { x with gateHolder := none })).lane 0).gateHolder = none ∧
      ((gateState (fun x => { x with state := .jammed })).lane 0).state.attributing = false) ∧
    ((gateState (fun x => { x with gateHolder := some (tag 4) })).sheet? (tag 4) = none ∧
      { gateState id with sheets := [{ gateSheet with state := .held }] }.sheet? (tag 1) =
        some { gateSheet with state := .held } ∧ SheetState.held.unsettled = false) :=
  ⟨⟨by decide, by decide, by decide, by decide, by decide, by decide, by decide,
    .inr (.inr ⟨tag 0, [tag 1], imagingSheet 0, rfl, rfl, rfl, by decide, rfl, rfl, rfl, rfl, rfl⟩), by decide, rfl⟩,
    by decide, by decide, by decide, by decide, by decide⟩

/-- R91, R105: a trail that makes the cursor sheet ready, its images complete, settles it in the same event (HELD, for want
of a route). -/
theorem test_trail_settles_cursor :
    (match exec (.trail 0) { gateState (fun x => { x with settleOrder := [tag 1] }) with
        sheets := [{ gateSheet with front := [3], frontLast := true }] } with
      | .next t => decide ((t.lane 0).settleOrder = [] ∧ t.held.map HeldEntry.tag = [tag 1])
      | _ => false) = true := by decide +kernel

/-- R26 at the ends of its band, and with the upper end at 9999; R27 at the run length and with nothing counted. -/
theorem witness_LengthFindings :
    let a := { openAccumulator (tag 1) 2 Profile.powerOn with nominal := 2970, tolerance := 50 }
    (trailFindings a 3020 .empty).long = false ∧ (trailFindings a 3021 .empty).long = true ∧
      (trailFindings a 2920 .empty).short = false ∧ (trailFindings a 2919 .empty).short = true ∧
      (trailFindings { a with nominal := 9949 } 9999 .empty).long = false ∧
      (trailFindings { a with nominal := 0 } 9999 .empty).long = false ∧ Findings.empty.long = false ∧
      Findings.empty.short = false ∧
      (trailFindings { a with runLength := 3, longest := 2, n := 4 } 2970 .empty).double = false ∧
      (trailFindings { a with runLength := 3, longest := 3, n := 4 } 2970 .empty).double = true ∧
      (trailFindings { a with runLength := 3, n := 0 } 2970 .empty).noSample = true ∧
      (trailFindings { a with runLength := 0, n := 0 } 2970 .empty).double = true := by decide

theorem witness_BaselineMovesSixteenth :
    let p := { Profile.powerOn with b0 := 800, working := 800 }
    1 ≤ p.b0 ∧ p.b0 ≤ 4095 ∧ max 1 (3 * p.b0 / 4) ≤ p.working ∧ p.working ≤ min 4095 (5 * p.b0 / 4) ∧
      moveBaseline 815 p = 800 ∧ moveBaseline 816 p = 801 ∧ moveBaseline 785 p = 800 ∧ moveBaseline 784 p = 799 ∧
      moveBaseline 4095 { p with working := 1000 } = 1000 ∧ moveBaseline 0 { p with working := 600 } = 600 := by decide

/-- Lane 0 with a path of one exited entry, one next to exit, and one after it, changed as given. -/
def exitState (r : Sheet) (b : Batch) (f : Lane → Lane) : State :=
  { feedingWith (fun x => f { x with
      settleOrder := [tag 0, tag 1]
      path := [⟨tag 0, true, none⟩, ⟨tag 1, false, some 9⟩, ⟨tag 2, false, none⟩] }) with
    sheets := [imagingSheet 0, r], batches := [b] }

/-- A sheet to divert. -/
def doubleSheet : Sheet := { imagingSheet 1 with findings := { Findings.empty with double := true } }

theorem witness_ExitEdgesFollowPath :
    (let s := exitState (imagingSheet 1) feeding7 id
     (s.lane 0).state.attributing = true ∧ (s.lane 0).lineWith .exit = some 4 ∧ ((s.lane 0).line 4).isActive = false ∧
      (s.lane 0).path = [⟨tag 0, true, none⟩] ++ ⟨tag 1, false, some 9⟩ :: [⟨tag 2, false, none⟩] ∧
      s.sheet? (tag 1) = some (imagingSheet 1) ∧ (s.lane 0).gateHolder ≠ some (tag 1) ∧
      toDivert s (imagingSheet 1) = false) ∧
    ((exitState (imagingSheet 1) feeding7 (fun x => { x with gateHolder := some (tag 1) })).lane 0).gateHolder =
      some (tag 1) ∧
    (let s := exitState doubleSheet { feeding7 with action := .divert } id
     s.sheet? (tag 1) = some doubleSheet ∧ doubleSheet.state.unsettled = true ∧ doubleSheet.pastDivert = false ∧
      (s.batchOf doubleSheet.batch).action = .divert ∧ doubleSheet.findings.measurement = true ∧ cursorStays s 0 ∧
      (s.lane 0).settleOrder.head? ≠ some (tag 1)) ∧
    (let s := exitState (imagingSheet 1) feeding7 (fun x => sensedAs 4 .high { x with exitHolder := some (tag 0) })
     ((s.lane 0).line 4).isActive = true ∧ (s.lane 0).exitHolder = some (tag 0) ∧
      (s.lane 0).path = [] ++ ⟨tag 0, true, none⟩ :: [⟨tag 1, false, some 9⟩, ⟨tag 2, false, none⟩]) :=
  ⟨by decide, by decide, ⟨by decide, by decide, by decide, by decide, by decide,
    .inr (.inr ⟨tag 0, [tag 1], imagingSheet 0, rfl, rfl, rfl, by decide, rfl, rfl, rfl, rfl, rfl⟩), by decide⟩,
    by decide⟩

/-- Lane 0 DRAINING, a sheet at its exit sensor that is the last in its path, its settlement order as given. -/
def lastExit (b : Batch) (order : List Tag) : State :=
  exitState (imagingSheet 1) b (fun x => sensedAs 4 .high { x with
    state := .draining, drainCause := .feedEnd, exitHolder := some (tag 1), path := [⟨tag 1, true, none⟩]
    settleOrder := order })

/-- The cursor sheet diverted, exit trails in DRAINING, and edges that are attributed to no sheet. -/
theorem witness_ExitEdgesFollowPath_rest :
    (let s := exitState doubleSheet { feeding7 with action := .divert } (fun x => { x with settleOrder := [tag 1] })
     (s.lane 0).settleOrder = [tag 1] ∧ s.sheet? (tag 1) = some doubleSheet ∧ doubleSheet.queueWait = [] ∧
      doubleSheet.findings.jam = false ∧ (s.batchOf doubleSheet.batch).state ≠ .aborted ∧
      (s.lane 0).gateHolder ≠ some (tag 1)) ∧
    (let s := lastExit (batchIn .draining 2 0) [tag 0]
     (s.lane 0).state = .draining ∧ (s.lane 0).exitHolder = some (tag 1) ∧ ((s.lane 0).line 4).isActive = true ∧
      (s.lane 0).path = [] ++ ⟨tag 1, true, none⟩ :: [] ∧ (s.lane 0).settleOrder ≠ []) ∧
    (let s := lastExit (batchIn .draining 2 0) []
     (s.lane 0).state = .draining ∧ (s.lane 0).picking = none ∧ (s.lane 0).settleOrder = [] ∧
      activeWith s 0 7 [] (batchIn .draining 2 0)) ∧
    (let s := exitState (imagingSheet 1) feeding7 (sensedAs 4 .high)
     ((s.lane 0).line 4).isActive = true ∧ (s.lane 0).exitHolder = none) ∧
    ∀ st ∈ [LaneState.off, .idle, .jammed, .manual],
      ((exitState (imagingSheet 1) feeding7 (fun x => { x with state := st })).lane 0).state.attributing = false := by
  decide

/-- R57, R112: the cursor sheet settles DIVERTED at its exit lead. -/
theorem test_exitLead_diverts_cursor :
    (match exec (.exitLead 0) (exitState doubleSheet { feeding7 with action := .divert }
        (fun x => { x with settleOrder := [tag 1] })) with
      | .next t => decide (t.sheet? (tag 1) = none ∧ (t.batchOf 7).diverted = 1 ∧ (t.lane 0).divertDriven = true)
      | _ => false) = true := by decide +kernel

/-- R43, R58: the exit trail of the last sheet completes the drain. -/
theorem test_exitTrail_completes_drain :
    (match exec (.exitTrail 0) (lastExit (batchIn .draining 2 0) []) with
      | .next t => decide ((t.lane 0).state = .idle ∧ (t.lane 0).batchQueue = [] ∧ (t.batchOf 7).state = .ended)
      | _ => false) = true := by decide +kernel

theorem witness_LaneLinesSensed :
    (let s := stateOf (sensedAs 6 .high lane0) batch7
     (s.lane 0).lineWith .cover = some 6 ∧ ((s.lane 0).line 6).sensed = ((s.lane 0).line 6).activeLevel) ∧
    ((stateOf lane0 batch7).lane 0).lineWith .tray = some 5 ∧
    (let s := stateOf (sensedAs 7 .high lane0) batch7
     ((s.lane 0).line 7).role = .spare ∧ ((s.lane 0).line 7).spareDirection = .input ∧
      ((s.lane 0).line 7).sensed = ((s.lane 0).line 7).activeLevel) ∧
    (∀ st ∈ [LaneState.idle, .off, .jammed, .manual],
      let s := stateOf { lane0 with state := st } batch7
      ((s.lane 0).line 7).sensed ≠ ((s.lane 0).line 7).activeLevel ∧ (s.lane 0).lineWith .cover = some 6 ∧
        ((s.lane 0).line 6).sensed ≠ ((s.lane 0).line 6).activeLevel ∧ (s.lane 0).state = st) ∧
    ∀ k : Fin 8, (((stateOf (spareAt 6 lane0) batch7).lane 0).line k).role ≠ .cover := by decide

theorem witness_JamCausesJamLane :
    (((gateState id).lane 0).state.attributing = true ∧
      ((gateState id).lane 0).gateLimit = some ((gateState id).lane 0).counter) ∧
    (let s := gateState (fun x => { x with path := [⟨tag 1, false, some 1000⟩] })
     ∃ e ∈ (s.lane 0).path, e.exitWindow = some (s.lane 0).counter) ∧
    (((gateState id).lane 0).lineWith .cover = some 6 ∧ (((gateState id).lane 0).line 6).isActive = false) ∧
    (let s := feedingWith (fun x => { x with batchQueue := [] })
     (s.lane 0).lineWith .entry = some 3 ∧ ((s.lane 0).line 3).isActive = false ∧ (s.lane 0).picking = none ∧
      s.activeBatch 0 = none) ∧
    128 ≤ ((feedingWith (fun x => { x with path := List.replicate 128 ⟨tag 1, false, none⟩ })).lane 0).path.length ∧
    (let s := feedingWith (fun x => { x with path := [⟨tag 1, true, none⟩] })
     (s.lane 0).lineWith .exit = some 4 ∧ ((s.lane 0).line 4).isActive = false ∧
      ∀ e ∈ (s.lane 0).path, e.exited = true) ∧
    (let s := gateState id
     (s.lane 0).gateHolder = some (tag 1) ∧ s.sheet? (tag 1) = some gateSheet ∧ gateSheet.state.unsettled = true ∧
      (s.lane 0).picking = none ∧ (s.lane 0).settleOrder.head? ≠ some (tag 1)) ∧
    cursorWaits (gateState id) 0 ∧
    ((gateState (fun x => { x with settleOrder := [tag 1] })).lane 0).settleOrder = [tag 1] ∧
    ((gateState (fun x => { x with gateHolder := none })).lane 0).gateHolder = none :=
  ⟨by decide, by decide, by decide, by decide, by decide +kernel, by decide, by decide,
    .inr ⟨tag 0, [tag 1], imagingSheet 0, rfl, rfl, rfl, by decide, rfl, rfl, rfl, rfl, rfl⟩, rfl, rfl⟩

/-! ### Witnesses: the lane link -/

/-- A strip frame with the shortest payload, without its check. -/
def stripBody (tagNumber side index last : Nat) : List Byte :=
  be 1 1 ++ be 2 tagNumber ++ be 1 side ++ be 1 index ++ be 1 last ++ be 2 256 ++ List.replicate 256 0xA5

/-- The frame. -/
def stripFrame (tagNumber side index last : Nat) : List Byte := withCheck (stripBody tagNumber side index last)

/-- A patch frame. -/
def patchFrame : List Byte := withCheck (be 1 2 ++ be 2 1 ++ be 4 0xCAFEBABE)

/-- A state with an imaging sheet, and blocks 0 and 2 taken. -/
def filingState (r : Sheet) (b : Batch) : State :=
  { feedingWith id with
    sheets := [r], batches := [b], free := 4090, allocated := 2, reserved := 4
    directory := [⟨0, tag 9, 300⟩, ⟨2, tag 9, 300⟩], dram := [(16384, 5), (20000, 9)] }

theorem witness_StripFiledInLowestBlock :
    (readLaneFrame (stripFrame 1 0 0 0) = .strip (tagCode (tag 1)) .front 0 false (List.replicate 256 0xA5) ∧
    readLaneFrame (stripFrame 1 1 0 0) = .strip (tagCode (tag 1)) .back 0 false (List.replicate 256 0xA5) ∧
    readLaneFrame (stripFrame 1 0 0 1) = .strip (tagCode (tag 1)) .front 0 true (List.replicate 256 0xA5)) ∧
    (let s := filingState (imagingSheet 1) { feeding7 with sides := .duplex }
     s.sheet? (tag 1) = some (imagingSheet 1) ∧ (imagingSheet 1).state.unsettled = true ∧
      (imagingSheet 1).frontLast = false ∧ (imagingSheet 1).backLast = false ∧ (imagingSheet 1).front.length = 0 ∧
      (imagingSheet 1).back.length = 0 ∧ (s.batchOf (imagingSheet 1).batch).sides = .duplex ∧
      0 < (imagingSheet 1).reserve ∧ s.directory.Pairwise (fun x y => x.block < y.block) ∧
      (∀ k, k < 1 → ∃ x ∈ s.directory, x.block = k) ∧ (∀ x ∈ s.directory, x.block ≠ 1) ∧ Memory.wf s.dram) ∧
    (let r := { imagingSheet 1 with reserve := 0 }
     let s := filingState r feeding7
     s.sheet? (tag 1) = some r ∧ r.reserve = 0 ∧ 0 < s.free ∧ (s.batchOf r.batch).sides = .simplex) := by
  simp only [stripFrame, readLaneFrame_withCheck]
  decide +kernel

/-- The sheets for which a dropped strip adds INCOMPLETE at the cursor: one that its images then make ready, one that waits
for queue space, and one that stays. -/
theorem witness_HeadFramesTakenOrCounted_cursor :
    ∀ r ∈ [{ imagingSheet 1 with frontLast := true },
        { imagingSheet 1 with state := .ready, frontLast := true, queueWait := [3] }, imagingSheet 1],
      let s := (filingState r feeding7).modLane 0 (fun x => { x with settleOrder := [tag 1] })
      s.sheet? (tag 1) = some r ∧ r.state.unsettled = true ∧ r.findings.incomplete = false ∧
        5 ≠ r.front.length ∧ (s.lane 0).settleOrder.head? = some (tag 1) ∧
        (imagesComplete s r = r.frontLast ∧ r.imageTimeout = false) := by decide

theorem witness_HeadFramesTakenOrCounted :
    (readLaneFrame (stripFrame 2 0 0 0) = .strip (tagCode (tag 2)) .front 0 false (List.replicate 256 0xA5) ∧
    readLaneFrame (stripFrame 0x1001 0 0 0) = .strip (tagCode ⟨1, 1⟩) .front 0 false (List.replicate 256 0xA5) ∧
    readLaneFrame (stripFrame 0x8000 0 0 0) = .strip 32768 .front 0 false (List.replicate 256 0xA5) ∧
    readLaneFrame (stripFrame 1 0 5 0) = .strip (tagCode (tag 1)) .front 5 false (List.replicate 256 0xA5)) ∧
    (filingState (imagingSheet 1) feeding7).sheet? (tag 2) = none ∧
    (filingState (releasedSheet 2) feeding7).sheet? (tag 2) = some (releasedSheet 2) ∧
    (releasedSheet 2).state.unsettled = false ∧ readLaneFrame patchFrame = .patch (tagCode (tag 1)) 0xCAFEBABE ∧
    (filingState (imagingSheet 1) feeding7).sheet? (tag 1) = some (imagingSheet 1) ∧
    (imagingSheet 1).state.unsettled = true ∧ (imagingSheet 1).patch = none ∧ 5 ≠ (imagingSheet 1).front.length ∧
    (imagingSheet 1).findings.incomplete = false ∧
    ((filingState (imagingSheet 1) feeding7).lane 0).settleOrder.head? ≠ some (tag 1) ∧
    gateSheet.trail = none ∧ gateSheet.state = .inGate ∧ ({ Findings.empty with incomplete := true } : Findings).incomplete = true ∧
    ({ gateSheet with reserve := 0 } : Sheet).reserve = 0 ∧ ({ gateSheet with patch := some 4 } : Sheet).patch ≠ none ∧
    ((filingState { gateSheet with patch := some 4 } feeding7).sheets.map Sheet.tag).Nodup ∧
    (filingState (imagingSheet 2) feeding7).sheet? (tag 1) = none ∧
    readLaneFrame (patchFrame ++ [0]) = .malformed := by
  simp only [stripFrame, readLaneFrame_withCheck]
  decide +kernel

/-! ### Witnesses: settlement -/

theorem witness_SheetsSettleInLeadOrder :
    exec (.linkStateChange 0 true) State.reset =
      .next (State.reset.modLane 0 (fun x => { x with linkUp := true })) ∧
    picksOwnTags State.reset ∧ step State.reset = .next (idle State.reset) := by
  refine ⟨rfl, fun l g h => ?_, rfl⟩
  have : ∀ k : Fin 8, (State.reset.lane k).picking = none := by decide
  rw [this l] at h
  cases h

/-- A sheet that lacks its images at its deadline. -/
def incompleteSheet : Sheet :=
  { imagingSheet 1 with
    findings := { Findings.empty with incomplete := true }, imageTimeout := true, imageDeadline := none }

/-- A clean sheet with its images. -/
def imagedSheet : Sheet := { imagingSheet 1 with front := [0, 1], frontLast := true }

/-- A FEEDING lane whose one unsettled sheet is as given. -/
def cursorState (r : Sheet) : State :=
  { feedingWith (fun x => { x with settleOrder := [tag 1], path := [⟨tag 1, true, none⟩] }) with
    sheets := [r], free := 4092, reserved := 4 }

/-- A lane in a state, with paper in its path and a DOUBLE sheet with its images, its batch of an action. -/
def doubtState (st : LaneState) (action : Action) (r : Sheet) : State :=
  { (cursorState r).modLane 0 (fun x => { x with state := st }) with batches := [{ feeding7 with action := action }] }

theorem witness_SettlementHoldsIncomplete :
    (let s := cursorState incompleteSheet
     (s.lane 0).state = .feeding ∧ (s.lane 0).settleOrder = [tag 1] ∧ (s.lane 0).gateHolder ≠ some (tag 1) ∧
      s.sheet? (tag 1) = some incompleteSheet ∧ s.batch? incompleteSheet.batch = some feeding7 ∧
      incompleteSheet.queueWait = [] ∧ incompleteSheet.trail.isSome = true ∧ incompleteSheet.imageTimeout = true ∧
      incompleteSheet.findings.incomplete = true ∧ incompleteSheet.findings.jam = false ∧
      incompleteSheet.divertDone = false ∧ feeding7.state ≠ .aborted ∧ divertWaiting s incompleteSheet = false ∧
      s.held.length < 48) ∧
    (let s := cursorState imagedSheet
     s.sheet? (tag 1) = some imagedSheet ∧ imagesComplete s imagedSheet = true ∧ imagedSheet.findings = .empty ∧
      imagedSheet.findings.measurement = false ∧ imagedSheet.findings.incomplete = false ∧
      imagedSheet.patch = none ∧ deliveryEntries s imagedSheet .ordinary = none ∧ divertWaiting s imagedSheet = false) ∧
    (let r := { imagedSheet with findings := doubleSheet.findings }
     let s := doubtState .halted .flag r
     deliveryEntries s r .suspect = none ∧ r.findings.measurement = true ∧ r.pastDivert = false ∧
      r.findings.incomplete = false ∧ divertWaiting s r = false ∧ imagesComplete s r = true) ∧
    (let r := { imagedSheet with findings := doubleSheet.findings }
     let s := doubtState .spinup .stop r
     (s.lane 0).state = .spinup ∧ (s.batchOf 7).action = .stop ∧ r.findings ≠ .empty ∧ divertWaiting s r = false) ∧
    (let r := { imagedSheet with findings := doubleSheet.findings, pastDivert := true }
     let s := doubtState .draining .divert r
     (s.lane 0).state = .draining ∧ (s.lane 0).path ≠ [] ∧ r.pastDivert = true ∧ r.findings.measurement = true ∧
      divertWaiting s r = false) ∧
    (let r := { imagedSheet with findings := doubleSheet.findings }
     let s := doubtState .jammed .divert r
     (s.lane 0).state = .jammed ∧ (s.batchOf 7).action = .divert ∧ r.divertDone = false ∧ divertWaiting s r = false) ∧
    48 ≤ ({ cursorState incompleteSheet with held := List.replicate 48 heldEntry } : State).held.length := by
  decide +kernel

/-- A sheet that carries JAM. -/
def jammedSheet : Sheet := { imagingSheet 1 with findings := { Findings.empty with jam := true } }

/-- A diverted one. -/
def divertedSheet : Sheet := { doubleSheet with divertDone := true }

/-- A sheet with the patch word of pattern 2. -/
def separatorSheet : Sheet := { imagedSheet with patch := some 0x1F }

/-- A FEEDING lane whose cursor sheet is that separator, pattern 2's keep flag as given. -/
def separatorState (keep : Bool) : State :=
  { routed (cursorState separatorSheet) with
    batches := [{ feeding7 with mask := 4 }]
    separators := (Vector.replicate 8 Separator.powerOn).set 2 ⟨true, 0x10, 0xF0, .batchBreak, keep⟩ }

/-- The dropped sheet with a clean one that has its images behind it. -/
def dropThenSettle (r : Sheet) : State :=
  { cursorState r with sheets := [r, { imagedSheet with tag := tag 2 }] }.modLane 0 (fun x => { x with
    settleOrder := [tag 1, tag 2] })

/-- Lane 0 DRAINING with the last sheet at its cursor and nothing else in it. -/
def lastSettles (c : DrainCause) (b : Batch) (r : Sheet) : State :=
  { (cursorState r).modLane 0 (fun x => { x with state := .draining, drainCause := c, path := [] }) with batches := [b] }

/-- R43, R109: settlements that complete a drain. -/
theorem witness_SettlementDropsOrSeparates_drain :
    (∀ x ∈ [(DrainCause.pause, batchIn .draining 0 0, jammedSheet), (.feedEnd, batchIn .draining 0 0, divertedSheet),
        (.abort, batchIn .aborted 0 0, imagingSheet 1)],
      let s := lastSettles x.1 x.2.1 x.2.2
      (s.lane 0).settleOrder = tag 1 :: [] ∧ s.sheet? (tag 1) = some x.2.2 ∧ s.batch? 7 = some x.2.1 ∧
        x.2.2.queueWait = [] ∧ (s.lane 0).state = .draining ∧ (s.lane 0).picking = none ∧ (s.lane 0).path = [] ∧
        activeWith s 0 7 [] x.2.1) := by decide

/-- R43, R132: the diverted last sheet completes the drain, and its batch, with nothing pending, closes. -/
theorem test_settlement_completes_drain :
    (match exec (.settlement 0) (lastSettles .feedEnd (batchIn .draining 0 0) divertedSheet) with
      | .next t => decide ((t.lane 0).state = .idle ∧ t.batches = [] ∧
          t.lastReport.map (fun x => x.batch.diverted) = some 1)
      | _ => false) = true := by decide +kernel

theorem witness_SettlementDropsOrSeparates :
    (let s := cursorState jammedSheet
     (s.lane 0).settleOrder = tag 1 :: [] ∧ s.sheet? (tag 1) = some jammedSheet ∧ s.batch? 7 = some feeding7 ∧
      jammedSheet.queueWait = [] ∧ (s.lane 0).state ≠ .draining ∧ jammedSheet.findings.jam = true) ∧
    (let s := cursorState divertedSheet
     s.sheet? (tag 1) = some divertedSheet ∧ divertedSheet.findings.jam = false ∧ feeding7.state ≠ .aborted ∧
      divertedSheet.divertDone = true) ∧
    (let s := (cursorState jammedSheet).modLane 0 (fun x => { x with state := .draining })
     (s.lane 0).state = .draining ∧ (s.lane 0).path ≠ []) ∧
    (∀ r ∈ [jammedSheet, divertedSheet],
      let s := dropThenSettle r
      (s.lane 0).settleOrder = tag 1 :: [tag 2] ∧ s.sheet? (tag 1) = some r ∧ tag 1 ∉ [tag 2] ∧
        s.sheet? (tag 2) = some { imagedSheet with tag := tag 2 } ∧ imagedSheet.queueWait = [] ∧
        (imagedSheet.trail.isSome = true ∧ imagesComplete s imagedSheet = true)) ∧
    (let s := separatorState true
     (s.lane 0).state = .feeding ∧ (s.lane 0).path ≠ [] ∧ (s.lane 0).gateHolder ≠ some (tag 1) ∧
      s.activeBatch 0 = some 7 ∧ separatorSheet.divertDone = false ∧ separatorSheet.trail.isSome = true ∧
      imagesComplete s separatorSheet = true ∧ separatorSheet.findings = .empty ∧
      separatorMatch s separatorSheet = some 2 ∧ (s.separators[2]).keep = true ∧
      (deliveryEntries s separatorSheet .separator).map (fullDests s) = some [] ∧
      (deliveryEntries s separatorSheet .separator).map List.length = some 2) ∧
    ((separatorState false).separators[2]).keep = false := by decide +kernel

/-- R105: with the jammed sheet discarded, the clean one behind it settles in the same event (HELD, without a route). -/
theorem test_next_sheet_settles_too :
    (match exec (.settlement 0) (dropThenSettle jammedSheet) with
      | .next t => decide ((t.lane 0).settleOrder = [] ∧ t.held.map HeldEntry.tag = [tag 2])
      | _ => false) = true := by decide +kernel

/-- A clean sheet that waits for queue space. -/
def queueWaitSheet : Sheet :=
  { sheetAs 1 .ready with trail := some 5, lead := some 3, front := [0, 1], frontLast := true, queueWait := [3] }

/-- Its delivery entries. -/
def queueWaitDeliveries : List (Fin 16 × DeliveryEntry) := [(3, entryOf 1), (5, entryOf 1)]

/-- A settlement that releases a sheet into destination 3's queue, empty and with warning level 1: the sheet has left the
settlement order, and its entry is the late one. -/
theorem witness_WarnSetAtLevel_settlement :
    (routed (cursorState imagedSheet)).flag (.dest 3 .warn) = false ∧
    ∃ t, exec (.settlement 0) (routed (cursorState imagedSheet)) = .next t ∧ t.flag (.dest 3 .warn) = true ∧
      (t.dest 3).queue = [] ++ [entryOf 1] ∧
      settledFrom (.settlement 0) 0 (routed (cursorState imagedSheet)) t [(entryOf 1).sheet] := by
  refine ⟨by decide +kernel, _, rfl, by decide +kernel, by decide +kernel, 1, [], by decide, by decide, by simp,
    by decide +kernel, by decide +kernel⟩

theorem witness_QueueWaitRetryReleases :
    (let s := routed (cursorState queueWaitSheet)
     (s.lane 0).state ≠ .draining ∧ (s.lane 0).settleOrder = [tag 1] ∧ (s.lane 0).gateHolder ≠ some (tag 1) ∧
      s.sheet? (tag 1) = some queueWaitSheet ∧ s.batch? queueWaitSheet.batch = some feeding7 ∧
      queueWaitSheet.state = .ready ∧ queueWaitSheet.queueWait ≠ [] ∧ queueWaitSheet.findings = .empty ∧
      queueWaitSheet.patch = none ∧ queueWaitSheet.divertDone = false ∧ feeding7.state ≠ .aborted ∧
      deliveryEntries s queueWaitSheet .ordinary = some queueWaitDeliveries ∧ fullDests s queueWaitDeliveries = []) ∧
    (let s := (routed (cursorState queueWaitSheet)).modDest 5 (fun x => { x with queue := List.replicate 48 (entryOf 7) })
     deliveryEntries s queueWaitSheet .ordinary = some queueWaitDeliveries ∧
      fullDests s queueWaitDeliveries ≠ []) ∧
    (let s := routed (cursorState imagedSheet)
     s.sheet? (tag 1) = some imagedSheet ∧ imagedSheet.queueWait = [] ∧ imagedSheet.trail.isSome = true ∧
      imagesComplete s imagedSheet = true ∧ deliveryEntries s imagedSheet .ordinary = some queueWaitDeliveries) ∧
    (let r := { imagedSheet with findings := doubleSheet.findings }
     let s := routed (cursorState r)
     s.sheet? (tag 1) = some r ∧ r.findings ≠ .empty ∧ feeding7.action = .flag ∧ r.pastDivert = false ∧
      (deliveryEntries s r .suspect).map (fullDests s) = some []) := by decide +kernel

/-- R43, R109: a release that completes a drain. -/
theorem witness_QueueWaitRetryReleases_drain :
    ∀ c ∈ [DrainCause.pause, .feedEnd],
      let s := routed (lastSettles c (batchIn .draining 0 0) queueWaitSheet)
      (s.lane 0).state = .draining ∧ (s.lane 0).picking = none ∧ (s.lane 0).path = [] ∧
        (s.lane 0).settleOrder = [tag 1] ∧ s.sheet? (tag 1) = some queueWaitSheet ∧
        deliveryEntries s queueWaitSheet .ordinary = some queueWaitDeliveries ∧ fullDests s queueWaitDeliveries = [] ∧
        activeWith s 0 queueWaitSheet.batch [] (batchIn .draining 0 0) := by decide +kernel

/-! ### Witnesses: ports -/

/-- Destination 3's queue full, its head's last frame in transmission, and lane 0's cursor sheet waiting for room there. -/
def retryState : State :=
  ({ delivering 1 id with
      sheets := [releasedSheet 1, releasedSheet 2, { imagedSheet with tag := tag 9, state := .ready, queueWait := [3] }] }.modDest
    3 (fun x => { x with queue := entryOf 1 :: List.replicate 47 (entryOf 2) })).modLane 0 (fun x => { x with
      settleOrder := [tag 9], state := .feeding, path := [⟨tag 9, true, none⟩] })

theorem witness_FrameEndAdvancesDelivery :
    (let s := delivering 0 (fun q => { q with linkUp := false })
     (s.port .a).tx = some (.archive []) ∧ (s.port .a).current = some ⟨3, entryOf 1, 0⟩ ∧
      s.sheet? (entryOf 1).sheet = some (releasedSheet 1) ∧ s.batch? (releasedSheet 1).batch = some pending7 ∧
      (s.dest 3).closing = false ∧ 0 + 1 ≠ (entryOf 1).strips ∧ (s.port .a).linkUp = false ∧
      (s.port .b).linkUp = false) ∧
    (let s := delivering 0 (fun q => { q with replies := [busyReply (dir 3 []), busyReply (dir 2 [])] })
     (s.port .a).linkUp = true ∧ (s.port .a).replies = busyReply (dir 3 []) :: [busyReply (dir 2 [])]) ∧
    (let s := delivering 0 id
     (s.port .a).replies = [] ∧ s.notices.find? (fun m => decide (m.port = .a)) = none ∧ roundRobin s .a 3 = none ∧
      (nextFrame s ⟨3, entryOf 1, 1⟩).isSome = true) ∧
    (let s := delivering 0 (fun q => { q with tx := some (.reply [3]), current := none })
     (s.port .a).tx = some (.reply [3]) ∧ (s.port .a).linkUp = true ∧ (s.port .a).suspended = none ∧
      ∀ v : Fin 4, roundRobin (s.modDest 3 (fun x => { x with credit := 1 })) .a v = none) ∧
    (let s := delivering 1 id
     (s.port .a).current = some ⟨3, entryOf 1, 1⟩ ∧ 1 + 1 = (entryOf 1).strips ∧
      ∀ l : Fin 8, waitsOn s [3] l = false) ∧
    (let s := retryState
     (s.port .a).tx = some (.archive []) ∧ (s.port .a).current = some ⟨3, entryOf 1, 1⟩ ∧
      s.sheet? (entryOf 1).sheet = some (releasedSheet 1) ∧ s.batch? (releasedSheet 1).batch = some pending7 ∧
      1 + 1 = (entryOf 1).strips ∧ (∀ k : Fin 8, waitsOn s [3] k = decide (k = 0)) ∧
      (s.lane 0).settleOrder.head? ≠ some (entryOf 1).sheet) ∧
    (((delivering 0 id).modDest 3 (fun x => { x with closing := true })).dest 3).closing = true := by decide +kernel

/-- R117, R176: the delivery's end makes room, and the waiting sheet is released into the queue in the same event. -/
theorem test_delivery_end_retries_waiting_sheet :
    (match exec (.frameEnd .a) retryState with
      | .next t => decide ((t.lane 0).settleOrder = [] ∧ (t.dest 3).queue.getLast? = some (entryOf 9))
      | _ => false) = true := by decide +kernel

/-- The frame that a delivery of destination `x` sends next. -/
def frameFrom (s : State) (c : Delivery) : List Byte := (nextFrame s c).getD []

/-- The same ports with nothing in transmission on port A. -/
def atBoundary (k : Nat) (f : PortState → PortState) : State := delivering k (fun q => f { q with tx := none })

/-- At the boundary, destination 5 at URGENT with an entry and the credit for it. -/
def urgentState : State :=
  (atBoundary 1 id).modDest 5 (fun x => { x with priority := 3, queue := [entryOf 2], credit := 2 })

theorem others_atBoundary (k : Nat) (f : PortState → PortState) :
    ∀ q : Port, q ≠ .a → ((atBoundary k f).port q).linkUp = false ∨ ((atBoundary k f).port q).tx.isSome = true := by
  intro q hq
  cases q with
  | a => exact absurd rfl hq
  | b => exact .inl rfl

theorem witness_BoundaryChoosesNextFrame :
    (let s := atBoundary 0 (fun q => { q with replies := [busyReply (dir 3 [])] })
     (s.port .a).linkUp = true ∧ (s.port .a).tx = none ∧ (s.port .a).replies = busyReply (dir 3 []) :: []) ∧
    (let s := { atBoundary 0 id with notices := [⟨5, .b, .event (.lane 2 .jam)⟩, ⟨5, .a, .event (.lane 2 .jam)⟩] }
     (s.port .a).replies = [] ∧ s.pendingLost = none ∧
      s.notices.find? (fun m => decide (m.port = .a)) = some ⟨5, .a, .event (.lane 2 .jam)⟩) ∧
    (let s := atBoundary 0 id
     s.notices.find? (fun m => decide (m.port = .a)) = none ∧ (s.port .a).current = some ⟨3, entryOf 1, 0⟩ ∧
      roundRobin s .a 3 = none ∧ nextFrame s ⟨3, entryOf 1, 0⟩ = some (frameFrom s ⟨3, entryOf 1, 0⟩)) ∧
    (let s := urgentState
     (s.port .a).current = some ⟨3, entryOf 1, 1⟩ ∧ (s.dest 3).priority ≠ 3 ∧ (s.port .a).suspended = none ∧
      roundRobin s .a 3 = some 5 ∧ (s.dest 5).queue.head? = some (entryOf 2) ∧
      nextFrame s ⟨5, entryOf 2, 0⟩ = some (frameFrom s ⟨5, entryOf 2, 0⟩)) ∧
    (let s := atBoundary 0 (fun q => { q with current := none })
     (s.port .a).current = none ∧ (∀ w : Fin 4, 1 < w → roundRobin s .a w = none) ∧ roundRobin s .a 1 = some 3 ∧
      (s.dest 3).queue.head? = some (entryOf 1) ∧
      nextFrame s ⟨3, entryOf 1, 0⟩ = some (frameFrom s ⟨3, entryOf 1, 0⟩)) ∧
    (let s := atBoundary 0 (fun q => { q with current := none, suspended := some ⟨3, entryOf 1, 1⟩ })
     (s.port .a).current = none ∧ roundRobin s .a 3 = none ∧ (s.port .a).suspended = some ⟨3, entryOf 1, 1⟩ ∧
      nextFrame s ⟨3, entryOf 1, 1⟩ = some (frameFrom s ⟨3, entryOf 1, 1⟩)) ∧
    (let s := (atBoundary 0 (fun q => { q with current := none })).modDest 3 (fun x => { x with credit := 1 })
     ∀ v : Fin 4, roundRobin s .a v = none) ∧
    (let r := { releasedSheet 1 with back := [1] }
     let s := { delivering 0 id with sheets := [r] }
     s.sheet? (tag 1) = some r ∧ s.batch? 7 = some pending7 ∧
      s.directory.find? (fun y => decide (y.block = 1)) = some ⟨1, tag 1, 300⟩ ∧ r.front[1] = 1 ∧
      r.back[0] = 1) := by decide +kernel

theorem witness_RoundRobinTakesNext :
    (let s := atBoundary 0 (fun q => { q with current := none })
     (s.port .a).rr[1] + 1 + 3 = (3 : Fin 16) ∧ participant s .a 1 3 = true ∧
      (∀ j : Fin 16, j < 3 → participant s .a 1 ((s.port .a).rr[1] + 1 + j) = false) ∧
      (∀ x : Fin 16, participant s .a 2 x = false)) ∧
    (let s := atBoundary 0 (fun q => { q with current := none, rr := #v[15, 4, 15, 15] })
     (s.port .a).rr[1] + 1 + 14 = (3 : Fin 16) ∧
      (∀ j : Fin 16, j < 14 → participant s .a 1 ((s.port .a).rr[1] + 1 + j) = false)) := by decide +kernel

/-- A report station on port B, every flag masked in, with as many notices waiting as given. -/
def reporting (n : Nat) : State :=
  { State.reset with
    reportStation := some ⟨77, .b⟩, mask := Vector.replicate 115 true
    notices := List.replicate n ⟨77, .a, .event (.lane 2 .jam)⟩ }

theorem portsBusy_reporting (n : Nat) : portsBusy { reporting n with pendingLost := some ⟨77, .b, .event noticeLostFlag⟩ } := by
  intro p
  cases p <;> exact .inl rfl

/-- An ENDED batch with nothing held and nothing pending, and a report station. -/
def closingState : State := { reporting 15 with batches := [{ feeding7 with state := .ended }] }

theorem witness_FlagsFormNotices :
    ((reporting 15).reportStation = some ⟨77, .b⟩ ∧ (reporting 15).flag (.lane 2 .jam) = false ∧
      (reporting 15).masked (.lane 2 .jam) = true ∧ (reporting 15).notices.length < 16) ∧
    (16 ≤ (reporting 16).notices.length ∧ Flag.lane 2 .jam ≠ noticeLostFlag ∧ Flag.lane 2 .jam ≠ .device .batchReport ∧
      (reporting 16).flag noticeLostFlag = false ∧ (reporting 16).masked noticeLostFlag = true) ∧
    (({ reporting 15 with flags := Vector.replicate 115 true } : State).flag (.lane 2 .jam) = true) ∧
    ((reporting 16).masked (.device .batchReport) = true ∧
      ({ reporting 16 with mask := Vector.replicate 115 false } : State).masked (.device .batchReport) = false) ∧
    (closingState.batch? 7 = some { feeding7 with state := .ended } ∧ (closingState.port .a).linkUp = false ∧
      (closingState.port .b).linkUp = false ∧ closingState.reportStation = some ⟨77, .b⟩) := by decide +kernel

/-- R190: a report handed over while BATCH_REPORT is set already forms its own report notice, and no event notice. -/
theorem test_report_notice_with_flag_set :
    (match exec (.batchClosure 7) { closingState with notices := [], flags := Vector.replicate 115 true } with
      | .next t => decide (t.notices = [⟨77, .b, .report ⟨{ feeding7 with state := .ended }, .closed⟩⟩])
      | _ => false) = true := by decide +kernel

theorem witness_PortLinkStartsAndStops :
    (exec (.linkStateChange 0 true) State.reset = .next (State.reset.modLane 0 (fun x => { x with linkUp := true })) ∧
      (State.reset.port .a).linkUp = false ∧ (State.reset.port .a).tx = none ∧
      ((State.reset.modLane 0 (fun x => { x with linkUp := true })).port .a).linkUp = false) ∧
    ((delivering 0 id).port .a).tx = some (.archive []) ∧
    (((atBoundary 0 id).port .a).tx = none ∧ ((atBoundary 0 id).port .b).linkUp = false) ∧
    ((atBoundary 0 (fun q => { q with tx := some (.notice [1]) })).port .a).tx = some (.notice [1]) ∧
    (let s := atBoundary 0 (fun q => { q with linkUp := false, replies := [busyReply (dir 3 [])] })
     (s.port .a).tx = none ∧ (s.port .a).replies = busyReply (dir 3 []) :: []) :=
  ⟨⟨rfl, by decide, by decide, by decide⟩, by decide +kernel, by decide +kernel, by decide +kernel, by decide +kernel⟩

end Sys2Proof.Tests
end

section
/-!
PROOF. The expiries that end a wait of a lane, and the due sample (chapters 1, 2 and 4).
-/

namespace Sys2Proof.Machine

theorem Accumulator.read_m (b smp : Nat) (a : Accumulator) : (a.read b smp).m = a.m + 1 := by
  unfold Accumulator.read
  dsimp only
  split
  · rfl
  · split
    · rfl
    · split <;> rfl

/-- R4, R17, R22: what a due sample expiry does. -/
theorem execSampleExpiry_of_due {s : State} {l : Fin 8} (reading : BitVec 12)
    (h : (s.lane l).sampleDue = some (s.lane l).counter) :
    execSampleExpiry l reading s = .next (s.modLane l (fun x =>
        { x with
          lastSample := reading.toNat
          acc := x.acc.read (s.profile x.acc.profile).working reading.toNat
          sampleDue := if x.acc.m + 1 = 4095 then none
            else some (x.counter + BitVec.ofNat 20 x.config.sampleInterval) })) := by
  have isDue : due (s.lane l).counter (s.lane l).sampleDue = true := by simp [due, h]
  unfold execSampleExpiry
  rw [if_pos isDue]
  congr 1
  refine State.modLane_congr s l ?_
  simp only [Accumulator.read_m, laneBaseline, armAt]

/-- R78: the countdown's length for an idle code above 0. -/
theorem idleMs_of_pos {c : Nat} (h : 1 ≤ c) : idleMs c = some (if c ≤ 60 then c * 5000 else (c - 55) * 60000) := by
  unfold idleMs
  rw [if_neg (by omega)]
  split <;> rfl

/-- Settles O38: each expiry's guard holds, so its effect is the one its command names. -/
theorem laneDeadlinesExpire : Obligations.LaneDeadlinesExpire := by
  refine ⟨fun s l => ⟨fun h => ?_, fun h => ?_, fun h => ?_, fun hs hr => ⟨fun ht => ?_, fun ht => ?_⟩,
    fun reading h => execSampleExpiry_of_due reading h, fun hs hr => ?_⟩, rfl, fun c h1 h2 => ?_, fun c h1 h2 => ?_⟩
  · simp [exec, execNextPickExpiry, h]
  · simp [exec, execPickPulseEnd, due, h]
  · simp [exec, execDivertEnd, due, h]
  · simp [exec, execEndOfSpinup, hs, hr, ht, Lane.stopSpin]
  · simp only [exec, execEndOfSpinup, hs, hr, ht, and_self, if_true]
    rfl
  · refine ⟨kickPorts (raise (.lane l .off) (s.modLane l Lane.enterOff)), ?_, ?_⟩
    · simp [exec, execIdleCountdownExpiry, hs, hr]
    · rw [interior_kickPorts, interior_raise]
      rfl
  · rw [idleMs_of_pos h1, if_pos h2]
  · rw [idleMs_of_pos (by omega), if_neg (by omega)]

end Sys2Proof.Machine
end

section
/-!
PROOF. LANE_SET (R2, R3, R30, R45) and POWER_ON.
-/

namespace Sys2Proof.Machine

/-! ### LANE_SET -/

/-- R45: LANE_SET on a lane whose state admits the change, its prescale defined. -/
theorem laneSet_accepts {l : Fin 8} {ps : List Byte} {s : State} {pre : Prescale}
    (hp : Prescale.ofCode (rd ps 1 1) = some pre)
    (h : (pre = (s.lane l).config.prescale ∧ clampTo 1 6 (rd ps 25 1) = (s.lane l).config.depth) ∨
      (s.lane l).state = .off ∨ (s.lane l).state = .idle) :
    laneSet l ps s = acceptClamped (decide ((carriedConfig ps pre).clamp ≠ carriedConfig ps pre))
      (s.modLane l (Lane.storeConfig (carriedConfig ps pre).clamp)) := by
  have admitted : ¬ (((carriedConfig ps pre).clamp.prescale ≠ (s.lane l).config.prescale ∨
      (carriedConfig ps pre).clamp.depth ≠ (s.lane l).config.depth) ∧ (s.lane l).state.atRest = false) := by
    rintro ⟨changed, busy⟩
    rcases h with ⟨samePrescale, sameDepth⟩ | off | idle
    · exact changed.elim (fun k => k samePrescale) (fun k => k sameDepth)
    · simp [off, LaneState.atRest] at busy
    · simp [idle, LaneState.atRest] at busy
  unfold laneSet
  simp only [hp]
  rw [if_neg admitted]

/-- Settles O14: the body of LANE_SET stores the clamped configuration, and the reply tells whether it differs from the
carried one. -/
theorem laneSetStoresConfiguration : Obligations.LaneSetStoresConfiguration := by
  intro s d l pre hw hn hp h raw
  refine runDirective_answers hw (withLength 31 (withLane laneSet)) ⟨s.dequeued.modLane l (Lane.storeConfig raw.clamp), ?_, rfl, rfl, rfl,
    rfl, rfl⟩
  rw [withLane_of_names hn, laneSet_accepts (s := s.dequeued) hp h]
  unfold acceptClamped
  by_cases hc : raw.clamp = raw
  · rw [if_pos hc, decide_eq_false (not_not.mpr hc)]; rfl
  · rw [if_neg hc, decide_eq_true hc]; rfl

/-! ### POWER_ON -/

theorem lane_powerOn (pins : Vector (BitVec 8) 8) (straps links : BitVec 8) (la lb : Bool) (l : Fin 8) :
    (State.powerOn pins straps links la lb).lane l = Lane.powerOn pins[l.val] (links.getLsbD l.val) := by
  fin_cases l <;> rfl

/-- R68: line `n` of the identity map has the `n`-th role. -/
theorem line_identityMap (pins : BitVec 8) (link : Bool) (n : Fin 8) :
    ∃ r : Role, r.code = n.val ∧ (Lane.powerOn pins link).line n = Line.powerOn pins n.val r := by
  fin_cases n
  exacts [⟨.motor, rfl, rfl⟩, ⟨.pick, rfl, rfl⟩, ⟨.divert, rfl, rfl⟩, ⟨.entry, rfl, rfl⟩, ⟨.exit, rfl, rfl⟩,
    ⟨.tray, rfl, rfl⟩, ⟨.cover, rfl, rfl⟩, ⟨.spare, rfl, rfl⟩]

/-- Settles O9: the state POWER_ON leaves is read field by field, lanes, lines and ports by their number. -/
theorem powerOnResetsEveryUnit : Obligations.PowerOnResetsEveryUnit := by
  intro pins straps links la lb s
  refine ⟨_, rfl, fun l => ?_, fun i => ⟨by simp [State.profile, State.powerOn], by simp [State.dest, State.powerOn]⟩,
    rfl, rfl, rfl, rfl, rfl, rfl, rfl, rfl, rfl, rfl, rfl, rfl, rfl, rfl, rfl, rfl, rfl, fun p => ?_⟩
  · have lane : ({ State.powerOn pins straps links la lb with pending := s.pending } : State).lane l =
        Lane.powerOn pins[l.val] (links.getLsbD l.val) := lane_powerOn pins straps links la lb l
    rw [lane]
    refine ⟨rfl, rfl, rfl, rfl, rfl, rfl, rfl, rfl, rfl, rfl, rfl, rfl, rfl, rfl, rfl, rfl, rfl, rfl, rfl, rfl, rfl,
      rfl, rfl, rfl, rfl, rfl, rfl, rfl, rfl, rfl, rfl, rfl, rfl, rfl, rfl, rfl, rfl, fun n => ?_⟩
    obtain ⟨r, code, line⟩ := line_identityMap pins[l.val] (links.getLsbD l.val) n
    rw [line]
    exact ⟨rfl, rfl, rfl, rfl, code, rfl⟩
  · cases p <;> exact ⟨rfl, rfl, rfl, rfl⟩

end Sys2Proof.Machine
end

section
/-!
PROOF. What the part does on an empty command queue: the events that are due, none of them twice, and a microsecond.
-/

namespace Sys2Proof.Machine

@[simp] theorem mem_whenDue (b : Bool) (i j : Instr) : j ∈ whenDue b i ↔ b = true ∧ j = i := by
  cases b <;> simp [whenDue]

theorem due_iff (counter : Tick) (d : Option Tick) : due counter d = true ↔ d = some counter := by simp [due]

theorem batchFeeds_iff (s : State) (l : Fin 8) : batchFeeds s l = true ↔
    ∃ id, s.activeBatch l = some id ∧ ((s.batchOf id).expected = 0 ∨ (s.batchOf id).fed < (s.batchOf id).expected) := by
  unfold batchFeeds
  cases s.activeBatch l <;> simp

theorem tableHasRoom_iff (s : State) : tableHasRoom s = true ↔ s.sheets.length < 128 := by
  exact decide_eq_true_iff

theorem reserveFits_iff (s : State) (l : Fin 8) : reserveFits s l = true ↔ (s.lane l).config.reserve ≤ s.free := by
  simp [reserveFits]

/-- R46: the conditions of a pick. -/
theorem canPick_iff (s : State) (l : Fin 8) : canPick s l = true ↔
    (s.lane l).state = .feeding ∧ (s.lane l).nextPick = .passed ∧ (s.lane l).picking = none ∧
      openSheets s l < (s.lane l).config.depth ∧
      (∃ id, s.activeBatch l = some id ∧
        ((s.batchOf id).expected = 0 ∨ (s.batchOf id).fed < (s.batchOf id).expected)) ∧
      s.sheets.length < 128 ∧ (s.lane l).config.reserve ≤ s.free := by
  rw [← batchFeeds_iff, ← tableHasRoom_iff, ← reserveFits_iff]
  simp only [canPick, pickWanted, Bool.and_eq_true, decide_eq_true_eq,
    Option.isNone_iff_eq_none, and_assoc]

theorem mem_laneEvents (s : State) (l : Fin 8) (i : Instr) : i ∈ laneEvents s l ↔
    ((s.lane l).nextPick = .armed (s.lane l).counter ∧ i = .nextPickExpiry l) ∨
    ((s.lane l).pickPulseEnd = some (s.lane l).counter ∧ i = .pickPulseEnd l) ∨
    ((s.lane l).pickWindow = some (s.lane l).counter ∧ i = .pickWindowExpiry l) ∨
    ((s.lane l).sampleDue = some (s.lane l).counter ∧ i = .sampleExpiry l (Config.reading s.freeIndex l.val)) ∨
    ((s.lane l).gateLimit = some (s.lane l).counter ∧ i = .gateLimitExpiry l) ∨
    ((∃ e ∈ (s.lane l).path, e.exitWindow = some (s.lane l).counter) ∧ i = .exitWindowExpiry l) ∨
    ((s.lane l).divertEnd = some (s.lane l).counter ∧ i = .divertEnd l) ∨
    ((s.lane l).state = .spinup ∧ (s.lane l).spinRemaining = some 0 ∧ i = .endOfSpinup l) ∨
    ((s.lane l).state = .idle ∧ (s.lane l).idleRemaining = some 0 ∧ i = .idleCountdownExpiry l) ∨
    (canPick s l = true ∧ i = .pick l) := by
  simp only [laneEvents, List.mem_append, mem_whenDue, due_iff, decide_eq_true_eq, Bool.and_eq_true, List.any_eq_true,
    or_assoc, and_assoc]

theorem mem_imageEvents (s : State) (i : Instr) : i ∈ imageEvents s ↔
    ∃ r ∈ s.sheets, r.imageDeadline = some (s.lane r.tag.lane).counter ∧ i = .imageDeadlineExpiry r.tag := by
  simp only [imageEvents, List.mem_map, List.mem_filter, due_iff, and_assoc]
  simp only [eq_comm (b := i)]

theorem mem_directiveEvents (s : State) (i : Instr) : i ∈ directiveEvents s ↔
    ∃ d, s.dirQueue.head? = some d ∧ i = d.row.command s.freeIndex := by
  unfold directiveEvents
  cases s.dirQueue <;> simp

theorem mem_allLanes (l : Fin 8) : l ∈ allLanes := by fin_cases l <;> decide

theorem mem_dueEvents (s : State) (i : Instr) : i ∈ dueEvents s ↔
    (∃ l, i ∈ laneEvents s l) ∨ i ∈ imageEvents s ∨ i ∈ directiveEvents s := by
  simp only [dueEvents, List.mem_append, List.mem_flatMap, mem_allLanes, true_and, or_assoc]

/-! ### No event is due twice -/

/-- The lane of a command that is a lane's own due event. -/
def laneOfEvent : Instr → Option (Fin 8)
  | .nextPickExpiry l | .pickPulseEnd l | .pickWindowExpiry l | .sampleExpiry l _ | .gateLimitExpiry l
  | .exitWindowExpiry l | .divertEnd l | .endOfSpinup l | .idleCountdownExpiry l | .pick l => some l
  | _ => none

theorem laneOfEvent_of_mem_laneEvents {s : State} {l : Fin 8} {i : Instr} (h : i ∈ laneEvents s l) :
    laneOfEvent i = some l := by
  rw [mem_laneEvents] at h
  rcases h with ⟨-, rfl⟩ | ⟨-, rfl⟩ | ⟨-, rfl⟩ | ⟨-, rfl⟩ | ⟨-, rfl⟩ | ⟨-, rfl⟩ | ⟨-, rfl⟩ | ⟨-, -, rfl⟩ | ⟨-, -, rfl⟩ |
    ⟨-, rfl⟩ <;> rfl

theorem laneOfEvent_of_mem_imageEvents {s : State} {i : Instr} (h : i ∈ imageEvents s) : laneOfEvent i = none := by
  obtain ⟨r, -, -, rfl⟩ := (mem_imageEvents s i).mp h
  rfl

theorem DirectiveRow.command_ne_event (k : Nat) (row : DirectiveRow) :
    laneOfEvent (row.command k) = none ∧ ∀ g, row.command k ≠ .imageDeadlineExpiry g := by
  cases row <;> exact ⟨rfl, fun _ => by simp [DirectiveRow.command]⟩

theorem nodup_whenDue_append {b : Bool} {i : Instr} {rest : List Instr} (h : rest.Nodup) (hi : i ∉ rest) :
    (whenDue b i ++ rest).Nodup := by
  cases b
  · exact h
  · exact List.nodup_cons.mpr ⟨hi, h⟩

theorem laneEvents_nodup (s : State) (l : Fin 8) : (laneEvents s l).Nodup := by
  unfold laneEvents
  simp only [List.append_assoc]
  iterate 9 refine nodup_whenDue_append ?_ (by simp)
  unfold whenDue
  split <;> simp

theorem imageEvents_nodup {s : State} (h : (s.sheets.map Sheet.tag).Nodup) : (imageEvents s).Nodup := by
  have tags : ((s.sheets.filter (fun r => due (s.lane r.tag.lane).counter r.imageDeadline)).map Sheet.tag).Nodup :=
    h.sublist (List.filter_sublist.map _)
  have commands := tags.map (f := Instr.imageDeadlineExpiry) (fun _ _ e => Instr.imageDeadlineExpiry.inj e)
  rwa [List.map_map] at commands

theorem directiveEvents_nodup (s : State) : (directiveEvents s).Nodup := by
  unfold directiveEvents
  split <;> simp

theorem dueEvents_nodup {s : State} (h : (s.sheets.map Sheet.tag).Nodup) : (dueEvents s).Nodup := by
  have lanes : (allLanes.flatMap (laneEvents s)).Nodup := by
    refine List.nodup_flatMap.mpr ⟨fun l _ => laneEvents_nodup s l, ?_⟩
    refine List.Pairwise.imp (fun {a b} hab => ?_) (show allLanes.Nodup by decide)
    intro i ha hb
    exact hab (Option.some.inj ((laneOfEvent_of_mem_laneEvents ha).symm.trans (laneOfEvent_of_mem_laneEvents hb)))
  have laneEvent : ∀ i ∈ allLanes.flatMap (laneEvents s), laneOfEvent i ≠ none := by
    intro i hi
    obtain ⟨l, -, hl⟩ := List.mem_flatMap.mp hi
    simp [laneOfEvent_of_mem_laneEvents hl]
  unfold dueEvents
  refine List.nodup_append.mpr ⟨List.nodup_append.mpr ⟨lanes, imageEvents_nodup h, ?_⟩, directiveEvents_nodup s, ?_⟩
  · rintro i hi j hj rfl
    exact laneEvent i hi (laneOfEvent_of_mem_imageEvents hj)
  · rintro i hi j hj rfl
    obtain ⟨d, -, rfl⟩ := (mem_directiveEvents s i).mp hj
    have other := d.row.command_ne_event s.freeIndex
    rcases List.mem_append.mp hi with hl | hm
    · exact laneEvent _ hl other.1
    · obtain ⟨r, -, -, e⟩ := (mem_imageEvents s _).mp hm
      exact other.2 r.tag e

/-! ### The step on an empty queue -/

theorem step_of_empty {s : State} (h : s.pending = []) : step s = .next (idle s) := by
  unfold step
  rw [h]

theorem State.with_pending_nil {s : State} (h : s.pending = []) : ({ s with pending := [] } : State) = s := by
  cases s
  cases h
  rfl

theorem idle_of_due {s : State} (h : dueEvents s ≠ []) :
    idle s = { s with pending := freeOrder s.freeIndex (dueEvents s), freeIndex := s.freeIndex + 1 } := by
  unfold idle
  split
  · contradiction
  · rfl

theorem idle_of_not_due {s : State} (h : dueEvents s = []) : idle s = tick s := by
  unfold idle
  rw [h]

/-- R1, R79, R80: a microsecond on one lane. -/
theorem lane_tick (s : State) (l : Fin 8) :
    (tick s).lane l = if 999 ≤ s.usPhase then (s.lane l).tick.tickMs else (s.lane l).tick := by
  unfold tick State.lane
  split <;> simp

theorem tick_frame (s : State) :
    tick s = { s with lanes := (tick s).lanes, usPhase := if 999 ≤ s.usPhase then 0 else s.usPhase + 1 } := by
  unfold tick
  split <;> rfl

/-- Settles O2: membership in the due events is read list by list, and the order they are queued in is a permutation. -/
theorem emptyQueueRaisesDueEventsOrTicks : Obligations.EmptyQueueRaisesDueEventsOrTicks := by
  intro s hs picks ofLane isDue
  have isDue_iff : ∀ i, i ∈ dueEvents s ↔ isDue i := by
    intro i
    simp only [mem_dueEvents, mem_laneEvents, mem_imageEvents, mem_directiveEvents, canPick_iff]
    exact Iff.rfl
  rw [step_of_empty hs]
  constructor
  · rintro ⟨i, hi⟩
    have nonempty : dueEvents s ≠ [] := List.ne_nil_of_mem ((isDue_iff i).mpr hi)
    have perm := freeOrder_perm s.freeIndex (dueEvents s)
    refine ⟨_, congrArg Host.Outcome.next (idle_of_due nonempty), fun j => ?_, fun tags => ?_, ?_⟩
    · dsimp only
      exact perm.mem_iff.trans (isDue_iff j)
    · dsimp only
      exact perm.symm.nodup (dueEvents_nodup tags)
    · exact State.with_pending_nil hs
  · intro none
    have empty : dueEvents s = [] := List.eq_nil_iff_forall_not_mem.mpr fun i hi => none i ((isDue_iff i).mp hi)
    refine ⟨tick s, congrArg Host.Outcome.next (idle_of_not_due empty), tick_frame s, fun l => ?_⟩
    rw [lane_tick]
    unfold Lane.tick Lane.tickMs
    dsimp only
    split <;> split <;> rfl

end Sys2Proof.Machine
end

section
/-!
PROOF. What two states with one interior agree on, and flags after flags. Every read of the machine's operations but the
traffic's own is a function of the interior.
-/

namespace Sys2Proof.Machine

/-! ### Flags -/

theorem Flag.index_injective {f g : Flag} (h : f.index = g.index) : f = g := by
  have val : f.index.val = g.index.val := congrArg Fin.val h
  cases f with
  | lane l f =>
    cases g with
    | lane k g =>
      simp only [Flag.index] at val
      have lanes : l = k := by omega
      have flags : f.toFin.val = g.toFin.val := by omega
      subst lanes
      cases f <;> cases g <;> first | rfl | exact absurd flags (by decide)
    | dest e g => simp only [Flag.index] at val; omega
    | device g => simp only [Flag.index] at val; omega
  | dest d f =>
    cases g with
    | lane k g => simp only [Flag.index] at val; omega
    | dest e g =>
      simp only [Flag.index] at val
      have dests : d = e := by omega
      have flags : f.toFin.val = g.toFin.val := by omega
      subst dests
      cases f <;> cases g <;> first | rfl | exact absurd flags (by decide)
    | device g => simp only [Flag.index] at val; omega
  | device f =>
    cases g with
    | lane k g => simp only [Flag.index] at val; omega
    | dest e g => simp only [Flag.index] at val; omega
    | device g =>
      simp only [Flag.index] at val
      have flags : f.toFin.val = g.toFin.val := by omega
      cases f <;> cases g <;> first | rfl | exact absurd flags (by decide)

theorem State.flag_setFlag_other (s : State) {f g : Flag} (b : Bool) (h : g ≠ f) : (s.setFlag f b).flag g = s.flag g := by
  have places : f.index.val ≠ g.index.val := fun e => h (Flag.index_injective (Fin.ext e.symm))
  simp [State.flag, State.setFlag, Vector.getElem_set_ne _ _ places]

/-! ### Reads after updates of other parts -/

@[simp] theorem State.lane_modSheet (s : State) (g : Tag) (f : Sheet → Sheet) (k : Fin 8) :
    (s.modSheet g f).lane k = s.lane k := rfl

@[simp] theorem State.lane_modBatch (s : State) (i : Nat) (f : Batch → Batch) (k : Fin 8) :
    (s.modBatch i f).lane k = s.lane k := rfl

@[simp] theorem State.lane_modProfile (s : State) (i : Fin 16) (f : Profile → Profile) (k : Fin 8) :
    (s.modProfile i f).lane k = s.lane k := rfl

@[simp] theorem State.lane_setFlag (s : State) (f : Flag) (b : Bool) (k : Fin 8) :
    (s.setFlag f b).lane k = s.lane k := rfl

@[simp] theorem State.sheet?_modLane (s : State) (l : Fin 8) (f : Lane → Lane) (t : Tag) :
    (s.modLane l f).sheet? t = s.sheet? t := rfl

@[simp] theorem State.sheet?_modBatch (s : State) (i : Nat) (f : Batch → Batch) (t : Tag) :
    (s.modBatch i f).sheet? t = s.sheet? t := rfl

@[simp] theorem State.sheet?_modProfile (s : State) (i : Fin 16) (f : Profile → Profile) (t : Tag) :
    (s.modProfile i f).sheet? t = s.sheet? t := rfl

@[simp] theorem State.sheet?_setFlag (s : State) (f : Flag) (b : Bool) (t : Tag) :
    (s.setFlag f b).sheet? t = s.sheet? t := rfl

@[simp] theorem State.batch?_modLane (s : State) (l : Fin 8) (f : Lane → Lane) (id : Nat) :
    (s.modLane l f).batch? id = s.batch? id := rfl

@[simp] theorem State.batch?_modSheet (s : State) (g : Tag) (f : Sheet → Sheet) (id : Nat) :
    (s.modSheet g f).batch? id = s.batch? id := rfl

@[simp] theorem State.batch?_modProfile (s : State) (i : Fin 16) (f : Profile → Profile) (id : Nat) :
    (s.modProfile i f).batch? id = s.batch? id := rfl

@[simp] theorem State.batch?_setFlag (s : State) (f : Flag) (b : Bool) (id : Nat) :
    (s.setFlag f b).batch? id = s.batch? id := rfl

@[simp] theorem State.batchOf_modLane (s : State) (l : Fin 8) (f : Lane → Lane) (id : Nat) :
    (s.modLane l f).batchOf id = s.batchOf id := rfl

@[simp] theorem State.batchOf_modSheet (s : State) (g : Tag) (f : Sheet → Sheet) (id : Nat) :
    (s.modSheet g f).batchOf id = s.batchOf id := rfl

@[simp] theorem State.batchOf_modProfile (s : State) (i : Fin 16) (f : Profile → Profile) (id : Nat) :
    (s.modProfile i f).batchOf id = s.batchOf id := rfl

@[simp] theorem State.batchOf_setFlag (s : State) (f : Flag) (b : Bool) (id : Nat) :
    (s.setFlag f b).batchOf id = s.batchOf id := rfl

/-! ### States with one interior -/

/-- A read that the interior answers alike is the same in states with one interior. -/
theorem eq_of_interior {α : Type} {s t : State} (read : State → α) (hr : ∀ u, read u.interior = read u)
    (h : s.interior = t.interior) : read s = read t := by
  rw [← hr s, h, hr t]

/-- An update that the interior takes alike keeps states with one interior so. -/
theorem interior_update_congr {s t : State} (f : State → State) (hf : ∀ u, (f u).interior = f u.interior)
    (h : s.interior = t.interior) : (f s).interior = (f t).interior := by
  rw [hf, h, ← hf]

/-- Where `u` is another state with parts of its own put in, so is every state with `u`'s interior, its own parts put in. -/
theorem interior_eq_patched {t u : State} (patch : State → State)
    (hp : ∀ v, (patch v).interior = (patch v.interior).interior) (h : t.interior = u.interior) (hu : u = patch u) :
    t.interior = (patch t).interior := by
  rw [hp, h, ← hp, ← hu]

section
variable {s t : State} (h : s.interior = t.interior)
include h

theorem lanes_of_interior : s.lanes = t.lanes :=
  eq_of_interior (fun u => u.lanes) (fun _ => rfl) h

theorem lane_of_interior (l : Fin 8) : s.lane l = t.lane l :=
  eq_of_interior (fun u => u.lane l) (fun _ => rfl) h

theorem sheets_of_interior : s.sheets = t.sheets :=
  eq_of_interior (fun u => u.sheets) (fun _ => rfl) h

theorem sheet?_of_interior (g : Tag) : s.sheet? g = t.sheet? g :=
  eq_of_interior (fun u => u.sheet? g) (fun _ => rfl) h

theorem batch?_of_interior (id : Nat) : s.batch? id = t.batch? id :=
  eq_of_interior (fun u => u.batch? id) (fun _ => rfl) h

theorem batchOf_of_interior (id : Nat) : s.batchOf id = t.batchOf id :=
  eq_of_interior (fun u => u.batchOf id) (fun _ => rfl) h

theorem activeBatch_of_interior (l : Fin 8) : s.activeBatch l = t.activeBatch l :=
  eq_of_interior (fun u => u.activeBatch l) (fun _ => rfl) h

theorem inLaneQueue_of_interior (b : Batch) : s.inLaneQueue b = t.inLaneQueue b :=
  eq_of_interior (fun u => u.inLaneQueue b) (fun _ => rfl) h

theorem imagesComplete_of_interior (r : Sheet) : imagesComplete s r = imagesComplete t r :=
  eq_of_interior (fun u => imagesComplete u r) (fun _ => rfl) h

theorem flag_of_interior {f : Flag} (hf : f ≠ noticeLostFlag) : s.flag f = t.flag f :=
  eq_of_interior (fun u => u.flag f) (fun u => u.flag_setFlag_other false hf) h

end

/-- A raised flag leaves every other flag, but NOTICE_LOST, which its notice can set (R188, R189). -/
theorem flag_raise_other (s : State) {f g : Flag} (hf : g ≠ f) (hn : g ≠ noticeLostFlag) :
    (raise f s).flag g = s.flag g := by
  rw [flag_of_interior (interior_raise f s) hn, State.flag_setFlag_other s true hf]

theorem flag_raise_same (s : State) {f : Flag} (hn : f ≠ noticeLostFlag) : (raise f s).flag f = true := by
  rw [flag_of_interior (interior_raise f s) hn, State.flag_setFlag_same]

end Sys2Proof.Machine
end

section
/-!
PROOF. New records: a tag that no live record has (R102), the reserve drawn from the free blocks (R94, R98), and the pick
(R11, R46, R48).
-/

namespace Sys2Proof.Machine

/-! ### Tags not in use (R102) -/

/-- Where the search ends at a tag in use, every value it passed is in use. -/
theorem freshSequence_taken {s : State} {l : Fin 8} {k : Nat} {q : Fin 4096}
    (h : (s.sheet? ⟨l, freshSequence s l k q⟩).isSome = true) :
    ∀ i ≤ k, (s.sheet? ⟨l, q + Fin.ofNat 4096 i⟩).isSome = true := by
  induction k generalizing q with
  | zero =>
    intro i hi
    obtain rfl : i = 0 := by omega
    simpa [freshSequence] using h
  | succ k ih =>
    unfold freshSequence at h
    split at h
    case isFalse free => exact absurd h free
    case isTrue taken =>
      intro i hi
      cases i with
      | zero => simpa using taken
      | succ i =>
        have next : q + 1 + Fin.ofNat 4096 i = q + Fin.ofNat 4096 (i + 1) := by
          apply Fin.ext
          simp only [Fin.val_add, Fin.ofNat, Fin.val_one]
          omega
        have step := ih h i (by omega)
        rwa [next] at step

theorem mem_sheets_of_sheet? {s : State} {g : Tag} (h : (s.sheet? g).isSome = true) : g ∈ s.sheets.map Sheet.tag := by
  obtain ⟨r, hr⟩ := Option.isSome_iff_exists.mp h
  exact List.mem_map.mpr ⟨r, List.mem_of_find?_eq_some hr, State.tag_of_sheet? hr⟩

/-- R102: while the sheet table has room, the lane's next record takes a tag that no live record has. -/
theorem freshTag_absent {s : State} (l : Fin 8) (h : s.sheets.length < 128) : s.sheet? (freshTag s l) = none := by
  refine Option.not_isSome_iff_eq_none.mp fun taken => ?_
  have inUse := freshSequence_taken (q := (s.lane l).sequence) taken
  let passed : List Tag := (List.range 129).map fun i => ⟨l, (s.lane l).sequence + Fin.ofNat 4096 i⟩
  have distinct : passed.Nodup := by
    refine List.nodup_range.map_on fun i hi j hj e => ?_
    have values : (s.lane l).sequence + Fin.ofNat 4096 i = (s.lane l).sequence + Fin.ofNat 4096 j :=
      (Tag.mk.injEq ..).mp e |>.2
    have offsets : (Fin.ofNat 4096 i).val = (Fin.ofNat 4096 j).val := congrArg Fin.val (add_left_cancel values)
    simp only [List.mem_range] at hi hj
    simp only [Fin.ofNat] at offsets
    omega
  have live : passed ⊆ s.sheets.map Sheet.tag := by
    intro g hg
    obtain ⟨i, hi, rfl⟩ := List.mem_map.mp hg
    exact mem_sheets_of_sheet? (inUse i (by have := List.mem_range.mp hi; simp [tableCapacity]; omega))
  have count := (distinct.subperm live).length_le
  simp [passed] at count
  omega

/-- R102: a free value of the lane's sequence is taken as it stands. -/
theorem freshTag_of_free {s : State} {l : Fin 8} (h : s.sheet? ⟨l, (s.lane l).sequence⟩ = none) :
    (freshTag s l).seq = (s.lane l).sequence := by
  simp [freshTag, tableCapacity, freshSequence, h]

/-! ### The reserve (R94, R98) -/

/-- The free blocks fall by `n`, and STORE_LOW is set where that takes them below the low mark (R98). -/
def lowered (n : Nat) (s : State) : State :=
  { s with
    free := s.free - n
    flags := if s.lowMark ≤ s.free ∧ s.free - n < s.lowMark then (s.setFlag (.device .storeLow) true).flags else s.flags }

theorem lowered_of_low {n : Nat} {s : State} (h : s.lowMark ≤ s.free ∧ s.free - n < s.lowMark) :
    lowered n s = ({ s with free := s.free - n } : State).setFlag (.device .storeLow) true := by
  simp only [lowered, if_pos h]
  rfl

theorem lowered_of_high {n : Nat} {s : State} (h : ¬ (s.lowMark ≤ s.free ∧ s.free - n < s.lowMark)) :
    lowered n s = { s with free := s.free - n } := by
  simp only [lowered, if_neg h]

theorem lowered_eq_ite (n : Nat) (s : State) :
    lowered n s = if s.lowMark ≤ s.free ∧ s.free - n < s.lowMark then
      ({ s with free := s.free - n } : State).setFlag (.device .storeLow) true else { s with free := s.free - n } := by
  split
  case isTrue low => exact lowered_of_low low
  case isFalse high => exact lowered_of_high high

theorem interior_lowerFree (n : Nat) (s : State) : (lowerFree n s).interior = (lowered n s).interior := by
  unfold lowerFree
  dsimp only
  split
  case isTrue low => rw [lowered_of_low low, interior_raise]
  case isFalse high => rw [lowered_of_high high]

theorem flag_lowered_storeLow (n : Nat) (s : State) : (lowered n s).flag (.device .storeLow) =
    (s.flag (.device .storeLow) || decide (s.lowMark ≤ s.free ∧ s.free - n < s.lowMark)) := by
  by_cases low : s.lowMark ≤ s.free ∧ s.free - n < s.lowMark
  · rw [lowered_of_low low, State.flag_setFlag_same, decide_eq_true low, Bool.or_true]
  · rw [lowered_of_high low, decide_eq_false low, Bool.or_false]
    rfl

theorem flag_lowered_other (n : Nat) (s : State) {f : Flag} (h : f ≠ .device .storeLow) :
    (lowered n s).flag f = s.flag f := by
  by_cases low : s.lowMark ≤ s.free ∧ s.free - n < s.lowMark
  · rw [lowered_of_low low]
    exact State.flag_setFlag_other _ true h
  · rw [lowered_of_high low]
    rfl

/-- A new record under the lane's next tag, with a reserve of `n` blocks (R48, R94, R102). -/
def recordAdded (l : Fin 8) (batch : Nat) (state : SheetState) (f : Findings) (n : Nat) (s : State) : State :=
  (lowered n { s with
    sheets := s.sheets ++ [Sheet.create (freshTag s l) batch state f n], reserved := s.reserved + n }).modLane l
      (fun x => { x with sequence := (freshTag s l).seq + 1 })

theorem interior_createSheet (l : Fin 8) (batch : Nat) (state : SheetState) (f : Findings) (n : Nat) (s : State) :
    (createSheet l batch state f n s).interior = (recordAdded l batch state f n s).interior := by
  exact interior_lowerFree n _

/-! ### The pick (R48) -/

/-- The state after a pick for batch `id` (R11, R48). -/
def pickMade (l : Fin 8) (id : Nat) (s : State) : State :=
  (recordAdded l id .picking .empty (s.lane l).config.reserve s).modLane l (fun x =>
    { x.drivePick with picking := some (freshTag s l) })

theorem interior_makePick {s : State} {l : Fin 8} {id : Nat} (h : s.activeBatch l = some id) :
    (makePick l s).interior = (pickMade l id s).interior := by
  unfold makePick
  rw [h]
  exact interior_modLane_congr (interior_createSheet l id .picking .empty _ s) l _

/-- A pick changes its lane, the sheet table, the store's counts and STORE_LOW. -/
theorem pickMade_frame (l : Fin 8) (id : Nat) (s : State) : pickMade l id s = { s with
    lanes := (pickMade l id s).lanes
    sheets := s.sheets ++ [Sheet.create (freshTag s l) id .picking .empty (s.lane l).config.reserve]
    free := s.free - (s.lane l).config.reserve
    reserved := s.reserved + (s.lane l).config.reserve
    flags := (pickMade l id s).flags } := rfl

theorem lane_pickMade_same (l : Fin 8) (id : Nat) (s : State) : (pickMade l id s).lane l = { (s.lane l).drivePick with
    sequence := (freshTag s l).seq + 1, picking := some (freshTag s l) } := by
  simp only [pickMade, recordAdded, State.lane_modLane_same]
  rfl

theorem lane_pickMade_other {l k : Fin 8} (id : Nat) (s : State) (h : k ≠ l) : (pickMade l id s).lane k = s.lane k := by
  simp only [pickMade, recordAdded, State.lane_modLane_other _ _ h]
  rfl

theorem execPick_of_canPick {s : State} {l : Fin 8} (h : canPick s l = true) :
    exec (.pick l) s = .next (kickPorts (makePick l s)) := by
  change execPick l s = _
  unfold execPick
  rw [if_pos h]

/-- Settles O41: the interior that a pick leaves is that of the new record with the lane's pick armed, and every part of the
claim is a part of that interior. -/
theorem pickCreatesRecord : Obligations.PickCreatesRecord := by
  intro s l id feeding passed noPicking depth active feeds room fits
  have possible : canPick s l = true :=
    (canPick_iff s l).mpr ⟨feeding, passed, noPicking, depth, ⟨id, active, feeds⟩, room, fits⟩
  have left := (interior_kickPorts _).trans (interior_makePick active)
  refine ⟨_, freshTag s l, execPick_of_canPick possible, rfl, freshTag_absent l room, freshTag_of_free,
    ?_, ?_, ?_, ?_, ?_, ?_, fun k hk => ?_, fun f hf hn => ?_, ?_⟩
  · rw [sheets_of_interior left, pickMade_frame]
  · rw [eq_of_interior (fun u => u.free) (fun _ => rfl) left, pickMade_frame]
  · rw [eq_of_interior (fun u => u.reserved) (fun _ => rfl) left, pickMade_frame]
  · rw [eq_of_interior (fun u => u.allocated) (fun _ => rfl) left, pickMade_frame]
  · rw [flag_of_interior left (by decide)]
    exact flag_lowered_storeLow _ _
  · rw [lane_of_interior left, lane_pickMade_same]
    rfl
  · rw [lane_of_interior left, lane_pickMade_other id s hk]
  · rw [flag_of_interior left hn]
    exact flag_lowered_other _ _ hf
  · exact interior_eq_patched (fun v => { s with
      lanes := v.lanes, sheets := v.sheets, free := v.free, reserved := v.reserved, flags := v.flags })
      (fun v => by simp [State.interior]) left (pickMade_frame l id s)

end Sys2Proof.Machine
end

section
/-!
PROOF. Settlement and the drain take states with one interior to states with one interior: what they do does not depend on
the traffic that leaves. One lemma per operation of chapters 3, 6 and 7 that a settlement calls.
-/

namespace Sys2Proof.Machine

/-! ### Destinations -/

theorem dest_interior (s : State) (d : Fin 16) : s.interior.dest d = { s.dest d with credit := 0 } := by
  simp [State.dest, State.interior]

theorem interior_modDest (s : State) (d : Fin 16) (f : Dest → Dest)
    (hf : ∀ x : Dest, { f x with credit := 0 } = f { x with credit := 0 }) :
    (s.modDest d f).interior = s.interior.modDest d f := by
  have dests : (s.dests.set d.val (f (s.dest d))).map (fun x => { x with credit := 0 }) =
      (s.dests.map (fun x => { x with credit := 0 })).set d.val (f { s.dest d with credit := 0 }) := by
    ext1 i hi
    simp only [Vector.getElem_map, Vector.getElem_set]
    split
    · exact hf _
    · rfl
  simp only [State.modDest, dest_interior]
  simp only [State.interior, dests]

section
variable {s t : State} (h : s.interior = t.interior)
include h

theorem queue_of_interior (d : Fin 16) : (s.dest d).queue = (t.dest d).queue :=
  eq_of_interior (fun u => (u.dest d).queue) (fun u => by rw [dest_interior]) h

theorem warn_of_interior (d : Fin 16) : (s.dest d).warn = (t.dest d).warn :=
  eq_of_interior (fun u => (u.dest d).warn) (fun u => by rw [dest_interior]) h

theorem lookup_of_interior (c : BitVec 6) (side : Side) (kind : Kind) : lookup s c side kind = lookup t c side kind := by
  refine eq_of_interior (fun u => lookup u c side kind) (fun u => ?_) h
  unfold lookup
  simp only [dest_interior]
  rfl

theorem separators_of_interior : s.separators = t.separators := eq_of_interior (fun u => u.separators) (fun _ => rfl) h

theorem activeBank_of_interior : s.activeBank = t.activeBank := eq_of_interior (fun u => u.activeBank) (fun _ => rfl) h

theorem held_of_interior : s.held = t.held := eq_of_interior (fun u => u.held) (fun _ => rfl) h

/-! ### Reads of the settlement unit -/

theorem cursorReady_of_interior (g : Tag) : cursorReady s g = cursorReady t g :=
  eq_of_interior (fun u => cursorReady u g) (fun _ => rfl) h

theorem cursorWait_of_interior (l : Fin 8) : cursorWait s l = cursorWait t l :=
  eq_of_interior (fun u => cursorWait u l) (fun _ => rfl) h

theorem batchAborting_of_interior (r : Sheet) : batchAborting s r = batchAborting t r :=
  eq_of_interior (fun u => batchAborting u r) (fun _ => rfl) h

theorem holdReason_of_interior (r : Sheet) : holdReason s r = holdReason t r :=
  eq_of_interior (fun u => holdReason u r) (fun _ => rfl) h

theorem separatorMatch_of_interior (r : Sheet) : separatorMatch s r = separatorMatch t r :=
  eq_of_interior (fun u => separatorMatch u r) (fun _ => rfl) h

theorem routeSide_of_interior (r : Sheet) (side : Side) (kind : Kind) : routeSide s r side kind = routeSide t r side kind := by
  unfold routeSide
  rw [lookup_of_interior h, batchOf_of_interior h]

theorem deliveryEntries_of_interior (r : Sheet) (kind : Kind) : deliveryEntries s r kind = deliveryEntries t r kind := by
  unfold deliveryEntries
  rw [routeSide_of_interior h, routeSide_of_interior h]

theorem fullDests_of_interior (es : List (Fin 16 × DeliveryEntry)) : fullDests s es = fullDests t es := by
  unfold fullDests
  simp only [queue_of_interior h]

/-! ### Flags, records and frames to the head -/

theorem interior_raise_congr (f : Flag) : (raise f s).interior = (raise f t).interior := by
  rw [interior_raise, interior_raise]
  exact interior_setFlag_congr h f true

theorem interior_returnReserve_congr (g : Tag) : (returnReserve g s).interior = (returnReserve g t).interior := by
  unfold returnReserve
  rw [sheet?_of_interior h]
  cases t.sheet? g with
  | none => exact h
  | some r =>
    exact interior_modSheet_congr (interior_update_congr
      (fun u => { u with free := u.free + r.reserve, reserved := u.reserved - r.reserve }) (fun _ => rfl) h) g _

theorem interior_freeRecord_congr (g : Tag) : (freeRecord g s).interior = (freeRecord g t).interior := by
  cases hs : t.sheet? g with
  | none => rwa [freeRecord_of_absent hs, freeRecord_of_absent ((sheet?_of_interior h g).trans hs)]
  | some r =>
    rw [freeRecord_of_sheet? hs, freeRecord_of_sheet? ((sheet?_of_interior h g).trans hs)]
    exact interior_update_congr (freedOf r) (fun _ => rfl) h

theorem interior_sendHead_congr (l : Fin 8) (frame : List Byte) :
    (sendHead l frame s).interior = (sendHead l frame t).interior := by
  unfold sendHead
  rw [lane_of_interior h]
  split
  · exact interior_modLane_congr h l _
  · exact h

theorem interior_leaveOrder_congr (l : Fin 8) (g : Tag) : (leaveOrder l g s).interior = (leaveOrder l g t).interior :=
  interior_modSheet_congr (interior_returnReserve_congr (interior_modLane_congr h l _) g) g _

theorem interior_numberSheet_congr (g : Tag) : (numberSheet g s).interior = (numberSheet g t).interior := by
  unfold numberSheet
  rw [sheet?_of_interior h]
  cases t.sheet? g with
  | none => exact h
  | some r =>
    have numbered := interior_modBatch_congr h r.batch Batch.number
    simp only [batchOf_of_interior numbered]
    exact interior_modSheet_congr numbered g _

theorem interior_dropSheet_congr (count : Batch → Batch) (l : Fin 8) (g : Tag) :
    (dropSheet count l g s).interior = (dropSheet count l g t).interior := by
  unfold dropSheet
  rw [sheet?_of_interior h]
  cases t.sheet? g with
  | none => exact interior_modLane_congr h l _
  | some r =>
    have left := interior_modBatch_congr (interior_leaveOrder_congr h l g) r.batch
      (fun b => count { b with settled := addSat b.settled 1 })
    simp only [imagesComplete_of_interior h]
    refine interior_freeRecord_congr ?_ g
    split
    · exact left
    · exact interior_sendHead_congr left l _

/-! ### The lane and its batch -/

theorem interior_halt_congr (l : Fin 8) (r : HaltReason) : (halt l r s).interior = (halt l r t).interior := by
  unfold halt
  rw [lane_of_interior h]
  split
  · exact interior_raise_congr (interior_modLane_congr h l _) _
  · exact h

theorem interior_endFeeding_congr (l : Fin 8) : (endFeeding l s).interior = (endFeeding l t).interior := by
  unfold endFeeding
  rw [lane_of_interior h, activeBatch_of_interior h]
  cases t.activeBatch l with
  | none => exact interior_update_congr (fun u => u.setLane l _) (fun _ => rfl) h
  | some id => exact interior_update_congr (fun u => u.setLane l _) (fun _ => rfl) (interior_modBatch_congr h id _)

theorem interior_finishBatch_congr (final : FinalState) (id : Nat) :
    (finishBatch final id s).interior = (finishBatch final id t).interior := by
  cases hb : t.batch? id with
  | none => simpa [finishBatch, hb, batch?_of_interior h] using h
  | some b =>
    rw [interior_finishBatch final hb, interior_finishBatch final ((batch?_of_interior h id).trans hb)]
    exact interior_setFlag_congr (interior_update_congr (fun u => { u with
      batches := u.batches.filter (fun c => decide (c.id ≠ b.id)), lastReport := some ⟨b, final⟩ }) (fun _ => rfl) h) _ _

theorem interior_testClosure_congr (id : Nat) : (testClosure id s).interior = (testClosure id t).interior := by
  unfold testClosure
  rw [batch?_of_interior h]
  cases t.batch? id with
  | none => exact h
  | some b =>
    dsimp only
    split
    · exact interior_finishBatch_congr h _ id
    · exact h

theorem interior_testAbort_congr (id : Nat) : (testAbort id s).interior = (testAbort id t).interior := by
  unfold testAbort
  rw [batch?_of_interior h]
  cases t.batch? id with
  | none => exact h
  | some b =>
    simp only [inLaneQueue_of_interior h]
    split
    · exact interior_finishBatch_congr h _ id
    · exact h

theorem interior_batchLeaves_congr (l : Fin 8) : (batchLeaves l s).interior = (batchLeaves l t).interior := by
  unfold batchLeaves
  rw [lane_of_interior h, activeBatch_of_interior h]
  have uncaused := interior_modLane_congr h l (fun x => { x with drainCause := .none })
  cases t.activeBatch l with
  | none => exact uncaused
  | some id =>
    dsimp only
    cases (t.lane l).drainCause with
    | none | pause => exact interior_modBatch_congr uncaused id _
    | feedEnd =>
      exact interior_testClosure_congr (interior_raise_congr
        (interior_modLane_congr (interior_modBatch_congr uncaused id _) l _) _) id
    | abort => exact interior_testAbort_congr (interior_modLane_congr uncaused l _) id

theorem interior_drainTest_congr (l : Fin 8) : (drainTest l s).interior = (drainTest l t).interior := by
  unfold drainTest
  rw [lane_of_interior h]
  split
  · exact interior_batchLeaves_congr (interior_modLane_congr h l _) l
  · exact h

/-! ### The outcomes -/

theorem interior_settleHeld_congr (l : Fin 8) (g : Tag) : (settleHeld l g s).interior = (settleHeld l g t).interior := by
  unfold settleHeld
  rw [held_of_interior h, sheet?_of_interior h]
  split
  · exact interior_raise_congr (interior_dropSheet_congr (interior_numberSheet_congr h g) _ l g) _
  · cases t.sheet? g with
    | none => exact h
    | some r =>
      have counted := interior_modBatch_congr (interior_leaveOrder_congr h l g) r.batch (fun b =>
        { b with settled := addSat b.settled 1, heldNow := addSat b.heldNow 1, holds := addSat b.holds 1 })
      have written := interior_modSheet_congr (interior_numberSheet_congr counted g) g
        (fun q => { q with state := .held, outcome := some .held })
      exact interior_halt_congr (interior_raise_congr
        (interior_update_congr (fun u => { u with held := u.held ++ [⟨g, r.batch, r.findings⟩] }) (fun _ => rfl) written) _)
        l _

theorem interior_applyMatch_congr (l : Fin 8) (g : Tag) (i : Fin 8) :
    (applyMatch l g i s).interior = (applyMatch l g i t).interior := by
  unfold applyMatch
  rw [sheet?_of_interior h, separators_of_interior h]
  cases t.sheet? g with
  | none => exact h
  | some r =>
    have marked := interior_modBatch_congr (interior_modSheet_congr h g (fun q => { q with separatorMatch := some i }))
      r.batch (fun b => { b with breakPending := true })
    dsimp only
    split
    · exact marked
    · exact interior_endFeeding_congr marked l

theorem interior_appendEntry_congr (e : Fin 16 × DeliveryEntry) :
    (appendEntry s e).interior = (appendEntry t e).interior := by
  have appended : (s.modDest e.1 (fun x => { x with queue := x.queue ++ [e.2] })).interior =
      (t.modDest e.1 (fun x => { x with queue := x.queue ++ [e.2] })).interior := by
    rw [interior_modDest s e.1 _ (fun _ => rfl), h, interior_modDest t e.1 _ (fun _ => rfl)]
  unfold appendEntry
  simp only [queue_of_interior h, warn_of_interior h]
  split
  · exact interior_raise_congr appended _
  · exact appended

omit h in
theorem interior_appendEntries_congr (es : List (Fin 16 × DeliveryEntry)) (h : s.interior = t.interior) :
    (es.foldl appendEntry s).interior = (es.foldl appendEntry t).interior := by
  induction es generalizing s t with
  | nil => exact h
  | cons e rest ih => exact ih (interior_appendEntry_congr h e)

theorem interior_deliver_congr (g : Tag) (kind : Kind) (es : List (Fin 16 × DeliveryEntry)) :
    (deliver g kind es s).interior = (deliver g kind es t).interior := by
  unfold deliver
  rw [sheet?_of_interior h, activeBank_of_interior h]
  cases t.sheet? g with
  | none => exact h
  | some r => exact interior_modBatch_congr (interior_modSheet_congr (interior_appendEntries_congr es h) g _) r.batch _

theorem interior_freeIfIdle_congr (g : Tag) (es : List (Fin 16 × DeliveryEntry)) :
    (freeIfIdle g es s).interior = (freeIfIdle g es t).interior := by
  unfold freeIfIdle
  split
  · exact interior_freeRecord_congr h g
  · exact h

theorem interior_settleReleased_congr (l : Fin 8) (g : Tag) (id : Nat) (kind : Kind) (sep : Option (Fin 8))
    (es : List (Fin 16 × DeliveryEntry)) :
    (settleReleased l g id kind sep es s).interior = (settleReleased l g id kind sep es t).interior := by
  have counted : (countReleased id (deliver g kind es (leaveOrder l g s))).interior =
      (countReleased id (deliver g kind es (leaveOrder l g t))).interior :=
    interior_modBatch_congr (interior_deliver_congr (interior_leaveOrder_congr h l g) g kind es) id _
  unfold settleReleased
  refine interior_freeIfIdle_congr ?_ g es
  split
  · exact interior_applyMatch_congr counted l g _
  · exact interior_numberSheet_congr counted g

theorem interior_settleSeparator_congr (l : Fin 8) (g : Tag) (id : Nat) (i : Fin 8) :
    (settleSeparator l g id i s).interior = (settleSeparator l g id i t).interior :=
  interior_freeRecord_congr (interior_applyMatch_congr
    (interior_modBatch_congr (interior_leaveOrder_congr h l g) id _) l g i) g

theorem interior_routeSheet_congr (l : Fin 8) (r : Sheet) (sep : Option (Fin 8)) :
    (routeSheet l r sep s).interior = (routeSheet l r sep t).interior := by
  unfold routeSheet
  simp only [deliveryEntries_of_interior h, fullDests_of_interior h]
  cases deliveryEntries t r (chooseKind r sep) with
  | none => exact interior_settleHeld_congr (interior_modSheet_congr h r.tag _) l r.tag
  | some es =>
    dsimp only
    split
    · exact interior_settleReleased_congr h l r.tag r.batch _ sep es
    · exact interior_modSheet_congr h r.tag _

theorem interior_decideOutcome_congr (l : Fin 8) (r : Sheet) :
    (decideOutcome l r s).interior = (decideOutcome l r t).interior := by
  unfold decideOutcome
  rw [batchAborting_of_interior h, holdReason_of_interior h, separatorMatch_of_interior h, separators_of_interior h]
  split
  · exact interior_dropSheet_congr h _ l r.tag
  · split
    · exact interior_dropSheet_congr h _ l r.tag
    · split
      · exact interior_settleHeld_congr h l r.tag
      · cases separatorMatch t r with
        | none => exact interior_routeSheet_congr h l r none
        | some i =>
          dsimp only
          split
          · exact interior_routeSheet_congr h l r (some i)
          · exact interior_settleSeparator_congr h l r.tag r.batch i

/-! ### The cursor -/

theorem interior_settleCursor_congr (l : Fin 8) (g : Tag) :
    (settleCursor l g s).interior = (settleCursor l g t).interior := by
  unfold settleCursor
  rw [sheet?_of_interior h]
  cases t.sheet? g with
  | none => exact interior_modLane_congr h l _
  | some r => exact interior_decideOutcome_congr (interior_modSheet_congr h g _) l _

omit h in
theorem interior_settleLoop_congr (l : Fin 8) (k : Nat) (h : s.interior = t.interior) :
    (settleLoop l k s).interior = (settleLoop l k t).interior := by
  induction k generalizing s t with
  | zero => exact h
  | succ k ih =>
    unfold settleLoop
    rw [lane_of_interior h]
    cases (t.lane l).settleOrder with
    | nil => exact h
    | cons g rest =>
      have settled := interior_settleCursor_congr h l g
      simp only [cursorReady_of_interior h, lane_of_interior settled]
      split
      · split
        · exact settled
        · exact ih settled
      · exact h

theorem interior_poke_congr (l : Fin 8) : (poke l s).interior = (poke l t).interior := by
  unfold poke
  rw [lane_of_interior h]
  exact interior_settleLoop_congr l _ h

theorem interior_pokeLane_congr (l : Fin 8) : (pokeLane l s).interior = (pokeLane l t).interior :=
  interior_drainTest_congr (interior_poke_congr h l) l

theorem interior_examine_congr (l : Fin 8) : (examine l s).interior = (examine l t).interior := by
  unfold examine
  rw [cursorWait_of_interior h]
  split
  · exact interior_poke_congr h l
  · exact h

theorem interior_settleLane_congr (l : Fin 8) : (settleLane l s).interior = (settleLane l t).interior :=
  interior_drainTest_congr (interior_examine_congr h l) l

end

/-- R105: what a SETTLEMENT leaves depends on the interior alone. -/
theorem settlement_of_interior {s t : State} (l : Fin 8) (h : s.interior = t.interior) :
    ∃ v, exec (.settlement l) t = .next v ∧ (kickPorts (settleLane l s)).interior = v.interior := by
  refine ⟨kickPorts (settleLane l t), rfl, ?_⟩
  rw [interior_kickPorts, interior_kickPorts]
  exact interior_settleLane_congr h l

end Sys2Proof.Machine
end

section
/-!
PROOF. Edges of the sensor lines (R5), examinations that leave the cursor where it is (R105, R106), and the double-feed
action check (R54).
-/

namespace Sys2Proof.Machine

/-! ### Edges -/

/-- R5, R71: an edge to active is sensed on a line that is not active. -/
theorem Lane.edgeTo_active {x : Lane} {r : Role} {n : Fin 8} (hn : x.lineWith r = some n)
    (ha : (x.line n).isActive = false) :
    x.edgeTo r true = some (x.setLine n { x.line n with sensed := (x.line n).activeLevel }) := by
  simp [Lane.edgeTo, hn, ha]

theorem Lane.edgeTo_inactive {x : Lane} {r : Role} {n : Fin 8} (hn : x.lineWith r = some n)
    (ha : (x.line n).isActive = true) :
    x.edgeTo r false = some (x.setLine n { x.line n with sensed := (x.line n).activeLevel.opposite }) := by
  simp [Lane.edgeTo, hn, ha]

/-! ### Records and batches after updates -/

theorem State.modLane_id (s : State) (l : Fin 8) : s.modLane l (fun x => x) = s := by
  simp [State.modLane, State.setLane, State.lane]

theorem State.modSheet_of_absent {s : State} {g : Tag} (h : s.sheet? g = none) (f : Sheet → Sheet) :
    s.modSheet g f = s := by
  have kept : s.sheets.map (fun r => if r.tag = g then f r else r) = s.sheets := by
    refine (List.map_congr_left fun r hr => ?_).trans (List.map_id _)
    have other : r.tag ≠ g := by simpa using List.find?_eq_none.mp h r hr
    simp [other]
  simp only [State.modSheet, kept]

/-- What an update of a batch leaves of every batch, it leaves of every record found. -/
theorem batchOf_modBatch_of_kept {α : Type} (s : State) (id k : Nat) (part : Batch → α) {f : Batch → Batch}
    (hid : ∀ b, (f b).id = b.id) (hf : ∀ b, part (f b) = part b) :
    part ((s.modBatch id f).batchOf k) = part (s.batchOf k) := by
  unfold State.batchOf
  by_cases hk : k = id
  · subst hk
    rw [State.batch?_modBatch_same s k f hid]
    cases s.batch? k <;> simp [hf]
  · rw [State.batch?_modBatch_other s f hid hk]

/-! ### Cursors that stay -/

/-- Record `q'` of state `t` is as far from settlement as record `q` of state `s` (R106, R117). -/
structure StillWaits (s : State) (q : Sheet) (t : State) (q' : Sheet) : Prop where
  queueWait : q'.queueWait = q.queueWait
  state : q.state ≠ .ready → q'.state ≠ .ready
  jam : q'.findings.jam = q.findings.jam
  divertDone : q'.divertDone = q.divertDone
  imageTimeout : q'.imageTimeout = q.imageTimeout
  aborting : batchAborting t q' = batchAborting s q
  complete : imagesComplete t q' = imagesComplete s q

/-- A record that stays as it is waits as before while its batch aborts no sooner and expects the same sides. -/
theorem StillWaits.of_batch {s t : State} {q : Sheet}
    (ha : (decide ((t.batchOf q.batch).state = .aborted)) = decide ((s.batchOf q.batch).state = .aborted))
    (hs : (t.batchOf q.batch).sides = (s.batchOf q.batch).sides) : StillWaits s q t q :=
  ⟨rfl, id, rfl, rfl, rfl, ha, by unfold imagesComplete; rw [hs]⟩

/-- R105, R106: a cursor that stays in `s` stays in `t`, when the same sheet stands there and waits as before. -/
theorem cursorStays_of_stillWaits {s t : State} {l : Fin 8} (h : cursorStays s l)
    (head : (t.lane l).settleOrder.head? = (s.lane l).settleOrder.head?)
    (kept : ∀ u q, (s.lane l).settleOrder.head? = some u → s.sheet? u = some q →
      ∃ q', t.sheet? u = some q' ∧ StillWaits s q t q') : cursorStays t l := by
  rcases h with h | h | ⟨u, rest, q, order, found, wait, ready, jam, aborting, divert, complete, timeout⟩
  · left
    cases order : (s.lane l).settleOrder with
    | nil => simp [cursorWait, order] at h
    | cons u rest =>
      cases found : s.sheet? u with
      | none => simp [cursorWait, order, found] at h
      | some q =>
        obtain ⟨q', found', waits⟩ := kept u q (by rw [order]; rfl) found
        obtain ⟨rest', order'⟩ := List.head?_eq_some_iff.mp (head.trans (by rw [order]; rfl))
        simp only [cursorWait, order, found] at h
        simpa only [cursorWait, order', found', waits.queueWait] using h
  · right; left
    simpa [h] using head
  · right; right
    obtain ⟨q', found', waits⟩ := kept u q (by rw [order]; rfl) found
    obtain ⟨rest', order'⟩ := List.head?_eq_some_iff.mp (head.trans (by rw [order]; rfl))
    exact ⟨u, rest', q', order', found', waits.queueWait.trans wait, waits.state ready, waits.jam.trans jam,
      waits.aborting.trans aborting, waits.divertDone.trans divert, waits.complete.trans complete,
      waits.imageTimeout.trans timeout⟩

theorem examine_of_cursorStays {s : State} {l : Fin 8} (h : cursorStays s l) : examine l s = s := by
  rcases h with h | h
  · simp [examine, h]
  · exact examine_of_cursorWaits h

/-- R43, R105: with a cursor that stays and a drain that is not complete, examination and drain test do nothing. -/
theorem settleLane_of_cursorStays {s : State} {l : Fin 8} (h : cursorStays s l) (hd : (s.lane l).drained = false) :
    settleLane l s = s := by
  unfold settleLane
  rw [examine_of_cursorStays h, drainTest_of_not_drained hd]

theorem drained_of_settleOrder {x : Lane} (h : x.settleOrder ≠ []) : x.drained = false := by
  cases hx : x.settleOrder with
  | nil => exact absurd hx h
  | cons => simp [Lane.drained, hx]

theorem drained_of_path {x : Lane} (h : x.path ≠ []) : x.drained = false := by
  cases hx : x.path with
  | nil => exact absurd hx h
  | cons => simp [Lane.drained, hx]

/-- R106: a cursor sheet that still lacks its trail, with no finding JAM, no divert done and no batch aborting, stays. -/
theorem examine_of_no_trail {s : State} {l : Fin 8} {g : Tag} {rest : List Tag} {r : Sheet}
    (order : (s.lane l).settleOrder = g :: rest) (found : s.sheet? g = some r) (ready : r.state ≠ .ready)
    (jam : r.findings.jam = false) (aborting : batchAborting s r = false) (divert : r.divertDone = false)
    (trail : r.trail = none) : examine l s = s := by
  unfold examine
  split
  case isFalse => rfl
  have notReady : cursorReady s g = false := by
    simp [cursorReady, found, sheetReady, ready, jam, aborting, divert, trail]
  unfold poke
  rw [order]
  simp [settleLoop, order, notReady]

/-! ### The double-feed action check (R54) -/

/-- The state with a halt cause taken by a lane that it halts (R40). -/
def haltedFor (l : Fin 8) (why : HaltReason) (s : State) : State :=
  (s.modLane l (fun x => { x with
    state := .halted, haltReason := why, spinTarget := none, spinRemaining := none, pickPulseEnd := none,
    pickDriven := false })).setFlag (.lane l .halt) true

theorem interior_halt_of_haltsIn {l : Fin 8} {why : HaltReason} {s : State} (h : haltsIn why (s.lane l).state = true) :
    (halt l why s).interior = (haltedFor l why s).interior := by
  rw [interior_halt, if_pos h]
  rfl

theorem halt_of_not_haltsIn {l : Fin 8} {why : HaltReason} {s : State} (h : haltsIn why (s.lane l).state = false) :
    halt l why s = s := by
  simp [halt, h]

theorem haltsIn_suspect (x : LaneState) : haltsIn .suspect x = true ↔ x = .spinup ∨ x = .feeding := by
  cases x <;> simp [haltsIn]

theorem haltsIn_tableFull {x : LaneState} (h : x.attributing = true) : haltsIn .tableFull x = true ↔ x ≠ .halted := by
  cases x <;> simp_all [haltsIn, LaneState.attributing]

/-- R54: nothing is done for a sheet without a measurement finding. -/
theorem doubleFeedCheck_of_clean {s : State} {l : Fin 8} {g : Tag} {r : Sheet} (h : s.sheet? g = some r)
    (hm : r.findings.measurement = false) : doubleFeedCheck l g s = s := by
  simp [doubleFeedCheck, h, hm]

/-- R54: a measurement finding flags SUSPECT, and halts a lane in SPINUP or FEEDING with double-feed action STOP or past the
divert point. -/
theorem interior_doubleFeedCheck {s : State} {l : Fin 8} {g : Tag} {r : Sheet} (h : s.sheet? g = some r)
    (hm : r.findings.measurement = true) :
    (doubleFeedCheck l g s).interior =
      if ((s.batchOf r.batch).action = .stop ∨ r.pastDivert = true) ∧
          ((s.lane l).state = .spinup ∨ (s.lane l).state = .feeding) then
        (haltedFor l .suspect (s.setFlag (.lane l .suspect) true)).interior
      else (s.setFlag (.lane l .suspect) true).interior := by
  have flagged := interior_raise (.lane l .suspect) s
  have lane : (raise (.lane l .suspect) s).lane l = s.lane l := lane_of_interior flagged l
  simp only [doubleFeedCheck, h, hm, if_true]
  by_cases stops : (s.batchOf r.batch).action = .stop ∨ r.pastDivert = true
  · rw [if_pos stops, interior_halt_congr flagged]
    by_cases feeds : (s.lane l).state = .spinup ∨ (s.lane l).state = .feeding
    · rw [if_pos ⟨stops, feeds⟩]
      exact interior_halt_of_haltsIn ((haltsIn_suspect _).mpr feeds)
    · rw [if_neg fun k => feeds k.2, halt_of_not_haltsIn]
      exact Bool.eq_false_iff.mpr fun k => feeds ((haltsIn_suspect _).mp k)
  · rw [if_neg stops, if_neg fun k => stops k.1]
    exact flagged

end Sys2Proof.Machine
end

section
/-!
PROOF. Leads (R5, R6, R51, R52, R54): what a lead taken by a sheet does, and the state it leaves before the settlement cursor
is examined.
-/

namespace Sys2Proof.Machine

/-! ### The end of feeding at a lead (R42, R51) -/

/-- Whether batch `b`'s next lead is its expected last (R42, R51). -/
abbrev Batch.atLast (b : Batch) : Prop := 0 < b.expected ∧ min (b.fed + 1) 65535 = b.expected

/-- A lane at the end of feeding of its batch (R42). -/
def Lane.fedOut (x : Lane) : Lane :=
  let y := { x with drainCause := if x.drainCause = .abort then .abort else .feedEnd }
  if x.state = .spinup ∨ x.state = .feeding then
    { y with state := .draining, haltReason := .none, spinTarget := none, spinRemaining := none }
  else y

theorem endFeeding_of_active {s : State} {l : Fin 8} {id : Nat} (h : s.activeBatch l = some id) :
    endFeeding l s = (s.modBatch id (fun b => if b.state = .feeding then { b with state := .draining } else b)).modLane l
      Lane.fedOut := by
  simp only [endFeeding, h]
  rfl

/-- An update of a batch that leaves its state leaves the active batches (R39). -/
theorem activeBatch_modBatch (s : State) (l : Fin 8) (id : Nat) {f : Batch → Batch} (hid : ∀ b, (f b).id = b.id)
    (hf : ∀ b, (f b).state = b.state) : (s.modBatch id f).activeBatch l = s.activeBatch l := by
  unfold State.activeBatch
  change (match (s.lane l).batchQueue with | [] => _ | k :: _ => _) = _
  cases (s.lane l).batchQueue with
  | nil => rfl
  | cons k rest =>
    dsimp only
    by_cases hk : k = id
    · subst hk
      rw [State.batch?_modBatch_same s k f hid]
      cases s.batch? k with
      | none => rfl
      | some b => simp only [Option.map_some, hf]
    · rw [State.batch?_modBatch_other s f hid hk]

theorem activeBatch_of_parts {s t : State} {l : Fin 8} (hq : (s.lane l).batchQueue = (t.lane l).batchQueue)
    (hb : s.batches = t.batches) : s.activeBatch l = t.activeBatch l := by
  simp only [State.activeBatch, State.batch?, hq, hb]

/-! ### A lead taken by a sheet (R51) -/

theorem sendHead_eq (l : Fin 8) (frame : List Byte) (s : State) :
    sendHead l frame s =
      s.modLane l (fun x => { x with toHead := if x.linkUp = true then x.toHead ++ [frame] else x.toHead }) := by
  unfold sendHead
  split
  case isTrue up => exact State.modLane_congr s l (by rw [if_pos up])
  case isFalse down => exact ((State.modLane_congr s l (by rw [if_neg down])).trans (State.modLane_id s l)).symm

/-- A lane whose gate sheet `g` has just entered (R6, R12, R18, R51, R86). -/
def Lane.entered (g : Tag) (i : Fin 16) (p : Profile) (x : Lane) : Lane :=
  { x with
    path := x.path ++ [⟨g, false, none⟩], settleOrder := x.settleOrder ++ [g], gateHolder := some g
    sampleDue := some (x.counter + BitVec.ofNat 20 x.config.sampleInterval)
    gateLimit := some (x.counter + BitVec.ofNat 20 x.config.gateLimit)
    acc := openAccumulator g i p
    toHead := if x.linkUp = true then x.toHead ++ [announceFrame g] else x.toHead }

/-- A batch with one more sheet fed (R51). -/
def Batch.fedOne (b : Batch) : Batch := { b with fed := min (b.fed + 1) 65535 }

/-- A batch `c` with one more sheet fed, where `b` says whether it is the last (R42, R51). -/
def Batch.counted (b c : Batch) : Batch :=
  { c with fed := min (c.fed + 1) 65535, state := if b.atLast ∧ c.state = .feeding then .draining else c.state }

/-- The state with a lead taken by sheet `g` of batch `b`, of the id `id` (R51). -/
def leadTaken (l : Fin 8) (g : Tag) (id : Nat) (b : Batch) (s : State) : State :=
  ((s.modSheet g (fun q => { q with lead := some (s.lane l).counter, state := .inGate })).modLane l (fun x =>
    if b.atLast then (x.entered g b.profile (s.profile b.profile)).fedOut
    else x.entered g b.profile (s.profile b.profile))).modBatch id b.counted

theorem feedingDone_fedOne (b : Batch) : feedingDone b.fedOne = true ↔ b.atLast := by
  unfold feedingDone Batch.fedOne
  rw [Bool.and_eq_true, decide_eq_true_iff, decide_eq_true_iff]

/-- The sheet in the gate, the lane and ANNOUNCE, before the batch counts it (R6, R12, R18, R86). -/
theorem takeLead_entered (s : State) (l : Fin 8) (g : Tag) (id : Nat) :
    takeLead l g id s =
      (let led := ((s.modSheet g (fun q => { q with lead := some (s.lane l).counter, state := .inGate })).modLane l
        (Lane.entered g (s.batchOf id).profile (s.profile (s.batchOf id).profile))).modBatch id Batch.fedOne
       if feedingDone (led.batchOf id) then endFeeding l led else led) := by
  unfold takeLead
  simp only [sendHead_eq, State.modLane_modLane]
  rfl

/-- R42, R51: all that taking a lead does. -/
theorem takeLead_eq {s : State} {l : Fin 8} {g : Tag} {id : Nat} {b : Batch} (hb : s.batch? id = some b)
    (hlast : b.atLast → s.activeBatch l = some id) : takeLead l g id s = leadTaken l g id b s := by
  have batch : s.batchOf id = b := by simp [State.batchOf, hb]
  rw [takeLead_entered, batch]
  dsimp only
  set led := (s.modSheet g (fun q => { q with lead := some (s.lane l).counter, state := .inGate })).modLane l
    (Lane.entered g b.profile (s.profile b.profile)) with hled
  have fed : (led.modBatch id Batch.fedOne).batchOf id = b.fedOne :=
    State.batchOf_modBatch_same led id Batch.fedOne (fun _ => rfl) hb
  rw [fed]
  by_cases last : b.atLast
  · have active : (led.modBatch id Batch.fedOne).activeBatch l = some id := by
      rw [activeBatch_modBatch led l id (f := Batch.fedOne) (fun _ => rfl) (fun _ => rfl), ← hlast last]
      exact activeBatch_of_parts (by rw [hled, State.lane_modLane_same]; rfl) rfl
    have counted : (fun c : Batch => if c.state = .feeding then { c with state := .draining } else c) ∘ Batch.fedOne =
        b.counted := by
      funext c
      by_cases feeding : c.state = .feeding <;> simp [Batch.fedOne, Batch.counted, last, feeding]
    rw [if_pos ((feedingDone_fedOne b).mpr last), endFeeding_of_active active,
      State.modBatch_modBatch _ _ Batch.fedOne _ (fun _ => rfl), counted]
    change (led.modLane l Lane.fedOut).modBatch id b.counted = _
    rw [hled, State.modLane_modLane]
    simp only [leadTaken, if_pos last]
    rfl
  · have counted : Batch.fedOne = b.counted := by
      funext c
      simp [Batch.fedOne, Batch.counted, last]
    rw [if_neg fun k => last ((feedingDone_fedOne b).mp k), counted]
    simp only [leadTaken, if_neg last]
    rfl

end Sys2Proof.Machine
end

section
/-!
PROOF. LEAD: with a picking sheet, with none, with the sheet table full, and at rest (R5, R6, R51, R52, R54, R105).
-/

namespace Sys2Proof.Machine

/-! ### The edge -/

/-- A lane with the edge of a lead sensed on line `n` and captured (R5, R71). -/
def Lane.leadSensed (n : Fin 8) (x : Lane) : Lane :=
  { x.setLine n { x.line n with sensed := (x.line n).activeLevel } with lastLead := x.counter }

/-- R5: all that LEAD does. -/
theorem exec_lead {s : State} {l n : Fin 8} (hn : (s.lane l).lineWith .entry = some n)
    (ha : ((s.lane l).line n).isActive = false) :
    exec (.lead l) s = .next (if (s.lane l).state.attributing = true then
      kickPorts (attributeLead l (s.modLane l (Lane.leadSensed n))) else s.modLane l (Lane.leadSensed n)) := by
  change execLead l s = _
  unfold execLead
  rw [Lane.edgeTo_active hn ha]
  rfl

theorem exec_lead_attributed {s : State} {l n : Fin 8} (hn : (s.lane l).lineWith .entry = some n)
    (ha : ((s.lane l).line n).isActive = false) (h : (s.lane l).state.attributing = true)
    (room : (s.lane l).path.length < 128) :
    exec (.lead l) s = .next (kickPorts (match (s.lane l).picking with
      | some g => pickedLead l g (s.modLane l (Lane.leadSensed n))
      | none => unexpectedLead l (s.modLane l (Lane.leadSensed n)))) := by
  have free : ¬ pathCapacity ≤ (Lane.leadSensed n (s.lane l)).path.length := Nat.not_le.mpr room
  rw [exec_lead hn ha, if_pos h]
  unfold attributeLead
  simp only [State.lane_modLane_same, if_neg free]
  rfl

/-! ### The sheet that joins -/

theorem leadTaken_modLane (s : State) (l : Fin 8) (f : Lane → Lane) (g : Tag) (id : Nat) (b : Batch)
    (hf : ∀ x, (f x).counter = x.counter) :
    leadTaken l g id b (s.modLane l f) =
      ((s.modSheet g (fun q => { q with lead := some (s.lane l).counter, state := .inGate })).modLane l (fun x =>
        if b.atLast then ((f x).entered g b.profile (s.profile b.profile)).fedOut
        else (f x).entered g b.profile (s.profile b.profile))).modBatch id b.counted := by
  unfold leadTaken
  rw [State.lane_modLane_same, hf]
  change (((s.modSheet g _).modLane l f).modLane l _).modBatch id b.counted = _
  rw [State.modLane_modLane]
  rfl

theorem Batch.counted_aborted (b c : Batch) : decide ((b.counted c).state = .aborted) = decide (c.state = .aborted) := by
  unfold Batch.counted
  dsimp only
  split
  case isTrue h => rw [h.2]; rfl
  case isFalse => rfl

/-- A lane whose newest sheet joins behind a cursor that stays, or alone without being ready, is left as it is (R105). -/
theorem settleLane_of_newest {s t : State} {l : Fin 8} {g : Tag} (stays : cursorStays s l)
    (order : (t.lane l).settleOrder = (s.lane l).settleOrder ++ [g])
    (kept : ∀ u q, (s.lane l).settleOrder.head? = some u → s.sheet? u = some q →
      ∃ q', t.sheet? u = some q' ∧ StillWaits s q t q')
    (alone : (s.lane l).settleOrder = [] → examine l t = t) : settleLane l t = t := by
  have busy : (t.lane l).drained = false := drained_of_settleOrder (by rw [order]; simp)
  cases ho : (s.lane l).settleOrder with
  | nil =>
    unfold settleLane
    rw [alone ho, drainTest_of_not_drained busy]
  | cons u rest =>
    exact settleLane_of_cursorStays (cursorStays_of_stillWaits stays (by rw [order, ho]; rfl) kept) busy

theorem settleOrder_entered (g : Tag) (i : Fin 16) (p : Profile) (x : Lane) (b : Batch) :
    (if b.atLast then (x.entered g i p).fedOut else x.entered g i p).settleOrder = x.settleOrder ++ [g] := by
  unfold Lane.fedOut
  split
  · dsimp only
    split <;> rfl
  · rfl

/-! ### The lead of the picking sheet (R6, R51) -/

/-- A lane whose picking sheet is about to be gone (R6). -/
def Lane.unpicked (x : Lane) : Lane := { x with picking := none, pickWindow := none }

/-- The state with the lead of picking sheet `g`, of batch `b`, taken and the settlement cursor not yet examined. -/
def pickTaken (l n : Fin 8) (g : Tag) (id : Nat) (b : Batch) (s : State) : State :=
  ((s.modSheet g (fun q => { q with lead := some (s.lane l).counter, state := .inGate })).modLane l (fun x =>
    if b.atLast then ((x.leadSensed n).unpicked.entered g b.profile (s.profile b.profile)).fedOut
    else (x.leadSensed n).unpicked.entered g b.profile (s.profile b.profile))).modBatch id b.counted

theorem pickedLead_eq {s : State} {l : Fin 8} {g : Tag} {r : Sheet} {b : Batch} (n : Fin 8) (hr : s.sheet? g = some r)
    (hb : s.batch? r.batch = some b) (hlast : b.atLast → s.activeBatch l = some r.batch) :
    pickedLead l g (s.modLane l (Lane.leadSensed n)) = settleLane l (pickTaken l n g r.batch b s) := by
  have batch : ((s.modLane l (Lane.leadSensed n)).sheet? g).elim 0 Sheet.batch = r.batch :=
    congrArg (fun o : Option Sheet => o.elim 0 Sheet.batch) hr
  unfold pickedLead
  rw [batch, State.modLane_modLane]
  change settleLane l (takeLead l g r.batch (s.modLane l (Lane.unpicked ∘ Lane.leadSensed n))) = _
  rw [takeLead_eq (b := b) (by exact hb) (fun last => ?_), leadTaken_modLane _ _ _ _ _ _ fun _ => by rfl]
  · rfl
  · rw [← hlast last]
    exact activeBatch_of_parts (by rw [State.lane_modLane_same]; rfl) rfl

/-- R105, R106: behind a cursor that stays, or alone and with nothing that makes it ready, the new sheet stays. -/
theorem settleLane_pickTaken {s : State} {l n : Fin 8} {g : Tag} {r : Sheet} {b : Batch} (hr : s.sheet? g = some r)
    (hb : s.batch? r.batch = some b) (stays : cursorStays s l) (head : (s.lane l).settleOrder.head? ≠ some g)
    (waits : (s.lane l).settleOrder ≠ [] ∨
      (r.findings = .empty ∧ r.trail = none ∧ r.divertDone = false ∧ b.state ≠ .aborted)) :
    settleLane l (pickTaken l n g r.batch b s) = pickTaken l n g r.batch b s := by
  set t := pickTaken l n g r.batch b s with ht
  have order : (t.lane l).settleOrder = (s.lane l).settleOrder ++ [g] := by
    rw [ht, pickTaken, State.lane_modBatch, State.lane_modLane_same]
    exact settleOrder_entered g _ _ _ b
  have aborting : ∀ id, decide ((t.batchOf id).state = .aborted) = decide ((s.batchOf id).state = .aborted) := fun id =>
    batchOf_modBatch_of_kept _ r.batch id (fun c => decide (c.state = .aborted)) (fun _ => rfl) (Batch.counted_aborted b)
  have sides : ∀ id, (t.batchOf id).sides = (s.batchOf id).sides := fun id =>
    batchOf_modBatch_of_kept _ r.batch id Batch.sides (fun _ => rfl) (fun _ => rfl)
  refine settleLane_of_newest stays order (fun u q hu hq => ⟨q, ?_, .of_batch (aborting _) (sides _)⟩) fun empty => ?_
  · have other : u ≠ g := fun e => head (e ▸ hu)
    exact (State.sheet?_modSheet_other s _ (fun _ => by rfl) other).trans hq
  · obtain ⟨findings, trail, divert, live⟩ := waits.resolve_left (fun k => k empty)
    have found : t.sheet? g = some { r with lead := some (s.lane l).counter, state := .inGate } :=
      (State.sheet?_modSheet_same s g _ (fun _ => by rfl)).trans (by rw [hr]; rfl)
    have running : batchAborting t r = false := by
      unfold batchAborting
      rw [aborting, State.batchOf, hb]
      exact decide_eq_false live
    exact examine_of_no_trail (by rw [order, empty]; rfl) found (by simp) (by simp [findings, Findings.empty]) running
      divert trail

/-! ### The unexpected lead (R52, R54) -/

theorem freshTag_modLane (s : State) (l : Fin 8) (f : Lane → Lane) (hf : ∀ x, (f x).sequence = x.sequence) :
    freshTag (s.modLane l f) l = freshTag s l := by
  have search : ∀ k q, freshSequence (s.modLane l f) l k q = freshSequence s l k q := by
    intro k
    induction k with
    | zero => exact fun _ => rfl
    | succ k ih =>
      intro q
      simp only [freshSequence, ih]
      rfl
  unfold freshTag
  rw [State.lane_modLane_same, hf, search]

/-- The record of an unexpected sheet (R52), its lead captured. -/
def unexpectedSheet (g : Tag) (id n : Nat) (counter : Tick) : Sheet :=
  { Sheet.create g id .inGate { Findings.empty with unexpected := true } n with lead := some counter }

/-- The state with an unexpected lead taken by a new sheet of batch `b`, drawing `k` blocks, before the double-feed action
check (R52). -/
def strangerTaken (l n : Fin 8) (id : Nat) (b : Batch) (k : Nat) (s : State) : State :=
  ((lowered k { s with
      sheets := s.sheets ++ [unexpectedSheet (freshTag s l) id k (s.lane l).counter], reserved := s.reserved + k }).modLane l
    (fun x =>
      let y := { (x.leadSensed n).entered (freshTag s l) b.profile (s.profile b.profile) with
        sequence := (freshTag s l).seq + 1 }
      if b.atLast then y.fedOut else y)).modBatch id b.counted

theorem interior_leadTaken_congr {s t : State} (h : s.interior = t.interior) (l : Fin 8) (g : Tag) (id : Nat)
    (b : Batch) : (leadTaken l g id b s).interior = (leadTaken l g id b t).interior := by
  have profiles : s.profile b.profile = t.profile b.profile :=
    eq_of_interior (fun u => u.profile b.profile) (fun _ => rfl) h
  unfold leadTaken
  rw [lane_of_interior h, profiles]
  exact interior_modBatch_congr (interior_modLane_congr (interior_modSheet_congr h g _) l _) id _

theorem interior_doubleFeedCheck_congr {s t : State} (h : s.interior = t.interior) (l : Fin 8) (g : Tag) :
    (doubleFeedCheck l g s).interior = (doubleFeedCheck l g t).interior := by
  unfold doubleFeedCheck
  rw [sheet?_of_interior h]
  cases t.sheet? g with
  | none => exact h
  | some r =>
    have flagged := interior_raise_congr h (.lane l .suspect)
    simp only [batchOf_of_interior h]
    split
    · split
      · exact interior_halt_congr flagged l _
      · exact flagged
    · exact h

/-- Updates of a sheet just appended, whose tag no other record has. -/
theorem modSheet_append {s : State} {g : Tag} (h : s.sheet? g = none) (r : Sheet) (hr : r.tag = g) (f : Sheet → Sheet) :
    (s.sheets ++ [r]).map (fun q => if q.tag = g then f q else q) = s.sheets ++ [f r] := by
  have kept : s.sheets.map (fun q => if q.tag = g then f q else q) = s.sheets :=
    congrArg State.sheets (State.modSheet_of_absent h f)
  rw [List.map_append, kept]
  simp [hr]

theorem leadTaken_recordAdded {s : State} {l : Fin 8} (n : Fin 8) (id : Nat) (b : Batch) (k : Nat)
    (fresh : s.sheet? (freshTag s l) = none) :
    leadTaken l (freshTag s l) id b (recordAdded l id .inGate { Findings.empty with unexpected := true } k
      (s.modLane l (Lane.leadSensed n))) = strangerTaken l n id b k s := by
  set g := freshTag s l with hg
  let made : State := lowered k { s with
    sheets := s.sheets ++ [Sheet.create g id .inGate { Findings.empty with unexpected := true } k]
    reserved := s.reserved + k }
  have added : recordAdded l id .inGate { Findings.empty with unexpected := true } k (s.modLane l (Lane.leadSensed n)) =
      made.modLane l (fun x => { x.leadSensed n with sequence := g.seq + 1 }) := by
    unfold recordAdded
    rw [freshTag_modLane s l (Lane.leadSensed n) (fun _ => by rfl)]
    exact State.modLane_modLane made l (Lane.leadSensed n) (fun x => { x with sequence := g.seq + 1 })
  have stamped : made.modSheet g (fun q => { q with lead := some (s.lane l).counter, state := .inGate }) =
      lowered k { s with
        sheets := s.sheets ++ [unexpectedSheet g id k (s.lane l).counter], reserved := s.reserved + k } := by
    unfold State.modSheet
    rw [show made.sheets = s.sheets ++ [Sheet.create g id .inGate { Findings.empty with unexpected := true } k] from rfl,
      modSheet_append fresh _ rfl]
    rfl
  rw [added, leadTaken_modLane _ _ _ _ _ _ (fun _ => by rfl), show made.lane l = s.lane l from rfl, stamped]
  rfl

/-- R52, R54: the state an unexpected lead leaves before the settlement cursor is examined: SUSPECT flagged, and with
double-feed action STOP a lane that still feeds halted. -/
def strangerChecked (l n : Fin 8) (id : Nat) (b : Batch) (k : Nat) (s : State) : State :=
  let led := (strangerTaken l n id b k s).setFlag (.lane l .suspect) true
  if b.action = .stop ∧ ¬ b.atLast ∧ ((s.lane l).state = .spinup ∨ (s.lane l).state = .feeding) then
    haltedFor l .suspect led
  else led

theorem sheet?_strangerTaken_same {s : State} {l : Fin 8} (n : Fin 8) (id : Nat) (b : Batch) (k : Nat)
    (fresh : s.sheet? (freshTag s l) = none) :
    (strangerTaken l n id b k s).sheet? (freshTag s l) =
      some (unexpectedSheet (freshTag s l) id k (s.lane l).counter) := by
  change (s.sheets ++ [unexpectedSheet (freshTag s l) id k (s.lane l).counter]).find? _ = _
  rw [List.find?_append, show s.sheets.find? _ = none from fresh]
  simp [unexpectedSheet, Sheet.create]

theorem sheet?_strangerTaken_of_live {s : State} {l : Fin 8} (n : Fin 8) (id : Nat) (b : Batch) (k : Nat) {u : Tag}
    {q : Sheet} (h : s.sheet? u = some q) : (strangerTaken l n id b k s).sheet? u = some q := by
  change (s.sheets ++ [unexpectedSheet (freshTag s l) id k (s.lane l).counter]).find? _ = _
  rw [List.find?_append, show s.sheets.find? _ = some q from h]
  rfl

theorem lane_strangerTaken (l n : Fin 8) (id : Nat) (b : Batch) (k : Nat) (s : State) :
    (strangerTaken l n id b k s).lane l =
      (let y := { ((s.lane l).leadSensed n).entered (freshTag s l) b.profile (s.profile b.profile) with
        sequence := (freshTag s l).seq + 1 }
       if b.atLast then y.fedOut else y) := by
  unfold strangerTaken
  rw [State.lane_modBatch, State.lane_modLane_same]
  rfl

theorem batchOf_strangerTaken {α : Type} (l n : Fin 8) (id : Nat) (b : Batch) (k : Nat) (s : State) (part : Batch → α)
    (hp : ∀ c, part (b.counted c) = part c) (i : Nat) :
    part ((strangerTaken l n id b k s).batchOf i) = part (s.batchOf i) :=
  batchOf_modBatch_of_kept _ id i part (fun _ => by rfl) hp

theorem Lane.fedOut_not_feeding (x : Lane) : ¬ (x.fedOut.state = .spinup ∨ x.fedOut.state = .feeding) := by
  unfold Lane.fedOut
  dsimp only
  split
  case isTrue => simp
  case isFalse h => exact h

/-- R54, log 12: the check of the unexpected sheet, after the end of feeding that its lead can be. -/
theorem interior_check_stranger {s : State} {l : Fin 8} (n : Fin 8) {id : Nat} {b : Batch} (k : Nat)
    (hb : s.batch? id = some b) (fresh : s.sheet? (freshTag s l) = none) :
    (doubleFeedCheck l (freshTag s l) (strangerTaken l n id b k s)).interior =
      (strangerChecked l n id b k s).interior := by
  rw [interior_doubleFeedCheck (sheet?_strangerTaken_same n id b k fresh) rfl]
  have action : ((strangerTaken l n id b k s).batchOf id).action = b.action := by
    rw [batchOf_strangerTaken l n id b k s Batch.action (fun _ => rfl) id, State.batchOf, hb]
    rfl
  have feeds : (((strangerTaken l n id b k s).lane l).state = .spinup ∨
        ((strangerTaken l n id b k s).lane l).state = .feeding) ↔
      ¬ b.atLast ∧ ((s.lane l).state = .spinup ∨ (s.lane l).state = .feeding) := by
    rw [lane_strangerTaken]
    dsimp only
    by_cases last : b.atLast
    · rw [if_pos last]
      exact ⟨fun h => absurd h (Lane.fedOut_not_feeding _), fun h => absurd last h.1⟩
    · rw [if_neg last]
      exact ⟨fun h => ⟨last, h⟩, fun h => h.2⟩
  have stops : (((strangerTaken l n id b k s).batchOf (unexpectedSheet (freshTag s l) id k (s.lane l).counter).batch).action
        = .stop ∨ (unexpectedSheet (freshTag s l) id k (s.lane l).counter).pastDivert = true) ↔ b.action = .stop := by
    rw [← action]
    simp [unexpectedSheet, Sheet.create]
  simp only [stops, feeds, strangerChecked]
  split <;> rfl

/-- R52: with room in the sheet table, an unexpected lead on a lane with an active batch. -/
theorem interior_unexpectedLead {s : State} {l : Fin 8} (n : Fin 8) {id : Nat} {b : Batch}
    (active : s.activeBatch l = some id) (hb : s.batch? id = some b) (room : s.sheets.length < 128) :
    (unexpectedLead l (s.modLane l (Lane.leadSensed n))).interior = (settleLane l (strangerChecked l n id b
      (if (s.lane l).config.reserve ≤ s.free then (s.lane l).config.reserve else 0) s)).interior := by
  set u := s.modLane l (Lane.leadSensed n) with hu
  have fresh := freshTag_absent l room
  have lane : u.lane l = (s.lane l).leadSensed n := State.lane_modLane_same _ _ _
  have activeU : u.activeBatch l = some id :=
    (activeBatch_of_parts (s := u) (t := s) (by rw [lane]; rfl) rfl).trans active
  have tag : freshTag u l = freshTag s l := freshTag_modLane s l _ (fun _ => by rfl)
  have reserve : (if reserveFits u l = true then (u.lane l).config.reserve else 0) =
      if (s.lane l).config.reserve ≤ s.free then (s.lane l).config.reserve else 0 := by
    simp only [reserveFits_iff, lane]
    rfl
  unfold unexpectedLead
  simp only [activeU, if_pos ((tableHasRoom_iff u).mpr room), tag, reserve]
  generalize (if (s.lane l).config.reserve ≤ s.free then (s.lane l).config.reserve else 0) = k
  refine interior_settleLane_congr ?_ l
  have added := interior_createSheet l id .inGate { Findings.empty with unexpected := true } k u
  have batch : (createSheet l id .inGate { Findings.empty with unexpected := true } k u).batch? id = some b :=
    (batch?_of_interior added id).trans hb
  have stillActive : (createSheet l id .inGate { Findings.empty with unexpected := true } k u).activeBatch l = some id := by
    rw [activeBatch_of_interior added, ← activeU]
    refine activeBatch_of_parts ?_ rfl
    rw [recordAdded, State.lane_modLane_same]
    rfl
  rw [takeLead_eq batch (fun _ => stillActive), ← interior_check_stranger n k hb fresh,
    ← leadTaken_recordAdded n id b k fresh]
  exact interior_doubleFeedCheck_congr (interior_leadTaken_congr added l _ id b) l _

/-- R105, R106: behind a cursor that stays, or alone while its batch is not aborting, the unexpected sheet stays. -/
theorem settleLane_strangerChecked {s : State} {l : Fin 8} (n : Fin 8) {id : Nat} {b : Batch} (k : Nat)
    (hb : s.batch? id = some b) (fresh : s.sheet? (freshTag s l) = none) (stays : cursorStays s l)
    (waits : (s.lane l).settleOrder ≠ [] ∨ b.state ≠ .aborted) :
    settleLane l (strangerChecked l n id b k s) = strangerChecked l n id b k s := by
  set t := strangerChecked l n id b k s with ht
  have sheets : ∀ u, t.sheet? u = (strangerTaken l n id b k s).sheet? u := by
    intro u
    rw [ht, strangerChecked]
    split <;> rfl
  have batches : ∀ i, t.batchOf i = (strangerTaken l n id b k s).batchOf i := by
    intro i
    rw [ht, strangerChecked]
    split <;> rfl
  have order : (t.lane l).settleOrder = (s.lane l).settleOrder ++ [freshTag s l] := by
    have taken : ((strangerTaken l n id b k s).lane l).settleOrder = (s.lane l).settleOrder ++ [freshTag s l] := by
      rw [lane_strangerTaken]
      dsimp only
      split
      · unfold Lane.fedOut
        dsimp only
        split <;> rfl
      · rfl
    rw [← taken, ht, strangerChecked]
    split
    · rw [haltedFor, State.lane_setFlag, State.lane_modLane_same]
      rfl
    · rfl
  have aborting : ∀ i, decide ((t.batchOf i).state = .aborted) = decide ((s.batchOf i).state = .aborted) := fun i => by
    rw [batches]
    exact batchOf_strangerTaken l n id b k s (fun c => decide (c.state = .aborted)) (Batch.counted_aborted b) i
  have sides : ∀ i, (t.batchOf i).sides = (s.batchOf i).sides := fun i => by
    rw [batches]
    exact batchOf_strangerTaken l n id b k s Batch.sides (fun _ => rfl) i
  refine settleLane_of_newest stays order (fun u q hu hq => ⟨q, ?_, .of_batch (aborting _) (sides _)⟩) fun empty => ?_
  · rw [sheets]
    exact sheet?_strangerTaken_of_live n id b k hq
  · have running : batchAborting t (unexpectedSheet (freshTag s l) id k (s.lane l).counter) = false := by
      unfold batchAborting
      rw [aborting, State.batchOf, show s.batch? (unexpectedSheet (freshTag s l) id k (s.lane l).counter).batch = some b
        from hb]
      exact decide_eq_false (waits.resolve_left (fun j => j empty))
    refine examine_of_no_trail (by rw [order, empty]; rfl) (by rw [sheets, sheet?_strangerTaken_same n id b k fresh]) ?_ rfl
      running rfl rfl
    simp [unexpectedSheet, Sheet.create]

/-- R52: with the sheet table full, an unexpected lead is a halt cause. -/
theorem unexpectedLead_of_full {s : State} {l : Fin 8} {id : Nat} (active : s.activeBatch l = some id)
    (full : 128 ≤ s.sheets.length) : unexpectedLead l s = halt l .tableFull s := by
  have noRoom : ¬ tableHasRoom s = true := fun room => Nat.not_lt.mpr full ((tableHasRoom_iff s).mp room)
  unfold unexpectedLead
  simp only [active, if_neg noRoom]

/-- Settles O42: with a picking sheet and without, the lane before the examination of its cursor is the claim's, and a
cursor that stays leaves it so. -/
theorem leadOpensGate : Obligations.LeadOpensGate := by
  intro s l n hn ha counter captured entered last counted ended halted
  refine ⟨fun rest => ?_, fun attributing room => ⟨?_, ?_, ?_⟩⟩
  · rw [exec_lead hn ha, if_neg (by rw [rest]; decide)]
    rfl
  · intro g r b picking hr hb hlast led
    have led_eq : led = pickTaken l n g r.batch b s := rfl
    have run : exec (.lead l) s = .next (kickPorts (settleLane l led)) := by
      rw [exec_lead_attributed hn ha attributing room, picking, led_eq, ← pickedLead_eq n hr hb hlast]
    refine ⟨⟨_, _, run, rfl, rfl⟩, fun stays head waits => ⟨_, run, ?_⟩⟩
    rw [interior_kickPorts, led_eq, settleLane_pickTaken hr hb stays head waits]
  · intro id b picking active hb space reserve joined
    have fresh := freshTag_absent l space
    have joined_eq : joined (freshTag s l) = strangerChecked l n id b reserve s := by
      unfold strangerChecked strangerTaken
      rw [lowered_eq_ite]
      rfl
    have left := (interior_kickPorts _).trans (interior_unexpectedLead n active hb space)
    refine ⟨_, kickPorts (settleLane l (joined (freshTag s l))), freshTag s l,
      (exec_lead_attributed hn ha attributing room).trans (by rw [picking]), rfl, fresh, freshTag_of_free, rfl, ?_,
      fun stays waits => ?_⟩
    · rw [left, interior_kickPorts, joined_eq]
    · rw [left, joined_eq]
      exact congrArg State.interior (settleLane_strangerChecked n _ hb fresh stays waits)
  · intro id picking active full
    set u := s.modLane l (Lane.leadSensed n) with hu
    have lane : u.lane l = (s.lane l).leadSensed n := State.lane_modLane_same _ _ _
    have activeU : u.activeBatch l = some id :=
      (activeBatch_of_parts (s := u) (t := s) (by rw [lane]; rfl) rfl).trans active
    have run : exec (.lead l) s = .next (kickPorts (halt l .tableFull u)) := by
      rw [exec_lead_attributed hn ha attributing room, picking, ← unexpectedLead_of_full activeU full]
    have halts : haltsIn .tableFull (u.lane l).state = true ↔ (s.lane l).state ≠ .halted := by
      rw [lane]
      exact haltsIn_tableFull attributing
    refine ⟨fun running => ⟨_, run, ?_⟩, fun stopped => ⟨_, run, ?_⟩⟩
    · rw [interior_kickPorts, interior_halt_of_haltsIn (halts.mpr running)]
      rfl
    · rw [interior_kickPorts, halt_of_not_haltsIn (Bool.eq_false_iff.mpr fun k => halts.mp k stopped)]
      rfl

end Sys2Proof.Machine
end

section
/-!
PROOF. TRAIL: at rest, with no gate holder, with one already settled, and the measurement of an unsettled one (R5, R7, R24 to
R29, R54, R55, R105).
-/

namespace Sys2Proof.Machine

/-! ### The edge -/

/-- A lane with the edge of a trail sensed on line `n` and captured (R5, R71). -/
def Lane.trailSensed (n : Fin 8) (x : Lane) : Lane :=
  { x.setLine n { x.line n with sensed := (x.line n).activeLevel.opposite } with lastTrail := x.counter }

theorem exec_trail {s : State} {l n : Fin 8} (hn : (s.lane l).lineWith .entry = some n)
    (ha : ((s.lane l).line n).isActive = true) :
    exec (.trail l) s = .next (match (s.lane l).gateHolder with
      | none => s.modLane l (Lane.trailSensed n)
      | some g => if (s.lane l).state.attributing = true then
          kickPorts (attributeTrail l g (s.modLane l (Lane.trailSensed n))) else s.modLane l (Lane.trailSensed n)) := by
  change execTrail l s = _
  unfold execTrail
  rw [Lane.edgeTo_inactive hn ha]
  rfl

/-- R7: with no gate holder, or at rest, a trail is captured alone. -/
theorem exec_trail_alone {s : State} {l n : Fin 8} (hn : (s.lane l).lineWith .entry = some n)
    (ha : ((s.lane l).line n).isActive = true)
    (h : (s.lane l).state.attributing = false ∨ (s.lane l).gateHolder = none) :
    exec (.trail l) s = .next (s.modLane l (Lane.trailSensed n)) := by
  rw [exec_trail hn ha]
  cases holder : (s.lane l).gateHolder with
  | none => rfl
  | some g =>
    have rest : (s.lane l).state.attributing = false := h.resolve_right (by simp [holder])
    simp [rest]

/-! ### The gate holder's trail (R7, R10, R14, R55) -/

/-- The state with the trail of gate holder `g` captured and attributed, its sheet not yet written. -/
def trailPassed (l n : Fin 8) (g : Tag) (s : State) : State :=
  (s.modLane l (Lane.trailSensed n)).modLane l (Lane.takeTrail g)

theorem lane_trailPassed (l n : Fin 8) (g : Tag) (s : State) :
    (trailPassed l n g s).lane l = ((s.lane l).trailSensed n).takeTrail g := by
  rw [trailPassed, State.lane_modLane_same, State.lane_modLane_same]

/-- The state with the measurement of sheet `r` at its trail written (R13, R24 to R29, R36). -/
def trailWritten (l n : Fin 8) (r : Sheet) (s : State) : State :=
  (trailComputation l r (s.lane l).counter (trailPassed l n r.tag s)).modSheet r.tag (fun q =>
    { q with imageDeadline := some (armAt (s.lane l).counter (s.lane l).config.imageWindow) })

/-- All that the attribution of a trail does (R7, R24, R54, R111). -/
theorem attributeTrail_eq (l n : Fin 8) (g : Tag) (s : State) :
    attributeTrail l g (s.modLane l (Lane.trailSensed n)) =
      match s.sheet? g with
      | none => trailPassed l n g s
      | some r =>
        if r.state.unsettled = true then settleLane l (doubleFeedCheck l g (trailWritten l n r s))
        else (trailPassed l n g s).modSheet g (fun q => { q with trail := some (s.lane l).counter }) := by
  unfold attributeTrail
  rw [State.sheet?_modLane, State.lane_modLane_same]
  cases hr : s.sheet? g with
  | none => rfl
  | some r =>
    obtain rfl := State.tag_of_sheet? hr
    rfl

theorem exec_trail_attributed {s : State} {l n : Fin 8} {g : Tag} (hn : (s.lane l).lineWith .entry = some n)
    (ha : ((s.lane l).line n).isActive = true) (attributing : (s.lane l).state.attributing = true)
    (holder : (s.lane l).gateHolder = some g) :
    exec (.trail l) s = .next (kickPorts (match s.sheet? g with
      | none => trailPassed l n g s
      | some r =>
        if r.state.unsettled = true then settleLane l (doubleFeedCheck l g (trailWritten l n r s))
        else (trailPassed l n g s).modSheet g (fun q => { q with trail := some (s.lane l).counter }))) := by
  rw [exec_trail hn ha, holder, ← attributeTrail_eq]
  exact congrArg Host.Outcome.next (if_pos attributing)

/-! ### The measured sheet -/

/-- What the trail computation makes of record `r` (R25 to R29), with the image deadline armed (R13). -/
def Sheet.measured (x : Lane) (base : Nat) (r : Sheet) (q : Sheet) : Sheet :=
  let len := sheetLength (elapsed (r.lead.getD 0) x.counter) x.config.pitch
  { q with
    trail := some x.counter, length := some len, findings := trailFindings x.acc len r.findings, state := .imaging
    samples := some ⟨x.acc.m, x.acc.n, x.acc.longest, x.acc.ratio base⟩
    imageDeadline := some (armAt x.counter x.config.imageWindow) }

theorem State.modSheet_after_modProfile_modLane (s : State) (g : Tag) (f : Sheet → Sheet) (i : Fin 16)
    (p : Profile → Profile) (l : Fin 8) (k : Lane → Lane) :
    ((s.modProfile i p).modLane l k).modSheet g f = ((s.modSheet g f).modProfile i p).modLane l k := rfl

theorem trailWritten_eq (l n : Fin 8) (r : Sheet) (s : State) :
    trailWritten l n r s =
      (((trailPassed l n r.tag s).modSheet r.tag
        (r.measured (s.lane l) (s.profile (s.lane l).acc.profile).working)).modProfile (s.lane l).acc.profile
          (trackProfile (s.lane l).acc (r.measured (s.lane l) (s.profile (s.lane l).acc.profile).working r).findings)).modLane l
            (fun y => { y with acc := { y.acc with sheet := none } }) := by
  have acc : ((trailPassed l n r.tag s).lane l).acc = (s.lane l).acc := by
    rw [lane_trailPassed]
    rfl
  have pitch : ((trailPassed l n r.tag s).lane l).config = (s.lane l).config := by
    rw [lane_trailPassed]
    rfl
  unfold trailWritten trailComputation
  simp only [acc, pitch]
  rw [State.modSheet_after_modProfile_modLane, State.modSheet_modSheet _ _ _ _ (fun _ => by rfl)]
  rfl

theorem lane_trailWritten (l n : Fin 8) (r : Sheet) (s : State) :
    (trailWritten l n r s).lane l = { ((s.lane l).trailSensed n).takeTrail r.tag with
      acc := { (s.lane l).acc with sheet := none } } := by
  rw [trailWritten_eq, State.lane_modLane_same, State.lane_modProfile, State.lane_modSheet, lane_trailPassed]
  rfl

theorem sheet?_trailWritten_same {s : State} {r : Sheet} (l n : Fin 8) (h : s.sheet? r.tag = some r) :
    (trailWritten l n r s).sheet? r.tag =
      some (r.measured (s.lane l) (s.profile (s.lane l).acc.profile).working r) := by
  rw [trailWritten_eq, State.sheet?_modLane, State.sheet?_modProfile, State.sheet?_modSheet_same _ _ _ (fun _ => by rfl)]
  exact congrArg (Option.map _) h

theorem sheet?_trailWritten_other {s : State} {r : Sheet} (l n : Fin 8) {u : Tag} (h : u ≠ r.tag) :
    (trailWritten l n r s).sheet? u = s.sheet? u := by
  rw [trailWritten_eq, State.sheet?_modLane, State.sheet?_modProfile, State.sheet?_modSheet_other _ _ (fun _ => by rfl) h]
  rfl

theorem batchOf_trailWritten (l n : Fin 8) (r : Sheet) (s : State) (id : Nat) :
    (trailWritten l n r s).batchOf id = s.batchOf id := by
  rw [trailWritten_eq]
  rfl

/-! ### After the double-feed action check -/

/-- The state `s` after the double-feed action check of a sheet whose record in it is `r` (R54). -/
def doubleFeedChecked (l : Fin 8) (r : Sheet) (s : State) : State :=
  let flagged := if r.findings.measurement = true then s.setFlag (.lane l .suspect) true else s
  if r.findings.measurement = true ∧ ((s.batchOf r.batch).action = .stop ∨ r.pastDivert = true) ∧
      ((s.lane l).state = .spinup ∨ (s.lane l).state = .feeding) then haltedFor l .suspect flagged
  else flagged

theorem interior_doubleFeedCheck_eq {s : State} {l : Fin 8} {g : Tag} {r : Sheet} (h : s.sheet? g = some r) :
    (doubleFeedCheck l g s).interior = (doubleFeedChecked l r s).interior := by
  unfold doubleFeedChecked
  cases hm : r.findings.measurement with
  | false => simp [doubleFeedCheck_of_clean h hm]
  | true =>
    rw [interior_doubleFeedCheck h hm]
    simp only [true_and, if_true]
    split <;> rfl

theorem doubleFeedChecked_frame (l : Fin 8) (r : Sheet) (s : State) :
    doubleFeedChecked l r s =
      { s with lanes := (doubleFeedChecked l r s).lanes, flags := (doubleFeedChecked l r s).flags } := by
  unfold doubleFeedChecked
  dsimp only
  split <;> split <;> rfl

/-- The check leaves a lane as it is or halted. -/
theorem lane_doubleFeedChecked (l : Fin 8) (r : Sheet) (s : State) :
    (doubleFeedChecked l r s).lane l = s.lane l ∨
      (doubleFeedChecked l r s).lane l = { s.lane l with
        state := .halted, haltReason := .suspect, spinTarget := none, spinRemaining := none, pickPulseEnd := none,
        pickDriven := false } := by
  unfold doubleFeedChecked haltedFor
  dsimp only
  split
  · right
    rw [State.lane_setFlag, State.lane_modLane_same]
    split <;> rfl
  · left
    split <;> rfl

theorem armExitWindow_eq_nil {g : Tag} {at_ : Tick} {path : List PathEntry} :
    armExitWindow g at_ path = [] ↔ path = [] := by
  cases path with
  | nil => simp [armExitWindow]
  | cons e rest =>
    unfold armExitWindow
    split <;> simp

/-- R91, R105, R106: behind a cursor that stays, or with images still to come, the measured sheet waits; in DRAINING it, or
its path entry, keeps the lane from completing its drain. -/
theorem settleLane_measured {s : State} {l : Fin 8} {r : Sheet} (n : Fin 8) (hr : s.sheet? r.tag = some r)
    (stays : cursorStays s l)
    (drain : (s.lane l).state = .draining → (s.lane l).path ≠ [] ∨ (s.lane l).settleOrder ≠ []) :
    settleLane l (doubleFeedChecked l (r.measured (s.lane l) (s.profile (s.lane l).acc.profile).working r)
        (trailWritten l n r s)) =
      doubleFeedChecked l (r.measured (s.lane l) (s.profile (s.lane l).acc.profile).working r) (trailWritten l n r s) := by
  set r' := r.measured (s.lane l) (s.profile (s.lane l).acc.profile).working r with hr'
  set w := trailWritten l n r s with hw
  set t := doubleFeedChecked l r' w with ht
  have lane : w.lane l = { ((s.lane l).trailSensed n).takeTrail r.tag with
      acc := { (s.lane l).acc with sheet := none } } := lane_trailWritten l n r s
  have sheets : ∀ u, t.sheet? u = w.sheet? u := fun u => by
    rw [ht, doubleFeedChecked_frame]
    rfl
  have batches : ∀ id, t.batchOf id = s.batchOf id := fun id => by
    rw [← batchOf_trailWritten l n r s id, ← hw, ht, doubleFeedChecked_frame]
    rfl
  have order : (t.lane l).settleOrder = (s.lane l).settleOrder := by
    rcases lane_doubleFeedChecked l r' w with h | h <;> rw [← ht] at h <;> rw [h, lane] <;> rfl
  have busy : (t.lane l).drained = false := by
    rcases lane_doubleFeedChecked l r' w with h | h <;> rw [← ht] at h
    · by_cases draining : (s.lane l).state = .draining
      · rcases drain draining with path | order'
        · refine drained_of_path ?_
          rw [h, lane]
          exact fun e => path (armExitWindow_eq_nil.mp e)
        · exact drained_of_settleOrder (by rwa [order])
      · refine drained_of_state_ne ?_
        rw [h, lane]
        exact draining
    · refine drained_of_state_ne ?_
      rw [h]
      simp
  refine settleLane_of_cursorStays (cursorStays_of_stillWaits stays (by rw [order]) fun u q _ hq => ?_) busy
  by_cases hu : u = r.tag
  · subst hu
    obtain rfl : r = q := Option.some.inj (hr.symm.trans hq)
    refine ⟨r', (sheets _).trans (sheet?_trailWritten_same l n hr), rfl, fun _ => by simp [hr', Sheet.measured], rfl, rfl,
      rfl, ?_, ?_⟩
    · unfold batchAborting
      rw [batches]
      rfl
    · unfold imagesComplete
      rw [batches]
      rfl
  · exact ⟨q, ((sheets u).trans (sheet?_trailWritten_other l n hu)).trans hq,
      .of_batch (by rw [batches]) (by rw [batches])⟩

/-- R7, R14: the path a trail leaves, as the entries before and after the sheet's own give it. -/
theorem armExitWindow_of_path {g : Tag} {at_ : Tick} {old path : List PathEntry}
    (h : (∃ before after w, old = before ++ ⟨g, false, w⟩ :: after ∧ (∀ e ∈ before, e.tag ≠ g ∨ e.exited = true) ∧
        path = before ++ ⟨g, false, some at_⟩ :: after) ∨
      ((∀ e ∈ old, e.tag ≠ g ∨ e.exited = true) ∧ path = old)) : armExitWindow g at_ old = path := by
  rcases h with ⟨before, after, w, rfl, skipped, rfl⟩ | ⟨skipped, rfl⟩
  · exact armExitWindow_append g at_ before after w skipped
  · exact armExitWindow_eq_self g at_ _ skipped

/-- R36, R37: profile tracking, its condition in words. -/
theorem trackProfile_eq (a : Accumulator) (f : Findings) :
    trackProfile a f = fun p =>
      if p.tracking = true ∧ f = .empty then { p with working := moveBaseline (a.sum / a.n) p } else p := by
  funext p
  unfold trackProfile
  simp only [Bool.and_eq_true, decide_eq_true_eq]
  rfl

/-- Settles O43: the trail is attributed to the gate holder, measured while it is unsettled, checked, and the cursor
examined. -/
theorem trailMeasuresSheet : Obligations.TrailMeasuresSheet := by
  intro s l n hn ha x captured
  refine ⟨fun alone => exec_trail_alone hn ha alone, ?_⟩
  intro g path attributing holder entry passed
  have run := exec_trail_attributed hn ha attributing holder
  have passed_eq : passed = trailPassed l n g s := by
    refine State.modLane_congr captured l ?_
    have lane : captured.lane l = x.trailSensed n := State.lane_modLane_same _ _ _
    rw [lane, ← armExitWindow_of_path entry]
    rfl
  refine ⟨fun absent => ⟨_, run, ?_⟩, fun r hr settled => ⟨_, run, ?_⟩, ?_⟩
  · rw [interior_kickPorts, absent, passed_eq]
  · rw [interior_kickPorts, hr, passed_eq]
    simp only [settled, if_false, Bool.false_eq_true]
    rfl
  · intro r hr inGate a base len f stops written flagged measured
    obtain rfl := State.tag_of_sheet? hr
    set r' := r.measured x base r with hr'
    have written_eq : written = trailWritten l n r s := by
      rw [trailWritten_eq, trackProfile_eq, ← passed_eq]
      rfl
    have measured_eq : measured = doubleFeedChecked l r' (trailWritten l n r s) := by
      unfold doubleFeedChecked
      rw [batchOf_trailWritten, lane_trailWritten, ← written_eq]
      rfl
    have checked : (doubleFeedCheck l r.tag (trailWritten l n r s)).interior = measured.interior := by
      rw [measured_eq]
      exact interior_doubleFeedCheck_eq (sheet?_trailWritten_same l n hr)
    have unsettled : r.state.unsettled = true := by rw [inGate]; rfl
    rw [hr] at run
    simp only [if_pos unsettled] at run
    refine ⟨?_, fun stays drain => ⟨_, run, ?_⟩⟩
    · obtain ⟨v, settles, same⟩ := settlement_of_interior l checked
      exact ⟨_, v, run, settles, same⟩
    · rw [interior_kickPorts, interior_settleLane_congr checked, measured_eq]
      exact congrArg State.interior (settleLane_measured n hr stays drain)

end Sys2Proof.Machine
end

section
/-!
PROOF. A cursor sheet alone in its lane's settlement order, settled DISCARDED or DIVERTED (R105, R111, R112), and the
completion of a drain (R43, R131, R132, R137).
-/

namespace Sys2Proof.Machine

/-! ### A cursor sheet alone in the settlement order (R105) -/

theorem poke_of_single {s : State} {l : Fin 8} {g : Tag} (order : (s.lane l).settleOrder = [g]) :
    poke l s = if cursorReady s g = true then settleCursor l g s else s := by
  unfold poke
  rw [order]
  simp only [List.length_singleton, settleLoop, order, ite_self]

theorem poke_of_empty {s : State} {l : Fin 8} (order : (s.lane l).settleOrder = []) : poke l s = s := by
  unfold poke
  rw [order]
  rfl

theorem cursorWait_of_head {s : State} {l : Fin 8} {g : Tag} {rest : List Tag} {r : Sheet}
    (order : (s.lane l).settleOrder = g :: rest) (found : s.sheet? g = some r) : cursorWait s l = r.queueWait := by
  simp only [cursorWait, order, found]

/-- What marks sheet `r` does not matter to its being dropped, once it is named. -/
theorem dropped_modSheet (l : Fin 8) (r : Sheet) (s : State) (f : Sheet → Sheet) (hf : ∀ q, (f q).tag = q.tag) :
    dropped l r (s.modSheet r.tag f) = dropped l r s := by
  have freed : freedOf r (s.modSheet r.tag f) = freedOf r s := by
    simp only [freedOf, State.modSheet]
    rw [filter_map_tag_ne r.tag f hf]
  unfold dropped
  rw [freed]
  rfl

/-- A sheet settled DISCARDED or DIVERTED at the cursor is dropped and counted (R109, R111, R112). -/
theorem dropSheet_at_cursor {s : State} {g : Tag} {r : Sheet} (count : Batch → Batch) (l : Fin 8)
    (found : s.sheet? g = some r) :
    dropSheet count l g (s.modSheet g (fun q => { q with state := .ready })) =
      (dropped l r s).modBatch r.batch (fun b => count { b with settled := addSat b.settled 1 }) := by
  have ready : (s.modSheet g (fun q => { q with state := .ready })).sheet? g = some { r with state := .ready } :=
    (State.sheet?_modSheet_same s g _ (fun _ => by rfl)).trans (by rw [found]; rfl)
  obtain rfl := State.tag_of_sheet? found
  rw [dropSheet_of_sheet? count l ready, ← dropped_modSheet l r s (fun q => { q with state := .ready }) (fun _ => rfl)]
  rfl

theorem settleCursor_of_sheet? {s : State} {g : Tag} {r : Sheet} (l : Fin 8) (found : s.sheet? g = some r) :
    settleCursor l g s =
      decideOutcome l { r with state := .ready } (s.modSheet g (fun q => { q with state := .ready })) := by
  unfold settleCursor
  rw [found]

/-- R111: a cursor sheet with finding JAM, or of an aborting batch, is settled DISCARDED. -/
theorem settleCursor_discards {s : State} {g : Tag} {r : Sheet} (l : Fin 8) (found : s.sheet? g = some r)
    (h : r.findings.jam = true ∨ batchAborting s r = true) :
    settleCursor l g s = (dropped l r s).modBatch r.batch (fun b =>
      { b with settled := min (b.settled + 1) 65535, discarded := min (b.discarded + 1) 65535 }) := by
  have discards : (r.findings.jam || batchAborting s r) = true := by simpa using h
  rw [settleCursor_of_sheet? l found]
  unfold decideOutcome
  rw [if_pos (by exact discards)]
  obtain rfl := State.tag_of_sheet? found
  exact dropSheet_at_cursor _ l found

/-- R112: a cursor sheet that has been diverted is settled DIVERTED. -/
theorem settleCursor_diverts {s : State} {g : Tag} {r : Sheet} (l : Fin 8) (found : s.sheet? g = some r)
    (jam : r.findings.jam = false) (aborting : batchAborting s r = false) (done : r.divertDone = true) :
    settleCursor l g s = (dropped l r s).modBatch r.batch (fun b =>
      { b with settled := min (b.settled + 1) 65535, diverted := min (b.diverted + 1) 65535 }) := by
  have stays : ¬ (r.findings.jam || batchAborting s r) = true := by simp [jam, aborting]
  rw [settleCursor_of_sheet? l found]
  unfold decideOutcome
  rw [if_neg (by exact stays), if_pos (by exact done)]
  obtain rfl := State.tag_of_sheet? found
  exact dropSheet_at_cursor _ l found

/-! ### A batch that leaves active feeding (R43, R131) -/

theorem interior_reportedOf_congr {s t : State} (h : s.interior = t.interior) (b : Batch) (final : FinalState) :
    (reportedOf b final s).interior = (reportedOf b final t).interior :=
  interior_setFlag_congr (interior_update_congr (fun u => { u with
    batches := u.batches.filter (fun c => decide (c.id ≠ b.id)), lastReport := some ⟨b, final⟩ }) (fun _ => rfl) h) _ _

/-- R43, R131, R132, R137: all that the active batch's leaving does. -/
theorem interior_batchLeaves_departed {s : State} {l : Fin 8} {id : Nat} {rest : List Nat} {b : Batch}
    (h : activeWith s l id rest b) :
    (batchLeaves l s).interior =
      (departed l id rest (s.lane l).drainCause (s.modLane l (fun x => { x with drainCause := .none }))).interior := by
  obtain ⟨queue, notBehind, hb, own, active, aborts⟩ := h
  have unqueue : ∀ u : State, (u.lane l).batchQueue = id :: rest →
      u.modLane l (fun x => { x with batchQueue := x.batchQueue.erase id }) =
        u.modLane l (fun x => { x with batchQueue := rest }) := fun u hu =>
    State.modLane_congr u l (by rw [hu, List.erase_cons_head])
  have batch : (s.modLane l (fun x => { x with drainCause := .none })).batchOf id = b := by
    rw [State.batchOf_modLane, State.batchOf, hb]
    rfl
  unfold batchLeaves departed leftLane
  simp only [activeBatch_head queue hb active, batch]
  cases cause : (s.lane l).drainCause with
  | none | pause => rfl
  | feedEnd =>
    dsimp only
    rw [unqueue _ (by rw [State.lane_modBatch, State.lane_modLane_same]; exact queue)]
    set left := ((s.modLane l (fun x => { x with drainCause := .none })).modBatch id
      (fun c => { c with state := .ended })).modLane l (fun x => { x with batchQueue := rest }) with hleft
    have flagged := interior_raise (.lane l .batchEnd) left
    have ended : (raise (.lane l .batchEnd) left).batch? id = some { b with state := .ended } := by
      rw [batch?_of_interior flagged, State.batch?_setFlag, hleft, State.batch?_modLane,
        State.batch?_modBatch_same _ _ _ (fun _ => by rfl), State.batch?_modLane, hb]
      rfl
    rw [interior_testClosure ended]
    simp only [true_and]
    split
    · exact interior_reportedOf_congr flagged _ _
    · exact flagged
  | abort =>
    dsimp only
    rw [unqueue _ (by rw [State.lane_modLane_same]; exact queue)]
    set left := (s.modLane l (fun x => { x with drainCause := .none })).modLane l (fun x => { x with batchQueue := rest })
      with hleft
    have outside : left.inLaneQueue b = false := by
      unfold State.inLaneQueue
      rw [own, hleft, State.lane_modLane_same, State.id_of_batch? hb]
      exact decide_eq_false notBehind
    rw [interior_testAbort (b := b) (by exact hb)]
    simp only [aborts cause, outside, true_and]
    split <;> rfl

/-- R43: all that a completed drain does. -/
theorem interior_drainTest_of_drained {s : State} {l : Fin 8} {id : Nat} {rest : List Nat} {b : Batch}
    (h : activeWith s l id rest b) (drained : (s.lane l).drained = true) :
    (drainTest l s).interior = (drainDone l id rest s).interior := by
  obtain ⟨queue, notBehind, hb, own, active, aborts⟩ := h
  have lane : (s.modLane l Lane.enterIdle).lane l = (s.lane l).enterIdle := State.lane_modLane_same _ _ _
  have still : activeWith (s.modLane l Lane.enterIdle) l id rest b :=
    ⟨by rw [lane]; exact queue, notBehind, hb, own, active, by rw [lane]; exact aborts⟩
  unfold drainTest drainDone
  rw [if_pos drained, interior_batchLeaves_departed still, lane, State.modLane_modLane]
  rfl

theorem drained_iff (x : Lane) :
    x.drained = true ↔ x.state = .draining ∧ x.picking = none ∧ x.path = [] ∧ x.settleOrder = [] := by
  simp [Lane.drained, and_assoc]

end Sys2Proof.Machine
end

section
/-!
PROOF. EXIT_LEAD and EXIT_TRAIL (R5, R8, R9, R53, R56 to R58): the path order, the divert, the end of a drain.
-/

namespace Sys2Proof.Machine

/-! ### The edges -/

/-- A lane with the edge of an exit lead sensed on line `n` and captured (R5, R71). -/
def Lane.exitLeadSensed (n : Fin 8) (x : Lane) : Lane :=
  { x.setLine n { x.line n with sensed := (x.line n).activeLevel } with lastExitLead := x.counter }

/-- A lane with the edge of an exit trail sensed on line `n` and captured (R5, R71). -/
def Lane.exitTrailSensed (n : Fin 8) (x : Lane) : Lane :=
  { x.setLine n { x.line n with sensed := (x.line n).activeLevel.opposite } with lastExitTrail := x.counter }

theorem exec_exitLead {s : State} {l n : Fin 8} (hn : (s.lane l).lineWith .exit = some n)
    (ha : ((s.lane l).line n).isActive = false) :
    exec (.exitLead l) s = .next (if (s.lane l).state.attributing = true then
      kickPorts (attributeExitLead l (s.modLane l (Lane.exitLeadSensed n)))
      else s.modLane l (Lane.exitLeadSensed n)) := by
  change execExitLead l s = _
  unfold execExitLead
  rw [Lane.edgeTo_active hn ha]
  rfl

theorem exec_exitTrail {s : State} {l n : Fin 8} (hn : (s.lane l).lineWith .exit = some n)
    (ha : ((s.lane l).line n).isActive = true) :
    exec (.exitTrail l) s = .next (match (s.lane l).exitHolder with
      | none => s.modLane l (Lane.exitTrailSensed n)
      | some g => if (s.lane l).state.attributing = true then
          kickPorts (attributeExitTrail l g (s.modLane l (Lane.exitTrailSensed n)))
        else s.modLane l (Lane.exitTrailSensed n)) := by
  change execExitTrail l s = _
  unfold execExitTrail
  rw [Lane.edgeTo_inactive hn ha]
  rfl

/-- R5, R9: with no exit holder, or at rest, an exit trail is captured alone. -/
theorem exec_exitTrail_alone {s : State} {l n : Fin 8} (hn : (s.lane l).lineWith .exit = some n)
    (ha : ((s.lane l).line n).isActive = true)
    (h : (s.lane l).state.attributing = false ∨ (s.lane l).exitHolder = none) :
    exec (.exitTrail l) s = .next (s.modLane l (Lane.exitTrailSensed n)) := by
  rw [exec_exitTrail hn ha]
  cases holder : (s.lane l).exitHolder with
  | none => rfl
  | some g =>
    have rest : (s.lane l).state.attributing = false := h.resolve_right (by simp [holder])
    simp [rest]

/-! ### The path order (R53) -/

theorem find_exitCursor {out rest : List PathEntry} {g : Tag} {w : Option Tick} (h : ∀ e ∈ out, e.exited = true) :
    (out ++ ⟨g, false, w⟩ :: rest).find? (fun e => !e.exited) = some ⟨g, false, w⟩ := by
  rw [List.find?_append, List.find?_eq_none.mpr (fun e he => by simp [h e he])]
  rfl

theorem markExited_append {out rest : List PathEntry} {g : Tag} {w : Option Tick} (h : ∀ e ∈ out, e.exited = true) :
    markExited (out ++ ⟨g, false, w⟩ :: rest) = out ++ ⟨g, true, none⟩ :: rest := by
  induction out with
  | nil => rfl
  | cons e out ih =>
    simp only [List.cons_append, markExited, h e (by simp), if_true]
    rw [ih fun x hx => h x (by simp [hx])]

theorem eraseP_exitHolder {out rest : List PathEntry} {g : Tag} {w : Option Tick}
    (h : ∀ e ∈ out, e.tag ≠ g ∨ e.exited = false) :
    (out ++ ⟨g, true, w⟩ :: rest).eraseP (fun e => decide (e.tag = g) && e.exited) = out ++ rest := by
  rw [List.eraseP_append_right _ (fun e he => by rcases h e he with k | k <;> simp [k])]
  simp

/-! ### The exit lead (R8, R56, R57) -/

/-- The state with the exit lead of path entry `g` captured and attributed, before the divert rules; the path is then as
given. -/
def exitLed (l n : Fin 8) (g : Tag) (path : List PathEntry) (s : State) : State :=
  ((s.modLane l (Lane.exitLeadSensed n)).modSheet g (fun q => { q with exitLead := some (s.lane l).counter })).modLane l
    (fun x => { x with exitHolder := some g, path := path })

theorem lane_exitLed (l n : Fin 8) (g : Tag) (path : List PathEntry) (s : State) :
    (exitLed l n g path s).lane l =
      { (s.lane l).exitLeadSensed n with exitHolder := some g, path := path } := by
  rw [exitLed, State.lane_modLane_same, State.lane_modSheet, State.lane_modLane_same]

theorem sheet?_exitLed_same {s : State} {g : Tag} {r : Sheet} (l n : Fin 8) (path : List PathEntry)
    (hr : s.sheet? g = some r) :
    (exitLed l n g path s).sheet? g = some { r with exitLead := some (s.lane l).counter } := by
  rw [exitLed, State.sheet?_modLane, State.sheet?_modSheet_same _ _ _ (fun _ => by rfl), State.sheet?_modLane, hr]
  rfl

theorem sheet?_exitLed_absent {s : State} {g : Tag} (l n : Fin 8) (path : List PathEntry) (h : s.sheet? g = none) :
    (exitLed l n g path s).sheet? g = none := by
  rw [exitLed, State.sheet?_modLane, State.sheet?_modSheet_same _ _ _ (fun _ => by rfl), State.sheet?_modLane, h]
  rfl

theorem State.modSheet_modLane_comm (s : State) (g : Tag) (f : Sheet → Sheet) (l : Fin 8) (k : Lane → Lane) :
    (s.modLane l k).modSheet g f = (s.modSheet g f).modLane l k := rfl

theorem attributeExitLead_eq {s : State} {l : Fin 8} (n : Fin 8) {g : Tag} {out rest : List PathEntry} {w : Option Tick}
    (path : (s.lane l).path = out ++ ⟨g, false, w⟩ :: rest) (h : ∀ e ∈ out, e.exited = true) :
    attributeExitLead l (s.modLane l (Lane.exitLeadSensed n)) =
      divertSheet l g (exitLed l n g (out ++ ⟨g, true, none⟩ :: rest) s) := by
  have lane : (s.modLane l (Lane.exitLeadSensed n)).lane l = (s.lane l).exitLeadSensed n := State.lane_modLane_same _ _ _
  have sensed : ((s.lane l).exitLeadSensed n).path = out ++ ⟨g, false, w⟩ :: rest := path
  unfold attributeExitLead
  simp only [lane, sensed, find_exitCursor h]
  refine congrArg (divertSheet l g) ?_
  rw [State.modSheet_modLane_comm]
  refine State.modLane_congr _ l ?_
  rw [State.lane_modSheet, lane, sensed, markExited_append h]

theorem exec_exitLead_attributed {s : State} {l n : Fin 8} {g : Tag} {out rest : List PathEntry} {w : Option Tick}
    (hn : (s.lane l).lineWith .exit = some n) (ha : ((s.lane l).line n).isActive = false)
    (attributing : (s.lane l).state.attributing = true) (path : (s.lane l).path = out ++ ⟨g, false, w⟩ :: rest)
    (h : ∀ e ∈ out, e.exited = true) :
    exec (.exitLead l) s =
      .next (kickPorts (divertSheet l g (exitLed l n g (out ++ ⟨g, true, none⟩ :: rest) s))) := by
  rw [exec_exitLead hn ha, if_pos attributing, attributeExitLead_eq n path h]

theorem divertSheet_of_absent {s : State} {l : Fin 8} {g : Tag} (h : s.sheet? g = none) : divertSheet l g s = s := by
  simp only [divertSheet, h]

theorem divertSheet_of_kept {s : State} {l : Fin 8} {g : Tag} {r : Sheet} (h : s.sheet? g = some r)
    (gate : (s.lane l).gateHolder ≠ some g) (keep : toDivert s r = false) : divertSheet l g s = s := by
  simp [divertSheet, h, gate, keep]

/-- R8, R56: a sheet still in the gate is past the divert point. -/
theorem divertSheet_of_gate {s : State} {l : Fin 8} {g : Tag} (gate : (s.lane l).gateHolder = some g) :
    divertSheet l g s = s.modSheet g (fun q => { q with pastDivert := true }) := by
  cases h : s.sheet? g with
  | none => rw [divertSheet_of_absent h, State.modSheet_of_absent h]
  | some r => simp only [divertSheet, h, gate, if_true]

/-- The state with DIVERT driven for sheet `g` and its mark set (R15, R57). -/
def divertDriven (l : Fin 8) (g : Tag) (s : State) : State :=
  (s.modSheet g (fun q => { q with divertDone := true })).modLane l (fun x =>
    { x with divertDriven := true, divertEnd := some (x.counter + BitVec.ofNat 20 x.config.divertPulse) })

theorem divertSheet_of_diverted {s : State} {l : Fin 8} {g : Tag} {r : Sheet} (h : s.sheet? g = some r)
    (gate : (s.lane l).gateHolder ≠ some g) (divert : toDivert s r = true) :
    divertSheet l g s = settleLane l (divertDriven l g s) := by
  simp only [divertSheet, h, if_neg gate, divert, if_true]
  rfl

theorem toDivert_iff (s : State) (r : Sheet) : toDivert s r = true ↔
    r.state.unsettled = true ∧ r.pastDivert = false ∧ (s.batchOf r.batch).action = .divert ∧
      r.findings.measurement = true := by
  simp [toDivert, and_assoc]

/-! ### After the divert -/

section
variable {s : State} {l n : Fin 8} {g : Tag} {path : List PathEntry}

theorem lane_divertDriven (s : State) (l : Fin 8) (g : Tag) : (divertDriven l g s).lane l = { s.lane l with
    divertDriven := true
    divertEnd := some ((s.lane l).counter + BitVec.ofNat 20 (s.lane l).config.divertPulse) } := by
  rw [divertDriven, State.lane_modLane_same, State.lane_modSheet]

theorem sheet?_divertDriven_other (s : State) (l : Fin 8) {g u : Tag} (h : u ≠ g) :
    (divertDriven l g s).sheet? u = s.sheet? u := by
  rw [divertDriven, State.sheet?_modLane, State.sheet?_modSheet_other _ _ (fun _ => by rfl) h]

theorem sheet?_divertDriven_same {s : State} {g : Tag} {r : Sheet} (l : Fin 8) (h : s.sheet? g = some r) :
    (divertDriven l g s).sheet? g = some { r with divertDone := true } := by
  rw [divertDriven, State.sheet?_modLane, State.sheet?_modSheet_same _ _ _ (fun _ => by rfl), h]
  rfl

/-- R57, R105: behind a cursor that stays, the diverted sheet stays with its mark. -/
theorem settleLane_divertDriven (stays : cursorStays s l) (head : (s.lane l).settleOrder.head? ≠ some g)
    (nonempty : path ≠ []) :
    settleLane l (divertDriven l g (exitLed l n g path s)) = divertDriven l g (exitLed l n g path s) := by
  have lane := lane_divertDriven (exitLed l n g path s) l g
  rw [lane_exitLed] at lane
  refine settleLane_of_cursorStays (cursorStays_of_stillWaits stays (by rw [lane]; rfl) fun u q hu hq => ?_)
    (drained_of_path (by rw [lane]; exact nonempty))
  have other : u ≠ g := fun e => head (e ▸ hu)
  refine ⟨q, ?_, .of_batch rfl rfl⟩
  rw [sheet?_divertDriven_other _ l other, exitLed, State.sheet?_modLane,
    State.sheet?_modSheet_other _ _ (fun _ => by rfl) other]
  exact hq

/-- R57, R105, R112: the diverted cursor sheet, alone in the settlement order, settles DIVERTED in the same event. -/
theorem settleLane_diverts {r : Sheet} (hr : s.sheet? g = some r) (order : (s.lane l).settleOrder = [g])
    (wait : r.queueWait = []) (jam : r.findings.jam = false) (live : (s.batchOf r.batch).state ≠ .aborted)
    (nonempty : path ≠ []) :
    settleLane l (divertDriven l g (exitLed l n g path s)) =
      (dropped l r (divertDriven l g (exitLed l n g path s))).modBatch r.batch (fun c => { c with
        settled := min (c.settled + 1) 65535, diverted := min (c.diverted + 1) 65535 }) := by
  set t := divertDriven l g (exitLed l n g path s) with ht
  have lane : t.lane l = _ := lane_divertDriven (exitLed l n g path s) l g
  rw [lane_exitLed] at lane
  have orderT : (t.lane l).settleOrder = [g] := by
    rw [lane]
    exact order
  have found : t.sheet? g = some { r with exitLead := some (s.lane l).counter, divertDone := true } :=
    sheet?_divertDriven_same l (sheet?_exitLed_same l n path hr)
  have aborting : batchAborting t { r with exitLead := some (s.lane l).counter, divertDone := true } = false :=
    decide_eq_false live
  have ready : cursorReady t g = true := by simp [cursorReady, found, sheetReady]
  have examined : examine l t = settleCursor l g t := by
    unfold examine
    rw [if_pos ((cursorWait_of_head orderT found).trans wait), poke_of_single orderT, if_pos ready]
  unfold settleLane
  rw [examined, settleCursor_diverts l found jam aborting rfl, drainTest_of_not_drained]
  · rfl
  · refine drained_of_path ?_
    rw [State.lane_modBatch, dropped, State.lane_modLane_same]
    change (t.lane l).path ≠ []
    rw [lane]
    exact nonempty

end

/-! ### The exit trail (R9, R58) -/

/-- The state with the exit trail of holder `g` captured and attributed, its path entry gone. -/
def exitLeft (l n : Fin 8) (g : Tag) (path : List PathEntry) (s : State) : State :=
  ((s.modLane l (Lane.exitTrailSensed n)).modSheet g (fun q => { q with exitTrail := some (s.lane l).counter })).modLane l
    (fun x => { x with exitHolder := none, path := path })

theorem lane_exitLeft (l n : Fin 8) (g : Tag) (path : List PathEntry) (s : State) :
    (exitLeft l n g path s).lane l =
      { (s.lane l).exitTrailSensed n with exitHolder := none, path := path } := by
  rw [exitLeft, State.lane_modLane_same, State.lane_modSheet, State.lane_modLane_same]

theorem exec_exitTrail_attributed {s : State} {l n : Fin 8} {g : Tag} {out rest : List PathEntry} {w : Option Tick}
    (hn : (s.lane l).lineWith .exit = some n) (ha : ((s.lane l).line n).isActive = true)
    (attributing : (s.lane l).state.attributing = true) (holder : (s.lane l).exitHolder = some g)
    (path : (s.lane l).path = out ++ ⟨g, true, w⟩ :: rest) (h : ∀ e ∈ out, e.tag ≠ g ∨ e.exited = false) :
    exec (.exitTrail l) s = .next (kickPorts (drainTest l (exitLeft l n g (out ++ rest) s))) := by
  have lane : (s.modLane l (Lane.exitTrailSensed n)).lane l = (s.lane l).exitTrailSensed n := State.lane_modLane_same _ _ _
  have left : (State.modLane (State.modSheet (s.modLane l (Lane.exitTrailSensed n)) g
      (fun q => { q with exitTrail := some (s.lane l).counter })) l (fun y =>
        { y with exitHolder := none, path := y.path.eraseP (fun e => decide (e.tag = g) && e.exited) })) =
      exitLeft l n g (out ++ rest) s := by
    refine State.modLane_congr _ l ?_
    rw [State.lane_modSheet, lane, ← eraseP_exitHolder h (w := w), ← path]
    rfl
  rw [exec_exitTrail hn ha, holder]
  refine congrArg Host.Outcome.next ((if_pos attributing).trans ?_)
  unfold attributeExitTrail
  simp only [lane, ← left]
  rfl

/-- Settles O47: the exit cursor is the first entry not exited, and after the path order's change each rule's case is one of
`divertSheet` or of the drain test. -/
theorem exitEdgesFollowPath : Obligations.ExitEdgesFollowPath := by
  intro s l n hn counter entered cleared
  refine ⟨fun ha rest => ?_, fun ha alone => exec_exitTrail_alone hn ha alone, fun g out rest w attributing => ⟨?_, ?_⟩⟩
  · rw [exec_exitLead hn ha, if_neg (by rw [rest]; decide)]
    rfl
  · intro ha path exited led
    have run := exec_exitLead_attributed hn ha attributing path exited
    have led_eq : led = exitLed l n g (out ++ ⟨g, true, none⟩ :: rest) s := rfl
    have gate : (led.lane l).gateHolder = (s.lane l).gateHolder := by
      rw [led_eq, lane_exitLed]
      rfl
    have found : ∀ r, s.sheet? g = some r → led.sheet? g = some { r with exitLead := some counter } :=
      fun r hr => sheet?_exitLed_same l n _ hr
    rw [← led_eq] at run
    refine ⟨fun kept => ⟨_, run, ?_⟩, fun inGate => ⟨_, run, ?_⟩, ?_⟩
    · rw [interior_kickPorts]
      rcases kept with absent | ⟨r, hr, notGate, keep⟩
      · rw [divertSheet_of_absent (s := led) (sheet?_exitLed_absent l n _ absent)]
      · rw [divertSheet_of_kept (found r hr) (by rwa [gate]) keep]
    · rw [interior_kickPorts, divertSheet_of_gate (gate.trans inGate)]
    · intro r hr notGate unsettled notPast action finding driven
      have driven_eq : driven = divertDriven l g led := rfl
      have divert : toDivert led { r with exitLead := some counter } = true :=
        (toDivert_iff led _).mpr ⟨unsettled, notPast, action, finding⟩
      rw [divertSheet_of_diverted (found r hr) (by rwa [gate]) divert, ← driven_eq] at run
      have nonempty : out ++ (⟨g, true, none⟩ : PathEntry) :: rest ≠ [] := by simp
      refine ⟨⟨_, _, run, rfl, rfl⟩, fun order wait jam live => ⟨_, run, ?_⟩, fun stays head => ⟨_, run, ?_⟩⟩
      · rw [interior_kickPorts, driven_eq, led_eq, settleLane_diverts hr order wait jam live nonempty]
      · rw [interior_kickPorts, driven_eq, led_eq, settleLane_divertDriven stays head nonempty]
  · intro ha holder path others left
    have run := exec_exitTrail_attributed hn ha attributing holder path others
    have left_eq : left = exitLeft l n g (out ++ rest) s := rfl
    have lane := lane_exitLeft l n g (out ++ rest) s
    rw [← left_eq] at run lane
    refine ⟨fun more => ⟨_, run, ?_⟩, fun id queued b draining noPicking empty noOrder active => ⟨_, run, ?_⟩⟩
    · have busy : (left.lane l).drained = false := by
        refine Bool.eq_false_iff.mpr fun drained => ?_
        obtain ⟨state, picking, noPath, noOrder⟩ := (drained_iff _).mp drained
        rw [lane] at state picking noPath noOrder
        rcases more with h | h | h | h
        exacts [h state, h picking, h noPath, h noOrder]
      rw [interior_kickPorts, drainTest_of_not_drained busy]
    · have drained : (left.lane l).drained = true := by
        rw [drained_iff, lane]
        exact ⟨draining, noPicking, empty, noOrder⟩
      have still : activeWith left l id queued b := by
        obtain ⟨queue, notBehind, hb, own, state, aborts⟩ := active
        exact ⟨by rw [lane]; exact queue, notBehind, hb, own, state, by rw [lane]; exact aborts⟩
      rw [interior_kickPorts, interior_drainTest_of_drained still drained]

end Sys2Proof.Machine
end

section
/-!
PROOF. What the settlement of a cursor sheet leaves alone: said once for each operation, then for the settlement and for the
loop over the cursor (R103, R105, R109 to R118).
-/

namespace Sys2Proof.Machine

/-! ### The parts of the state that settlement can reach -/

/-- `t` is `s` but for what a settlement without a drain's end can change. -/
def onlySettles (s t : State) : Prop :=
  t = { s with
    lanes := t.lanes, sheets := t.sheets, batches := t.batches, dests := t.dests, held := t.held, flags := t.flags,
    notices := t.notices, pendingLost := t.pendingLost, lostCount := t.lostCount, free := t.free,
    reserved := t.reserved, allocated := t.allocated, directory := t.directory }

theorem onlySettles.refl (s : State) : onlySettles s s := rfl

theorem onlySettles.trans {s t u : State} (h : onlySettles s t) (k : onlySettles t u) : onlySettles s u := by
  unfold onlySettles at *
  rw [h] at k
  exact k

theorem onlySettles_raise (f : Flag) (s : State) : onlySettles s (raise f s) := by
  unfold raise
  split
  · rfl
  · dsimp only
    split
    · unfold formNotice
      split
      · rfl
      · split
        · rfl
        · unfold loseNotice
          split
          · rfl
          · dsimp only
            split <;> rfl
    · rfl

/-- A lane that a settlement has changed while it does not feed: what has left its order, and with END as drain cause where
a separator ended the feeding (R42, R144). The samples are those of a sheet in the gate (R12, R22). -/
structure Lane.SettledTo (x y : Lane) : Prop where
  frame : y = { x with
    settleOrder := y.settleOrder, sampleDue := y.sampleDue, acc := y.acc, toHead := y.toHead, drainCause := y.drainCause }
  cause : y.drainCause = x.drainCause ∨ y.drainCause = .feedEnd
  gate : x.gateHolder = none → y.sampleDue = x.sampleDue ∧ y.acc = x.acc

theorem Lane.SettledTo.refl (x : Lane) : x.SettledTo x := ⟨rfl, .inl rfl, fun _ => ⟨rfl, rfl⟩⟩

theorem Lane.SettledTo.gateHolder {x y : Lane} (h : x.SettledTo y) : y.gateHolder = x.gateHolder := by
  rw [h.frame]

theorem Lane.SettledTo.state {x y : Lane} (h : x.SettledTo y) : y.state = x.state := by
  rw [h.frame]

theorem Lane.SettledTo.trans {x y z : Lane} (h : x.SettledTo y) (k : y.SettledTo z) : x.SettledTo z := by
  refine ⟨?_, ?_, fun empty => ?_⟩
  · have step := k.frame
    rw [h.frame] at step
    exact step
  · rcases k.cause with same | ended
    · rw [same]
      exact h.cause
    · exact .inr ended
  · obtain ⟨sample, acc⟩ := k.gate (h.gateHolder.trans empty)
    rw [sample, acc]
    exact h.gate empty

/-- What a settlement of sheet `g` at the cursor of lane `l` leaves alone: the other lanes, the other sheets, the flags that
are set, and on a JAMMED lane all but its lists, its frames and its drain cause. -/
structure SettleFrame (l : Fin 8) (g : Tag) (s t : State) : Prop where
  parts : onlySettles s t
  lanes : ∀ k, k ≠ l → t.lane k = s.lane k
  sheets : ∀ u, u ≠ g → t.sheet? u = s.sheet? u
  absent : s.sheet? g = none → t.sheet? g = none
  flags : ∀ f, f ≠ noticeLostFlag → s.flag f = true → t.flag f = true
  jammed : (s.lane l).state = .jammed → (s.lane l).SettledTo (t.lane l)

theorem SettleFrame.refl (l : Fin 8) (g : Tag) (s : State) : SettleFrame l g s s :=
  ⟨rfl, fun _ _ => rfl, fun _ _ => rfl, id, fun _ _ => id, fun _ => .refl _⟩

theorem SettleFrame.trans {l : Fin 8} {g : Tag} {s t u : State} (h : SettleFrame l g s t) (k : SettleFrame l g t u) :
    SettleFrame l g s u where
  parts := h.parts.trans k.parts
  lanes j hj := (k.lanes j hj).trans (h.lanes j hj)
  sheets j hj := (k.sheets j hj).trans (h.sheets j hj)
  absent a := k.absent (h.absent a)
  flags f hf hs := k.flags f hf (h.flags f hf hs)
  jammed hj := (h.jammed hj).trans (k.jammed ((h.jammed hj).state.trans hj))

/-- A settlement's operation that leaves the settlement order. -/
structure CursorFrame (l : Fin 8) (g : Tag) (s t : State) : Prop extends SettleFrame l g s t where
  order : (t.lane l).settleOrder = (s.lane l).settleOrder

theorem CursorFrame.refl (l : Fin 8) (g : Tag) (s : State) : CursorFrame l g s s := ⟨.refl l g s, rfl⟩

theorem CursorFrame.trans {l : Fin 8} {g : Tag} {s t u : State} (h : CursorFrame l g s t) (k : CursorFrame l g t u) :
    CursorFrame l g s u := ⟨h.toSettleFrame.trans k.toSettleFrame, k.order.trans h.order⟩

/-! ### The operations -/

section
variable (l : Fin 8) (g : Tag) (s : State)

/-- An update of other parts than lanes, sheets and flags. -/
theorem cursorFrame_of_parts {t : State} (parts : onlySettles s t) (lanes : t.lanes = s.lanes)
    (sheets : t.sheets = s.sheets) (flags : t.flags = s.flags) : CursorFrame l g s t := by
  have lane : ∀ k, t.lane k = s.lane k := fun k => State.lane_eq_of_lanes lanes k
  refine ⟨⟨parts, fun k _ => lane k, fun u _ => by simp only [State.sheet?, sheets],
    fun h => by simpa only [State.sheet?, sheets] using h, fun f _ h => by simpa only [State.flag, flags] using h,
    fun _ => by rw [lane]; exact .refl _⟩, by rw [lane]⟩

theorem cursorFrame_listed (e : HeldEntry) : CursorFrame l g s { s with held := s.held ++ [e] } :=
  cursorFrame_of_parts l g s rfl rfl rfl rfl

theorem cursorFrame_modBatch (id : Nat) (f : Batch → Batch) : CursorFrame l g s (s.modBatch id f) :=
  cursorFrame_of_parts l g s rfl rfl rfl rfl

theorem cursorFrame_countReleased (id : Nat) : CursorFrame l g s (countReleased id s) :=
  cursorFrame_modBatch l g s id _

theorem cursorFrame_raise (f : Flag) : CursorFrame l g s (raise f s) := by
  have left := interior_raise f s
  have lane : ∀ k, (raise f s).lane k = s.lane k := fun k => lane_of_interior left k
  refine ⟨⟨onlySettles_raise f s, fun k _ => lane k, fun u _ => sheet?_of_interior left u,
    fun h => (sheet?_of_interior left g).trans h, fun j hj h => ?_, fun _ => by rw [lane]; exact .refl _⟩, by rw [lane]⟩
  by_cases same : j = f
  · subst same
    exact flag_raise_same s hj
  · rw [flag_raise_other s same hj, h]

theorem cursorFrame_modSheet (f : Sheet → Sheet) (hf : ∀ r, (f r).tag = r.tag) : CursorFrame l g s (s.modSheet g f) :=
  ⟨⟨rfl, fun _ _ => rfl, fun _ hu => State.sheet?_modSheet_other s f hf hu,
    fun h => by rw [State.sheet?_modSheet_same s g f hf, h]; rfl, fun _ _ h => h, fun _ => .refl _⟩, rfl⟩

theorem sheet?_freeRecord (u : Tag) : (freeRecord g s).sheet? u = if u = g then none else s.sheet? u := by
  cases h : s.sheet? g with
  | none =>
    rw [freeRecord_of_absent h]
    split
    case isTrue e => rw [e, h]
    case isFalse => rfl
  | some r =>
    rw [freeRecord_of_sheet? h, freedOf_sheet?, State.tag_of_sheet? h]

theorem cursorFrame_freeRecord : CursorFrame l g s (freeRecord g s) := by
  have rest : onlySettles s (freeRecord g s) ∧ (freeRecord g s).lanes = s.lanes ∧ (freeRecord g s).flags = s.flags := by
    unfold freeRecord
    split <;> exact ⟨rfl, rfl, rfl⟩
  obtain ⟨parts, lanes, flags⟩ := rest
  have lane : ∀ k, (freeRecord g s).lane k = s.lane k := fun k => State.lane_eq_of_lanes lanes k
  refine ⟨⟨parts, fun k _ => lane k, fun u hu => by rw [sheet?_freeRecord, if_neg hu],
    fun _ => by rw [sheet?_freeRecord, if_pos rfl], fun f _ h => by simpa only [State.flag, flags] using h,
    fun _ => by rw [lane]; exact .refl _⟩, by rw [lane]⟩

theorem cursorFrame_returnReserve : CursorFrame l g s (returnReserve g s) := by
  unfold returnReserve
  split
  · exact .refl l g s
  next r _ =>
    have returned : CursorFrame l g s { s with free := s.free + r.reserve, reserved := s.reserved - r.reserve } :=
      cursorFrame_of_parts l g s rfl rfl rfl rfl
    exact returned.trans (cursorFrame_modSheet l g _ _ (fun _ => by rfl))

/-- An update of the lane itself. -/
theorem settleFrame_modLane (f : Lane → Lane) (hf : (s.lane l).state = .jammed → (s.lane l).SettledTo (f (s.lane l))) :
    SettleFrame l g s (s.modLane l f) :=
  ⟨rfl, fun _ hk => State.lane_modLane_other s f hk, fun _ _ => rfl, id, fun _ _ h => h, fun jammed => by
    rw [State.lane_modLane_same]
    exact hf jammed⟩

theorem cursorFrame_modLane (f : Lane → Lane) (hf : (s.lane l).state = .jammed → (s.lane l).SettledTo (f (s.lane l)))
    (order : (f (s.lane l)).settleOrder = (s.lane l).settleOrder) : CursorFrame l g s (s.modLane l f) :=
  ⟨settleFrame_modLane l g s f hf, by rw [State.lane_modLane_same, order]⟩

theorem cursorFrame_sendHead (frame : List Byte) : CursorFrame l g s (sendHead l frame s) := by
  rw [sendHead_eq]
  exact cursorFrame_modLane l g s _ (fun _ => ⟨rfl, .inl rfl, fun _ => ⟨rfl, rfl⟩⟩) rfl

theorem cursorFrame_numberSheet : CursorFrame l g s (numberSheet g s) := by
  unfold numberSheet
  split
  · exact .refl l g s
  · exact (cursorFrame_modBatch l g s _ _).trans (cursorFrame_modSheet l g _ _ (fun _ => by rfl))

theorem cursorFrame_halt (why : HaltReason) : CursorFrame l g s (halt l why s) := by
  unfold halt
  split
  case isTrue halts =>
    refine (cursorFrame_modLane l g s _ (fun jammed => ?_) rfl).trans (cursorFrame_raise l g _ _)
    rw [jammed] at halts
    cases why <;> simp [haltsIn] at halts
  case isFalse => exact .refl l g s

theorem cursorFrame_endFeeding : CursorFrame l g s (endFeeding l s) := by
  have lane : ∀ u : State, (u.lane l) = s.lane l → CursorFrame l g s u →
      CursorFrame l g s (u.modLane l Lane.fedOut) := by
    intro u hu frame
    refine frame.trans (cursorFrame_modLane l g u _ (fun jammed => ?_) ?_)
    · have idle : ¬ ((u.lane l).state = .spinup ∨ (u.lane l).state = .feeding) := by simp [jammed]
      unfold Lane.fedOut
      simp only [if_neg idle]
      refine ⟨rfl, ?_, fun _ => ⟨rfl, rfl⟩⟩
      dsimp only
      split
      case isTrue abort => exact .inl abort.symm
      case isFalse => exact .inr rfl
    · unfold Lane.fedOut
      dsimp only
      split <;> rfl
  cases active : s.activeBatch l with
  | none =>
    have idle : endFeeding l s = s.modLane l Lane.fedOut := by
      simp only [endFeeding, active]
      rfl
    rw [idle]
    exact lane s rfl (.refl l g s)
  | some id =>
    rw [endFeeding_of_active active]
    exact lane _ rfl (cursorFrame_modBatch l g s _ _)

theorem cursorFrame_applyMatch (i : Fin 8) : CursorFrame l g s (applyMatch l g i s) := by
  unfold applyMatch
  split
  · exact .refl l g s
  next r _ =>
    have marked := (cursorFrame_modSheet l g s (fun q => { q with separatorMatch := some i }) (fun _ => rfl)).trans
      (cursorFrame_modBatch l g _ r.batch (fun b => { b with breakPending := true }))
    dsimp only
    split
    · exact marked
    · exact marked.trans (cursorFrame_endFeeding l g _)

theorem cursorFrame_appendEntry (e : Fin 16 × DeliveryEntry) : CursorFrame l g s (appendEntry s e) := by
  unfold appendEntry
  dsimp only
  have appended : CursorFrame l g s (s.modDest e.1 (fun x => { x with queue := x.queue ++ [e.2] })) :=
    cursorFrame_of_parts l g s rfl rfl rfl rfl
  split
  · exact appended.trans (cursorFrame_raise l g _ _)
  · exact appended

theorem cursorFrame_appendEntries (es : List (Fin 16 × DeliveryEntry)) : CursorFrame l g s (es.foldl appendEntry s) := by
  induction es generalizing s with
  | nil => exact .refl l g s
  | cons e rest ih => exact (cursorFrame_appendEntry l g s e).trans (ih _)

theorem cursorFrame_deliver (kind : Kind) (es : List (Fin 16 × DeliveryEntry)) :
    CursorFrame l g s (deliver g kind es s) := by
  unfold deliver
  split
  · exact .refl l g s
  · exact ((cursorFrame_appendEntries l g s es).trans (cursorFrame_modSheet l g _ _ (fun _ => by rfl))).trans
      (cursorFrame_modBatch l g _ _ _)

theorem cursorFrame_freeIfIdle (es : List (Fin 16 × DeliveryEntry)) : CursorFrame l g s (freeIfIdle g es s) := by
  unfold freeIfIdle
  split
  · exact cursorFrame_freeRecord l g s
  · exact .refl l g s

/-! ### The outcomes: the sheet leaves the order -/

/-- A settlement by which the sheet leaves its lane's settlement order (R109). -/
structure LeavesOrder (l : Fin 8) (g : Tag) (s t : State) : Prop extends SettleFrame l g s t where
  order : (t.lane l).settleOrder = (s.lane l).settleOrder.erase g

end

section
variable {l : Fin 8} {g : Tag} {s t u : State}

theorem LeavesOrder.trans (h : LeavesOrder l g s t) (k : CursorFrame l g t u) : LeavesOrder l g s u :=
  ⟨h.toSettleFrame.trans k.toSettleFrame, k.order.trans h.order⟩

theorem CursorFrame.leaves (h : CursorFrame l g s t) (k : LeavesOrder l g t u) : LeavesOrder l g s u :=
  ⟨h.toSettleFrame.trans k.toSettleFrame, by rw [k.order, h.order]⟩

end

section
variable (l : Fin 8) (g : Tag) (s : State)

/-- R109: a tag without a record is struck from the order. -/
theorem leaves_erased : LeavesOrder l g s (s.modLane l (fun x => { x with settleOrder := x.settleOrder.erase g })) :=
  ⟨settleFrame_modLane l g s _ (fun _ => ⟨rfl, .inl rfl, fun _ => ⟨rfl, rfl⟩⟩), by rw [State.lane_modLane_same]⟩

theorem leaves_leaveOrder : LeavesOrder l g s (leaveOrder l g s) := by
  have erased : LeavesOrder l g s (s.modLane l (fun x => { x with
      settleOrder := x.settleOrder.erase g
      sampleDue := if x.gateHolder = some g then none else x.sampleDue
      acc := if x.gateHolder = some g then .empty else x.acc })) :=
    ⟨settleFrame_modLane l g s _ (fun _ => ⟨rfl, .inl rfl, fun empty => by simp [empty]⟩), by rw [State.lane_modLane_same]⟩
  refine (erased.trans ?_).trans (cursorFrame_modSheet l g _ _ (fun _ => by rfl))
  exact cursorFrame_returnReserve l g _

theorem leaves_dropSheet (count : Batch → Batch) : LeavesOrder l g s (dropSheet count l g s) := by
  unfold dropSheet
  split
  · exact leaves_erased l g s
  next r _ =>
    have counted := (leaves_leaveOrder l g s).trans (cursorFrame_modBatch l g _ r.batch (fun b =>
      count { b with settled := addSat b.settled 1 }))
    dsimp only
    split
    · exact counted.trans (cursorFrame_freeRecord l g _)
    · exact (counted.trans (cursorFrame_sendHead l g _ _)).trans (cursorFrame_freeRecord l g _)

theorem leaves_settleHeld {r : Sheet} (found : s.sheet? g = some r) : LeavesOrder l g s (settleHeld l g s) := by
  unfold settleHeld
  split
  · exact ((cursorFrame_numberSheet l g s).leaves (leaves_dropSheet l g _ _)).trans (cursorFrame_raise l g _ _)
  · simp only [found]
    have counted := (leaves_leaveOrder l g s).trans (cursorFrame_modBatch l g _ r.batch (fun b =>
      { b with settled := addSat b.settled 1, heldNow := addSat b.heldNow 1, holds := addSat b.holds 1 }))
    have written := (counted.trans (cursorFrame_numberSheet l g _)).trans
      (cursorFrame_modSheet l g _ (fun q => { q with state := .held, outcome := some .held }) (fun _ => rfl))
    exact ((written.trans (cursorFrame_listed l g _ ⟨g, r.batch, r.findings⟩)).trans (cursorFrame_raise l g _ _)).trans
      (cursorFrame_halt l g _ _)

theorem leaves_settleReleased (id : Nat) (kind : Kind) (sep : Option (Fin 8)) (es : List (Fin 16 × DeliveryEntry)) :
    LeavesOrder l g s (settleReleased l g id kind sep es s) := by
  have counted := ((leaves_leaveOrder l g s).trans (cursorFrame_deliver l g _ kind es)).trans
    (cursorFrame_countReleased l g _ id)
  unfold settleReleased
  dsimp only
  split
  · exact (counted.trans (cursorFrame_applyMatch l g _ _)).trans (cursorFrame_freeIfIdle l g _ es)
  · exact (counted.trans (cursorFrame_numberSheet l g _)).trans (cursorFrame_freeIfIdle l g _ es)

theorem leaves_settleSeparator (id : Nat) (i : Fin 8) : LeavesOrder l g s (settleSeparator l g id i s) :=
  (((leaves_leaveOrder l g s).trans (cursorFrame_countReleased l g _ id)).trans (cursorFrame_applyMatch l g _ i)).trans
    (cursorFrame_freeRecord l g _)

/-- A settled cursor sheet has left the order, or waits for queue space (R105, R117). -/
def settledOrWaits (t : State) : Prop :=
  LeavesOrder l g s t ∨ (CursorFrame l g s t ∧ ∃ r, t.sheet? g = some r ∧ r.queueWait ≠ [])

end

section
variable {l : Fin 8} {g : Tag} {s : State} {r : Sheet}

theorem settledOrWaits_routeSheet (found : s.sheet? g = some r) (q : Sheet) (hq : q.tag = g) (sep : Option (Fin 8)) :
    settledOrWaits l g s (routeSheet l q sep s) := by
  subst hq
  unfold routeSheet
  dsimp only
  split
  · refine .inl ((cursorFrame_modSheet l q.tag s _ (fun _ => by rfl)).leaves
      (leaves_settleHeld l q.tag _ (r := { r with findings := { r.findings with noRoute := true } }) ?_))
    rw [State.sheet?_modSheet_same _ _ _ (fun _ => by rfl), found]
    rfl
  · split
    · exact .inl (leaves_settleReleased l q.tag s _ _ _ _)
    case isFalse full =>
      refine .inr ⟨cursorFrame_modSheet l q.tag s _ (fun _ => by rfl), { r with queueWait := fullDests s _ }, ?_, full⟩
      rw [State.sheet?_modSheet_same _ _ _ (fun _ => by rfl), found]
      rfl

theorem settledOrWaits_decideOutcome (found : s.sheet? g = some r) (q : Sheet) (hq : q.tag = g) :
    settledOrWaits l g s (decideOutcome l q s) := by
  unfold decideOutcome
  split
  · rw [hq]
    exact .inl (leaves_dropSheet l g s _)
  · split
    · rw [hq]
      exact .inl (leaves_dropSheet l g s _)
    · split
      · rw [hq]
        exact .inl (leaves_settleHeld l g s found)
      · split
        · split
          · exact settledOrWaits_routeSheet found q hq _
          · rw [hq]
            exact .inl (leaves_settleSeparator l g s _ _)
        · exact settledOrWaits_routeSheet found q hq _

/-- R105: all that the settlement of a cursor sheet leaves alone. -/
theorem settledOrWaits_settleCursor (l : Fin 8) (g : Tag) (s : State) : settledOrWaits l g s (settleCursor l g s) := by
  cases found : s.sheet? g with
  | none =>
    unfold settleCursor
    rw [found]
    exact .inl (leaves_erased l g s)
  | some r =>
    rw [settleCursor_of_sheet? l found]
    have ready := cursorFrame_modSheet l g s (fun q => { q with state := .ready }) (fun _ => rfl)
    have tag : r.tag = g := State.tag_of_sheet? found
    have still : (s.modSheet g (fun q => { q with state := .ready })).sheet? g = some { r with state := .ready } := by
      rw [State.sheet?_modSheet_same _ _ _ (fun _ => by rfl), found]
      rfl
    rcases settledOrWaits_decideOutcome (l := l) still { r with state := .ready } tag with
      left | ⟨stays, waiting⟩
    · exact .inl (ready.leaves left)
    · exact .inr ⟨ready.trans stays, waiting⟩

theorem settleFrame_settleCursor (l : Fin 8) (g : Tag) (s : State) : SettleFrame l g s (settleCursor l g s) := by
  rcases settledOrWaits_settleCursor l g s with left | ⟨stays, -⟩
  · exact left.toSettleFrame
  · exact stays.toSettleFrame

end

/-! ### The loop over the cursor -/

/-- What every settlement at the cursor keeps, the loop over the cursor keeps (R105). -/
theorem settleLoop_keeps {l : Fin 8} (keeps : State → Prop)
    (step : ∀ s u, keeps s → (s.lane l).settleOrder.head? = some u → keeps (settleCursor l u s)) (k : Nat) {s : State}
    (h : keeps s) : keeps (settleLoop l k s) := by
  induction k generalizing s with
  | zero => exact h
  | succ k ih =>
    unfold settleLoop
    split
    · exact h
    next u rest order =>
      dsimp only
      have settled := step s u h (by rw [order]; rfl)
      split
      · split
        · exact settled
        · exact ih settled
      · exact h

end Sys2Proof.Machine
end

section
/-!
PROOF. An expired image deadline (R13, R107): what it writes, and the examination of the cursor sheet that it can settle
twice in a row to no further effect (R105, R117).
-/

namespace Sys2Proof.Machine

/-! ### A completed drain is not completed twice (R43) -/

theorem lanes_testClosure (id : Nat) (s : State) : (testClosure id s).lanes = s.lanes := by
  cases found : s.batch? id with
  | none => simp [testClosure, found]
  | some b =>
    have left := interior_testClosure found
    split at left
    · exact lanes_of_interior (t := reportedOf b .closed s) left
    · exact lanes_of_interior left

theorem lanes_testAbort (id : Nat) (s : State) : (testAbort id s).lanes = s.lanes := by
  cases found : s.batch? id with
  | none => simp [testAbort, found]
  | some b =>
    have left := interior_testAbort found
    split at left
    · exact lanes_of_interior (t := reportedOf b .aborted s) left
    · exact lanes_of_interior left

/-- R131: a batch that leaves its lane changes drain cause and lane queue alone. -/
theorem lane_batchLeaves (l : Fin 8) (s : State) :
    (batchLeaves l s).lane l = { s.lane l with
      drainCause := .none, batchQueue := ((batchLeaves l s).lane l).batchQueue } := by
  unfold batchLeaves
  dsimp only
  split
  · rw [State.lane_modLane_same]
  · split
    · rw [State.lane_modBatch, State.lane_modLane_same]
    · rw [State.lane_modBatch, State.lane_modLane_same]
    · rw [State.lane_eq_of_lanes (lanes_testClosure _ _) l, lane_of_interior (interior_raise _ _) l, State.lane_setFlag,
        State.lane_modLane_same, State.lane_modBatch, State.lane_modLane_same]
    · rw [State.lane_eq_of_lanes (lanes_testAbort _ _) l, State.lane_modLane_same, State.lane_modLane_same]

theorem settleOrder_drainTest (l : Fin 8) (s : State) : ((drainTest l s).lane l).settleOrder = (s.lane l).settleOrder := by
  unfold drainTest
  split
  · rw [lane_batchLeaves, State.lane_modLane_same]
    rfl
  · rfl

theorem not_drained_drainTest (l : Fin 8) (s : State) : ((drainTest l s).lane l).drained = false := by
  unfold drainTest
  split
  case isTrue =>
    refine drained_of_state_ne ?_
    rw [lane_batchLeaves, State.lane_modLane_same]
    exact LaneState.noConfusion
  case isFalse waits => exact Bool.eq_false_iff.mpr waits

/-- R43, R105: with the settlement order empty, a lane whose drain has just been tested has nothing left to do. -/
theorem settleLane_drainTest_of_empty {l : Fin 8} {s : State} (order : (s.lane l).settleOrder = []) :
    settleLane l (drainTest l s) = drainTest l s := by
  have empty : ((drainTest l s).lane l).settleOrder = [] := (settleOrder_drainTest l s).trans order
  exact settleLane_of_cursorStays (.inr (.inl empty)) (not_drained_drainTest l s)

/-! ### A cursor sheet settled twice in a row (R105, R117) -/

/-- A cursor sheet alone in the order either leaves it, or stays as one that waits or is not ready. -/
theorem empty_or_examine_poke_of_single {s : State} {l : Fin 8} {g : Tag} (order : (s.lane l).settleOrder = [g]) :
    ((poke l s).lane l).settleOrder = [] ∨
      ((poke l s).lane l).settleOrder = [g] ∧ examine l (poke l s) = poke l s := by
  rw [poke_of_single order]
  split
  case isTrue ready =>
    rcases settledOrWaits_settleCursor l g s with left | ⟨stays, r, found, waits⟩
    · left
      rw [left.order, order, List.erase_cons_head]
    · have still := stays.order.trans order
      refine .inr ⟨still, examine_of_cursorStays (.inl ?_)⟩
      rwa [cursorWait_of_head still found]
  case isFalse notReady =>
    refine .inr ⟨order, ?_⟩
    unfold examine
    rw [poke_of_single order, if_neg notReady, ite_self]

/-- R105: an examination right after the settlement of a lane's only sheet does nothing more. -/
theorem settleLane_pokeLane_of_single {s : State} {l : Fin 8} {g : Tag} (order : (s.lane l).settleOrder = [g]) :
    settleLane l (pokeLane l s) = pokeLane l s := by
  unfold pokeLane
  rcases empty_or_examine_poke_of_single order with empty | ⟨still, examined⟩
  · exact settleLane_drainTest_of_empty empty
  · have waits : ((poke l s).lane l).drained = false := drained_of_settleOrder (by rw [still]; exact List.cons_ne_nil _ _)
    rw [drainTest_of_not_drained waits, settleLane, examined, drainTest_of_not_drained waits]

/-! ### The expiry (R13, R107) -/

/-- The state with sheet `g`, whose record is `r`, marked by its expired image deadline. -/
def imageExpired (g : Tag) (r : Sheet) (s : State) : State :=
  s.modSheet g (fun q => { q with
    imageTimeout := true, imageDeadline := none
    findings := if imagesComplete s r then q.findings else { q.findings with incomplete := true } })

/-- With one record under each tag (R102), an update of a sheet is what it makes of that sheet's record. -/
theorem State.modSheet_congr {s : State} {g : Tag} {r : Sheet} {f k : Sheet → Sheet}
    (unique : (s.sheets.map Sheet.tag).Nodup) (found : s.sheet? g = some r) (same : f r = k r) :
    s.modSheet g f = s.modSheet g k := by
  have live : r ∈ s.sheets := List.mem_of_find?_eq_some found
  have kept : s.sheets.map (fun q => if q.tag = g then f q else q) = s.sheets.map (fun q => if q.tag = g then k q else q) := by
    refine List.map_congr_left fun q hq => ?_
    split
    case isTrue tagged =>
      have one : q = r := List.inj_on_of_nodup_map unique hq live (tagged.trans (State.tag_of_sheet? found).symm)
      rw [one, same]
    case isFalse => rfl
  simp only [State.modSheet, kept]

section
variable {s : State} {g : Tag} {r : Sheet} (unique : (s.sheets.map Sheet.tag).Nodup) (found : s.sheet? g = some r)
include found

theorem sheet?_imageExpired_same : (imageExpired g r s).sheet? g = some { r with
    imageTimeout := true, imageDeadline := none
    findings := if imagesComplete s r then r.findings else { r.findings with incomplete := true } } := by
  unfold imageExpired
  rw [State.sheet?_modSheet_same _ _ _ (fun _ => by rfl), found]
  rfl

include unique

/-- R13, R107: an expired image deadline marks its sheet; the INCOMPLETE it adds to a cursor sheet settles that again
(R117), and the cursor is examined. -/
theorem exec_imageDeadlineExpiry (expired : r.imageDeadline = some (s.lane g.lane).counter) :
    exec (.imageDeadlineExpiry g) s = .next (kickPorts (settleLane g.lane
      (if (imagesComplete s r = false ∧ r.findings.incomplete = false) ∧ (s.lane g.lane).settleOrder.head? = some g then
        pokeLane g.lane (imageExpired g r s)
      else imageExpired g r s))) := by
  have arm : exec (.imageDeadlineExpiry g) s = execImageDeadlineExpiry g s := rfl
  have isDue : due (s.lane g.lane).counter r.imageDeadline = true := by simp [due, expired]
  have marked : (s.modSheet g (fun q => { q with imageTimeout := true, imageDeadline := none })).sheet? g =
      some { r with imageTimeout := true, imageDeadline := none } := by
    rw [State.sheet?_modSheet_same _ _ _ (fun _ => by rfl), found]
    rfl
  rw [arm]
  unfold execImageDeadlineExpiry
  simp only [found, isDue, if_true]
  cases complete : imagesComplete s r with
  | true =>
    rw [if_pos rfl, if_neg (by simp)]
    simp only [imageExpired, complete, if_true]
  | false =>
    rw [if_neg Bool.false_ne_true]
    unfold addIncomplete
    simp only [marked]
    cases old : r.findings.incomplete with
    | true =>
      rw [if_pos rfl, if_neg (by simp)]
      have same : s.modSheet g (fun q => { q with imageTimeout := true, imageDeadline := none }) = imageExpired g r s := by
        refine State.modSheet_congr unique found ?_
        have kept : ({ r.findings with incomplete := true } : Findings) = r.findings := by rw [← old]
        simp only [complete, Bool.false_eq_true, if_false, kept]
      rw [same]
    | false =>
      have same : (s.modSheet g (fun q => { q with imageTimeout := true, imageDeadline := none })).modSheet g
          (fun q => { q with findings := { q.findings with incomplete := true } }) = imageExpired g r s := by
        rw [State.modSheet_modSheet _ _ _ _ (fun _ => by rfl)]
        simp only [imageExpired, complete, Bool.false_eq_true, if_false]
        rfl
      simp only [Bool.false_eq_true, if_false, same, true_and, and_self]
      rfl

end

section
variable {s : State} {g : Tag} {r : Sheet}

/-- R105, R106: a cursor that stays, at another sheet, stays when this sheet's image deadline expires. -/
theorem cursorStays_imageExpired {l : Fin 8} (stays : cursorStays s l) (behind : (s.lane l).settleOrder.head? ≠ some g) :
    cursorStays (imageExpired g r s) l := by
  refine cursorStays_of_stillWaits stays rfl fun u q head found => ⟨q, ?_, .of_batch rfl rfl⟩
  have other : u ≠ g := fun e => behind (by rw [head, e])
  exact (State.sheet?_modSheet_other _ _ (fun _ => by rfl) other).trans found

end

/-- Settles O40: the expiry marks the sheet; with the cursor elsewhere nothing more follows, and the cursor sheet is settled
again where INCOMPLETE is new, after which the examination does nothing more. -/
theorem imageDeadlineMarksSheet : Obligations.ImageDeadlineMarksSheet := by
  unfold Obligations.ImageDeadlineMarksSheet
  intro s g r unique found deadline expired added
  have run := exec_imageDeadlineExpiry unique found deadline
  refine ⟨fun stays behind waits => ⟨_, run, ?_⟩, fun order => ?_⟩
  · have notDrained : ((imageExpired g r s).lane g.lane).drained = false := by
      by_cases draining : (s.lane g.lane).state = .draining
      · rcases waits draining with path | order
        · exact drained_of_path path
        · exact drained_of_settleOrder order
      · exact drained_of_state_ne draining
    rw [if_neg fun both => behind both.2, settleLane_of_cursorStays (cursorStays_imageExpired stays behind) notDrained,
      interior_kickPorts]
    rfl
  · have order' : ((imageExpired g r s).lane g.lane).settleOrder = [g] := order
    have head : (s.lane g.lane).settleOrder.head? = some g := by rw [order]; rfl
    have wait : cursorWait (imageExpired g r s) g.lane = r.queueWait :=
      (cursorWait_of_head order' (sheet?_imageExpired_same found)).trans rfl
    refine ⟨fun free => ?_, fun waiting isAdded => ?_, fun waiting notAdded => ⟨_, run, ?_⟩⟩
    · refine ⟨_, _, run, rfl, ?_⟩
      have examined : settleLane g.lane expired = pokeLane g.lane (imageExpired g r s) := by
        show drainTest g.lane (examine g.lane (imageExpired g r s)) = _
        rw [examine, if_pos (wait.trans free)]
        rfl
      by_cases isAdded : added
      · rw [if_pos ⟨isAdded, head⟩, settleLane_pokeLane_of_single order', examined]
      · rw [if_neg fun both => isAdded both.1]
        rfl
    · refine ⟨_, _, run, rfl, ?_⟩
      have waits : cursorWait expired g.lane ≠ [] := by
        show cursorWait (imageExpired g r s) g.lane ≠ []
        rwa [wait]
      rw [if_pos ⟨isAdded, head⟩, settleLane_pokeLane_of_single order', if_neg waits]
      rfl
    · have notDrained : ((imageExpired g r s).lane g.lane).drained = false :=
        drained_of_settleOrder (by rw [order']; exact List.cons_ne_nil _ _)
      rw [if_neg fun both => notAdded both.1,
        settleLane_of_cursorStays (.inl (by rwa [wait])) notDrained, interior_kickPorts]
      rfl

end Sys2Proof.Machine
end

section
/-!
PROOF. Jams (R41, R53, R59, R76): the lane that a cause jams, its gate holder, and the settlement that follows.
-/

namespace Sys2Proof.Machine

/-! ### What a jam does before the settlement cursor is examined (R41) -/

/-- The state of a lane that has just entered JAMMED. -/
def jamEntered (l : Fin 8) (why : JamReason) (s : State) : State :=
  (jamHolder l (freePicking l (raise (.lane l .jam) (s.modLane l (Lane.jamLines why))))).modLane l Lane.jamPath

theorem jam_of_attributing {l : Fin 8} {s : State} (why : JamReason) (h : (s.lane l).state.attributing = true) :
    jam l why s = pokeLane l (jamEntered l why s) := by
  unfold jam
  rw [if_pos h]
  rfl

/-- A lane whose picking sheet has been freed (R41). -/
def Lane.pickFreed (x : Lane) : Lane :=
  { x with picking := none, pickWindow := if x.picking.isSome then none else x.pickWindow }

/-- The record of a gate holder marked by a jam (R41). -/
def Sheet.jamMarked (q : Sheet) : Sheet :=
  if q.state.unsettled then { q with findings := { q.findings with jam := true } } else q

theorem Sheet.tag_jamMarked (q : Sheet) : q.jamMarked.tag = q.tag := by
  unfold Sheet.jamMarked
  split <;> rfl

section
variable (l : Fin 8) (s : State)

theorem parts_freeRecord (g : Tag) : onlySettles s (freeRecord g s) ∧ (freeRecord g s).lanes = s.lanes ∧
    (freeRecord g s).flags = s.flags ∧ (freeRecord g s).batches = s.batches := by
  unfold freeRecord
  split <;> exact ⟨rfl, rfl, rfl, rfl⟩

theorem onlySettles_freePicking : onlySettles s (freePicking l s) := by
  unfold freePicking
  split
  · rfl
  · exact (parts_freeRecord s _).1.trans rfl

theorem lane_freePicking : (freePicking l s).lane l = (s.lane l).pickFreed := by
  unfold freePicking Lane.pickFreed
  split
  next empty => rw [empty, Option.isSome_none, if_neg Bool.false_ne_true, ← empty]
  next g picking =>
    rw [State.lane_modLane_same, State.lane_eq_of_lanes (parts_freeRecord s g).2.1 l, picking]
    rfl

theorem lane_freePicking_other {k : Fin 8} (h : k ≠ l) : (freePicking l s).lane k = s.lane k := by
  unfold freePicking
  split
  · rfl
  · rw [State.lane_modLane_other _ _ h, State.lane_eq_of_lanes (parts_freeRecord s _).2.1 k]

theorem flags_freePicking : (freePicking l s).flags = s.flags := by
  unfold freePicking
  split
  · rfl
  · exact (parts_freeRecord s _).2.2.1

theorem batches_freePicking : (freePicking l s).batches = s.batches := by
  unfold freePicking
  split
  · rfl
  · exact (parts_freeRecord s _).2.2.2

theorem sheet?_freePicking (u : Tag) :
    (freePicking l s).sheet? u = if (s.lane l).picking = some u then none else s.sheet? u := by
  unfold freePicking
  split
  next empty => rw [empty, if_neg (Option.some_ne_none u).symm]
  next g picking =>
    rw [picking, State.sheet?_modLane, sheet?_freeRecord]
    simp only [Option.some.injEq, eq_comm]

theorem freePicking_of_none (h : (s.lane l).picking = none) : freePicking l s = s := by
  simp only [freePicking, h]

theorem jamHolder_eq (g : Tag) (h : (s.lane l).gateHolder = some g) : jamHolder l s = s.modSheet g Sheet.jamMarked := by
  simp only [jamHolder, h]
  rfl

theorem jamHolder_of_none (h : (s.lane l).gateHolder = none) : jamHolder l s = s := by
  simp only [jamHolder, h]

/-- A jam's holder changes sheets alone. -/
theorem parts_jamHolder : jamHolder l s = { s with sheets := (jamHolder l s).sheets } := by
  unfold jamHolder
  split <;> rfl

theorem sheet?_jamHolder (u : Tag) :
    (jamHolder l s).sheet? u =
      if (s.lane l).gateHolder = some u then (s.sheet? u).map Sheet.jamMarked else s.sheet? u := by
  cases gate : (s.lane l).gateHolder with
  | none => rw [jamHolder_of_none l s gate, if_neg (Option.some_ne_none u).symm]
  | some g =>
    rw [jamHolder_eq l s g gate]
    by_cases same : u = g
    · rw [same, if_pos rfl, State.sheet?_modSheet_same _ _ _ Sheet.tag_jamMarked]
    · rw [if_neg fun e => same (Option.some.inj e).symm, State.sheet?_modSheet_other _ _ Sheet.tag_jamMarked same]

end

section
variable (l : Fin 8) (why : JamReason) (s : State)

/-- The state of the jam with its lines forced and its flag raised. -/
theorem interior_jamRaised : (raise (.lane l .jam) (s.modLane l (Lane.jamLines why))).interior =
    ((s.modLane l (Lane.jamLines why)).setFlag (.lane l .jam) true).interior :=
  interior_raise _ _

theorem lane_jamRaised : (raise (.lane l .jam) (s.modLane l (Lane.jamLines why))).lane l = (s.lane l).jamLines why := by
  rw [lane_of_interior (interior_jamRaised l why s) l, State.lane_setFlag, State.lane_modLane_same]

theorem sheet?_jamRaised (u : Tag) :
    (raise (.lane l .jam) (s.modLane l (Lane.jamLines why))).sheet? u = s.sheet? u :=
  sheet?_of_interior (interior_jamRaised l why s) u

theorem onlySettles_jamEntered : onlySettles s (jamEntered l why s) := by
  have forced : onlySettles s (s.modLane l (Lane.jamLines why)) := rfl
  have freed := (forced.trans (onlySettles_raise (.lane l .jam) _)).trans (onlySettles_freePicking l _)
  have marked : onlySettles (freePicking l (raise (.lane l .jam) (s.modLane l (Lane.jamLines why))))
      (jamHolder l (freePicking l (raise (.lane l .jam) (s.modLane l (Lane.jamLines why))))) := by
    rw [parts_jamHolder]
    rfl
  exact (freed.trans marked).trans rfl

theorem lane_jamEntered : (jamEntered l why s).lane l = ((s.lane l).jamLines why).pickFreed.jamPath := by
  unfold jamEntered
  rw [State.lane_modLane_same, parts_jamHolder]
  exact congrArg Lane.jamPath ((lane_freePicking l _).trans (congrArg Lane.pickFreed (lane_jamRaised l why s)))

theorem lane_jamEntered_other {k : Fin 8} (h : k ≠ l) : (jamEntered l why s).lane k = s.lane k := by
  unfold jamEntered
  rw [State.lane_modLane_other _ _ h, parts_jamHolder]
  refine (lane_freePicking_other l _ h).trans ?_
  rw [lane_of_interior (interior_jamRaised l why s) k, State.lane_setFlag, State.lane_modLane_other _ _ h]

theorem flag_jamEntered : (jamEntered l why s).flag (.lane l .jam) = true := by
  have raised := flag_raise_same (s.modLane l (Lane.jamLines why)) (f := .lane l .jam) Flag.noConfusion
  unfold jamEntered
  rw [parts_jamHolder]
  show (freePicking l (raise (.lane l .jam) (s.modLane l (Lane.jamLines why)))).flag _ = true
  simpa only [State.flag, flags_freePicking] using raised

theorem batches_jamEntered : (jamEntered l why s).batches = s.batches := by
  unfold jamEntered
  rw [parts_jamHolder]
  exact (batches_freePicking l _).trans (raise_batches _ _)

theorem free_jamEntered (h : (s.lane l).picking = none) : (jamEntered l why s).free = s.free := by
  have empty : ((raise (.lane l .jam) (s.modLane l (Lane.jamLines why))).lane l).picking = none := by
    rw [lane_jamRaised]
    exact h
  unfold jamEntered
  rw [parts_jamHolder, freePicking_of_none l _ empty]
  change (raise (.lane l .jam) (s.modLane l (Lane.jamLines why))).free = s.free
  exact (eq_of_interior (fun u => u.free) (fun _ => rfl) (interior_jamRaised l why s)).trans rfl

/-- R41: the picking sheet is freed, a live unsettled gate holder gets finding JAM. -/
theorem sheet?_jamEntered (u : Tag) : (jamEntered l why s).sheet? u =
    if (s.lane l).picking = some u then none
    else if (s.lane l).gateHolder = some u then (s.sheet? u).map Sheet.jamMarked else s.sheet? u := by
  have gate : ((freePicking l (raise (.lane l .jam) (s.modLane l (Lane.jamLines why)))).lane l).gateHolder =
      (s.lane l).gateHolder := by
    rw [lane_freePicking, lane_jamRaised]
    rfl
  have picking : ((raise (.lane l .jam) (s.modLane l (Lane.jamLines why))).lane l).picking = (s.lane l).picking := by
    rw [lane_jamRaised]
    rfl
  unfold jamEntered
  rw [State.sheet?_modLane, sheet?_jamHolder, gate, sheet?_freePicking, picking, sheet?_jamRaised]
  split
  · split <;> rfl
  · rfl

end

/-! ### The settlement that follows from a jam (R105, R111) -/

/-- What the settlements that follow from a jam keep of the jammed state `j`. -/
structure JamSettles (l : Fin 8) (j t : State) : Prop where
  parts : onlySettles j t
  lane : (j.lane l).SettledTo (t.lane l)
  lanes : ∀ k, k ≠ l → t.lane k = j.lane k
  flags : ∀ f, f ≠ noticeLostFlag → j.flag f = true → t.flag f = true
  absent : ∀ u, j.sheet? u = none → t.sheet? u = none
  jammed : ∀ u r, j.sheet? u = some r → r.findings.jam = true → t.sheet? u = none ∨ t.sheet? u = some r

theorem JamSettles.refl (l : Fin 8) (j : State) : JamSettles l j j :=
  ⟨rfl, .refl _, fun _ _ => rfl, fun _ _ => id, fun _ => id, fun _ _ found _ => .inr found⟩

theorem lane_freedOf (r : Sheet) (s : State) (k : Fin 8) : (freedOf r s).lane k = s.lane k := rfl

theorem sheet?_settleCursor_of_jam {s : State} {g : Tag} {r : Sheet} (l : Fin 8) (found : s.sheet? g = some r)
    (jam : r.findings.jam = true) : (settleCursor l g s).sheet? g = none := by
  rw [settleCursor_discards l found (.inl jam), State.sheet?_modBatch, dropped, State.sheet?_modLane, freedOf_sheet?,
    State.tag_of_sheet? found, if_pos rfl]

theorem JamSettles.settleCursor {l : Fin 8} {j s : State} {g : Tag} (inJam : (j.lane l).state = .jammed)
    (h : JamSettles l j s) : JamSettles l j (settleCursor l g s) := by
  have frame := settleFrame_settleCursor l g s
  have still : (s.lane l).state = .jammed := h.lane.state.trans inJam
  refine ⟨h.parts.trans frame.parts, h.lane.trans (frame.jammed still), fun k hk => (frame.lanes k hk).trans (h.lanes k hk),
    fun f hf set => frame.flags f hf (h.flags f hf set), fun u gone => ?_, fun u r found jam => ?_⟩
  · by_cases same : u = g
    · rw [same] at gone ⊢
      exact frame.absent (h.absent g gone)
    · rw [frame.sheets u same]
      exact h.absent u gone
  · by_cases same : u = g
    · rw [same] at found ⊢
      rcases h.jammed g r found jam with gone | live
      · exact .inl (frame.absent gone)
      · exact .inl (sheet?_settleCursor_of_jam l live jam)
    · rw [frame.sheets u same]
      exact h.jammed u r found jam

theorem jamSettles_poke {l : Fin 8} {j : State} (inJam : (j.lane l).state = .jammed) : JamSettles l j (poke l j) :=
  settleLoop_keeps (JamSettles l j) (fun _ _ kept _ => kept.settleCursor inJam) _ (.refl l j)

theorem pokeLane_of_jammed {l : Fin 8} {j : State} (inJam : (j.lane l).state = .jammed) : pokeLane l j = poke l j := by
  have still : ((poke l j).lane l).state = .jammed := (jamSettles_poke inJam).lane.state.trans inJam
  exact drainTest_of_not_drained (drained_of_state_ne (by rw [still]; exact LaneState.noConfusion))

/-- R106: a cursor that waits for its images or measurement is not settled by a retry either. -/
theorem poke_of_cursorWaits {s : State} {l : Fin 8} (h : cursorWaits s l) : poke l s = s := by
  have idle : cursorWait s l = [] := by
    rcases h with empty | ⟨u, rest, q, order, found, wait, -⟩
    · simp only [cursorWait, empty]
    · rw [cursorWait_of_head order found, wait]
  have examined := examine_of_cursorWaits h
  rwa [examine, if_pos idle] at examined

theorem interior_of_onlySettles {s t u : State} (parts : onlySettles s u) (left : t.interior = u.interior) :
    t.interior = ({ s with
      lanes := t.lanes, sheets := t.sheets, batches := t.batches, dests := t.dests, held := t.held, flags := t.flags,
      free := t.free, reserved := t.reserved, allocated := t.allocated, directory := t.directory } : State).interior :=
  interior_eq_patched (fun v => { s with
    lanes := v.lanes, sheets := v.sheets, batches := v.batches, dests := v.dests, held := v.held, flags := v.flags
    notices := v.notices, pendingLost := v.pendingLost, lostCount := v.lostCount, free := v.free
    reserved := v.reserved, allocated := v.allocated, directory := v.directory })
    (fun v => by simp [State.interior]) left parts

/-! ### The causes (R59) -/

/-- What an event that jams a lane has changed of it before the jam: a sensed line, a capture, the deadline that expired. -/
structure Lane.CausesJam (x y : Lane) : Prop where
  frame : y = { x with
    lines := y.lines, lastLead := y.lastLead, lastExitLead := y.lastExitLead, gateLimit := y.gateLimit, path := y.path }
  path : y.path.map (fun e => { e with exitWindow := none }) = x.path.map (fun e => { e with exitWindow := none })

section
variable {s : State} {l : Fin 8}

theorem exec_gateLimitExpiry_jams (limit : (s.lane l).gateLimit = some (s.lane l).counter) :
    exec (.gateLimitExpiry l) s = .next (kickPorts (jam l .gate (s.modLane l (fun x => { x with gateLimit := none })))) := by
  change execGateLimitExpiry l s = _
  unfold execGateLimitExpiry
  rw [if_pos (by simp [due, limit])]

theorem exec_exitWindowExpiry_jams (window : ∃ e ∈ (s.lane l).path, e.exitWindow = some (s.lane l).counter) :
    exec (.exitWindowExpiry l) s = .next (kickPorts (jam l .exit (s.modLane l (fun x => { x with
      path := x.path.map (fun e => if due x.counter e.exitWindow then { e with exitWindow := none } else e) })))) := by
  obtain ⟨e, he, isDue⟩ := window
  change execExitWindowExpiry l s = _
  unfold execExitWindowExpiry
  rw [if_pos (List.any_eq_true.mpr ⟨e, he, by simp [due, isDue]⟩)]

theorem exec_coverActive_jams {n : Fin 8} (attributing : (s.lane l).state.attributing = true)
    (hn : (s.lane l).lineWith .cover = some n) (ha : ((s.lane l).line n).isActive = false) :
    exec (.coverActive l) s = .next (kickPorts (jam l .interlock (s.modLane l (fun x =>
      x.setLine n { x.line n with sensed := (x.line n).activeLevel })))) := by
  change execCoverActive l s = _
  unfold execCoverActive
  rw [Lane.edgeTo_active hn ha]
  dsimp only
  have opened : ∀ u : State, (u.lane l).state.attributing = true → coverOpened l u = jam l .interlock u := by
    intro u hu
    unfold coverOpened
    cases state : (u.lane l).state <;> simp_all [LaneState.attributing]
  have still : ((s.setLane l ((s.lane l).setLine n { (s.lane l).line n with sensed := ((s.lane l).line n).activeLevel })).lane
      l).state = (s.lane l).state := by
    rw [State.lane_setLane_same]
    rfl
  rw [opened _ (by rw [still]; exact attributing)]
  rfl

theorem exec_lead_jams {n : Fin 8} (attributing : (s.lane l).state.attributing = true)
    (hn : (s.lane l).lineWith .entry = some n) (ha : ((s.lane l).line n).isActive = false)
    (stray : 128 ≤ (s.lane l).path.length ∨ (s.lane l).picking = none ∧ s.activeBatch l = none) :
    exec (.lead l) s = .next (kickPorts (jam l .stray (s.modLane l (Lane.leadSensed n)))) := by
  have lane : (s.modLane l (Lane.leadSensed n)).lane l = (s.lane l).leadSensed n := State.lane_modLane_same _ _ _
  rw [exec_lead hn ha, if_pos attributing]
  unfold attributeLead
  simp only [lane]
  split
  case isTrue => rfl
  case isFalse room =>
    obtain ⟨picking, active⟩ := stray.resolve_left room
    have idle : ((s.lane l).leadSensed n).picking = none := picking
    have noBatch : (s.modLane l (Lane.leadSensed n)).activeBatch l = none := by
      rw [← active]
      exact activeBatch_of_parts (by rw [lane]; rfl) rfl
    simp only [idle, unexpectedLead, noBatch]

theorem exec_exitLead_jams {n : Fin 8} (attributing : (s.lane l).state.attributing = true)
    (hn : (s.lane l).lineWith .exit = some n) (ha : ((s.lane l).line n).isActive = false)
    (stray : ∀ e ∈ (s.lane l).path, e.exited = true) :
    exec (.exitLead l) s = .next (kickPorts (jam l .stray (s.modLane l (Lane.exitLeadSensed n)))) := by
  have lane : (s.modLane l (Lane.exitLeadSensed n)).lane l = (s.lane l).exitLeadSensed n := State.lane_modLane_same _ _ _
  have gone : ((s.lane l).exitLeadSensed n).path.find? (fun e => !e.exited) = none :=
    List.find?_eq_none.mpr fun e he => by simp [stray e he]
  rw [exec_exitLead hn ha, if_pos attributing]
  unfold attributeExitLead
  simp only [lane, gone]

/-- R59: each cause jams the lane with its reason. -/
theorem exec_of_jamCause {c : Instr} {why : JamReason} (attributing : (s.lane l).state.attributing = true)
    (cause : (c = .gateLimitExpiry l ∧ why = .gate ∧ (s.lane l).gateLimit = some (s.lane l).counter) ∨
      (c = .exitWindowExpiry l ∧ why = .exit ∧ ∃ e ∈ (s.lane l).path, e.exitWindow = some (s.lane l).counter) ∨
      (c = .coverActive l ∧ why = .interlock ∧ ∃ n, (s.lane l).lineWith .cover = some n ∧
        ((s.lane l).line n).isActive = false) ∨
      (c = .lead l ∧ why = .stray ∧ (∃ n, (s.lane l).lineWith .entry = some n ∧ ((s.lane l).line n).isActive = false) ∧
        (128 ≤ (s.lane l).path.length ∨ ((s.lane l).picking = none ∧ s.activeBatch l = none))) ∨
      (c = .exitLead l ∧ why = .stray ∧ (∃ n, (s.lane l).lineWith .exit = some n ∧ ((s.lane l).line n).isActive = false) ∧
        ∀ e ∈ (s.lane l).path, e.exited = true)) :
    ∃ f : Lane → Lane, (s.lane l).CausesJam (f (s.lane l)) ∧ exec c s = .next (kickPorts (jam l why (s.modLane l f))) := by
  rcases cause with ⟨rfl, rfl, limit⟩ | ⟨rfl, rfl, window⟩ | ⟨rfl, rfl, n, hn, ha⟩ | ⟨rfl, rfl, ⟨n, hn, ha⟩, stray⟩ |
    ⟨rfl, rfl, ⟨n, hn, ha⟩, stray⟩
  · exact ⟨_, ⟨rfl, rfl⟩, exec_gateLimitExpiry_jams limit⟩
  · refine ⟨_, ⟨rfl, ?_⟩, exec_exitWindowExpiry_jams window⟩
    rw [List.map_map]
    exact List.map_congr_left fun e _ => by dsimp only [Function.comp]; split <;> rfl
  · exact ⟨_, ⟨rfl, rfl⟩, exec_coverActive_jams attributing hn ha⟩
  · exact ⟨_, ⟨rfl, rfl⟩, exec_lead_jams attributing hn ha stray⟩
  · exact ⟨_, ⟨rfl, rfl⟩, exec_exitLead_jams attributing hn ha stray⟩

end

/-! ### The jammed lane and its gate holder -/

/-- Lane `x` in JAMMED, with what the jam's cause had changed of it taken from `y` (R41). -/
def Lane.jammedAs (why : JamReason) (x y : Lane) : Lane :=
  { x.jamLines why with
    lines := y.lines, lastLead := y.lastLead, lastExitLead := y.lastExitLead
    picking := none, pickWindow := if x.picking.isSome then none else x.pickWindow
    sampleDue := none, gateLimit := none, nextPick := .none
    acc := if x.gateHolder.isSome then .empty else x.acc
    gateHolder := none, exitHolder := none
    path := x.path.map (fun e => { e with exitWindow := none }) }

section
variable {s : State} {l : Fin 8} {f : Lane → Lane} (why : JamReason) (causes : (s.lane l).CausesJam (f (s.lane l)))
include causes

/-- R41: the lane as the jam leaves it, but for the settlements that follow. -/
theorem lane_jamEntered_of_causes :
    (jamEntered l why (s.modLane l f)).lane l = (s.lane l).jammedAs why (f (s.lane l)) := by
  unfold Lane.jammedAs
  rw [lane_jamEntered, State.lane_modLane_same, causes.frame, ← causes.path]
  rfl

theorem sheet?_jamEntered_of_causes (u : Tag) : (jamEntered l why (s.modLane l f)).sheet? u =
    if (s.lane l).picking = some u then none
    else if (s.lane l).gateHolder = some u then (s.sheet? u).map Sheet.jamMarked else s.sheet? u := by
  rw [sheet?_jamEntered, State.lane_modLane_same, causes.frame]
  rfl

/-- R41: a live unsettled gate holder has finding JAM. -/
theorem holder_jamEntered {g : Tag} {r : Sheet} (gate : (s.lane l).gateHolder = some g) (found : s.sheet? g = some r)
    (unsettled : r.state.unsettled = true) (notPicking : (s.lane l).picking ≠ some g) :
    (jamEntered l why (s.modLane l f)).sheet? g = some { r with findings := { r.findings with jam := true } } := by
  rw [sheet?_jamEntered_of_causes why causes, if_neg notPicking, if_pos gate, found, Option.map_some, Sheet.jamMarked,
    if_pos unsettled]

/-- R111: a jammed gate holder alone in the settlement order is DISCARDED with the jam. -/
theorem poke_jamEntered_of_holder {g : Tag} {r : Sheet} (order : (s.lane l).settleOrder = [g])
    (holder : (jamEntered l why (s.modLane l f)).sheet? g =
      some { r with findings := { r.findings with jam := true } }) :
    poke l (jamEntered l why (s.modLane l f)) =
      (dropped l { r with findings := { r.findings with jam := true } } (jamEntered l why (s.modLane l f))).modBatch
        r.batch (fun b => { b with settled := min (b.settled + 1) 65535, discarded := min (b.discarded + 1) 65535 }) := by
  have alone : ((jamEntered l why (s.modLane l f)).lane l).settleOrder = [g] := by
    rw [lane_jamEntered_of_causes why causes]
    exact order
  have ready : cursorReady (jamEntered l why (s.modLane l f)) g = true := by simp [cursorReady, holder, sheetReady]
  rw [poke_of_single alone, if_pos ready, settleCursor_discards l holder (.inl rfl)]

/-- R109, R111: what is left of a jammed gate holder alone in the settlement order. -/
theorem holder_settles {g : Tag} {r : Sheet} {t : State}
    (left : t.interior = (poke l (jamEntered l why (s.modLane l f))).interior) (order : (s.lane l).settleOrder = [g])
    (found : s.sheet? g = some r)
    (holder : (jamEntered l why (s.modLane l f)).sheet? g =
      some { r with findings := { r.findings with jam := true } }) :
    t.sheet? g = none ∧ (t.lane l).settleOrder = [] ∧ (t.lane l).drainCause = (s.lane l).drainCause ∧
      t.batch? r.batch = (s.batch? r.batch).map (fun b => { b with
        settled := min (b.settled + 1) 65535, discarded := min (b.discarded + 1) 65535 }) ∧
      (t.lane l).toHead = (s.lane l).toHead ++
        (if (s.lane l).linkUp = true ∧ imagesComplete s r = false then [withdrawFrame g] else []) ∧
      ((s.lane l).picking = none → t.free = s.free + (r.front ++ r.back).length + r.reserve) := by
  have tag : r.tag = g := State.tag_of_sheet? found
  have entered := lane_jamEntered_of_causes why causes
  have batches : (jamEntered l why (s.modLane l f)).batches = s.batches := batches_jamEntered l why _
  have complete : imagesComplete (jamEntered l why (s.modLane l f)) { r with findings := { r.findings with jam := true } } =
      imagesComplete s r := by
    unfold imagesComplete State.batchOf State.batch?
    rw [batches]
  rw [poke_jamEntered_of_holder why causes order holder] at left
  have lane := lane_of_interior left l
  rw [State.lane_modBatch, dropped, State.lane_modLane_same, lane_freedOf, entered, complete] at lane
  refine ⟨?_, ?_, ?_, ?_, ?_, fun empty => ?_⟩
  · rw [sheet?_of_interior left, State.sheet?_modBatch, dropped, State.sheet?_modLane, freedOf_sheet?, if_pos tag.symm]
  · rw [lane]
    change (s.lane l).settleOrder.erase r.tag = []
    rw [order, tag, List.erase_cons_head]
  · rw [lane]
    rfl
  · rw [batch?_of_interior left, State.batch?_modBatch_same _ _ _ (fun _ => by rfl)]
    unfold State.batch?
    rw [← batches]
    rfl
  · rw [lane, ← tag]
    change (if (s.lane l).linkUp = true ∧ imagesComplete s r = false then (s.lane l).toHead ++ [withdrawFrame r.tag]
      else (s.lane l).toHead) = _
    split
    · rfl
    · exact (List.append_nil _).symm
  · have free := free_jamEntered l why (s.modLane l f) (by rw [State.lane_modLane_same, causes.frame]; exact empty)
    rw [eq_of_interior (fun u => u.free) (fun _ => rfl) left]
    exact congrArg (· + (r.front ++ r.back).length + r.reserve) free

/-- R105, R106: a waiting cursor, at neither the picking sheet nor the gate holder, stays through the jam. -/
theorem poke_jamEntered_of_waits (waits : cursorWaits s l)
    (picking : ∀ p, (s.lane l).picking = some p → (s.lane l).settleOrder.head? ≠ some p)
    (gate : ∀ g, (s.lane l).gateHolder = some g → (s.lane l).settleOrder.head? ≠ some g) :
    poke l (jamEntered l why (s.modLane l f)) = jamEntered l why (s.modLane l f) := by
  have order : ((jamEntered l why (s.modLane l f)).lane l).settleOrder = (s.lane l).settleOrder := by
    rw [lane_jamEntered_of_causes why causes]
    rfl
  have batches : (jamEntered l why (s.modLane l f)).batches = s.batches := batches_jamEntered l why _
  refine poke_of_cursorWaits ?_
  rcases waits with empty | ⟨u, rest, q, head, found, wait, ready, jam, aborting, divert, complete, timeout⟩
  · exact .inl (order.trans empty)
  · have first : (s.lane l).settleOrder.head? = some u := by rw [head]; rfl
    have still : (jamEntered l why (s.modLane l f)).sheet? u = some q := by
      rw [sheet?_jamEntered_of_causes why causes, if_neg fun e => picking u e first, if_neg fun e => gate u e first, found]
    refine .inr ⟨u, rest, q, order.trans head, still, wait, ready, jam, ?_, divert, ?_, timeout⟩
    · unfold batchAborting State.batchOf State.batch?
      rw [batches]
      exact aborting
    · unfold imagesComplete State.batchOf State.batch?
      rw [batches]
      exact complete

end

/-- Settles O49: each cause jams the lane, and what settles after it keeps the jam. -/
theorem jamCausesJamLane : Obligations.JamCausesJamLane := by
  unfold Obligations.JamCausesJamLane
  intro s l c why attributing cause
  obtain ⟨f, causes, run⟩ := exec_of_jamCause attributing cause
  have entered := lane_jamEntered_of_causes why causes
  have jams : ((s.modLane l f).lane l).state.attributing = true := by
    rw [State.lane_modLane_same, causes.frame]
    exact attributing
  have inJam : ((jamEntered l why (s.modLane l f)).lane l).state = .jammed := by rw [entered]; rfl
  have settles := jamSettles_poke inJam
  rw [jam_of_attributing why jams, pokeLane_of_jammed inJam] at run
  generalize ht : kickPorts (poke l (jamEntered l why (s.modLane l f))) = t at run
  have left : t.interior = (poke l (jamEntered l why (s.modLane l f))).interior := by rw [← ht, interior_kickPorts]
  have lane := (lane_of_interior left l).trans settles.lane.frame
  have order : ((jamEntered l why (s.modLane l f)).lane l).settleOrder = (s.lane l).settleOrder := by rw [entered]; rfl
  have drain : ((jamEntered l why (s.modLane l f)).lane l).drainCause = (s.lane l).drainCause := by rw [entered]; rfl
  obtain ⟨sample, acc⟩ := settles.lane.gate (by rw [entered]; rfl)
  rw [entered] at lane sample acc
  have accOf : (t.lane l).acc = if (s.lane l).gateHolder.isSome then .empty else (s.lane l).acc :=
    (congrArg Lane.acc (lane_of_interior left l)).trans acc
  refine ⟨t, run, ?_, congrArg Lane.state lane, congrArg Lane.jamReason lane, congrArg Lane.haltReason lane,
    congrArg Lane.spinTarget lane, congrArg Lane.spinRemaining lane, congrArg Lane.pickDriven lane,
    congrArg Lane.divertDriven lane, congrArg Lane.pickPulseEnd lane, congrArg Lane.divertEnd lane,
    congrArg Lane.picking lane, congrArg Lane.gateHolder lane, congrArg Lane.exitHolder lane,
    (congrArg Lane.sampleDue lane).trans sample, congrArg Lane.gateLimit lane, congrArg Lane.nextPick lane, congrArg Lane.path lane,
    (congrArg Lane.batchQueue lane).trans rfl, (congrArg Lane.counter lane).trans rfl, fun g picking => ?_, fun noHolder => ?_, fun holder => ?_, ?_,
    fun g gate r found unsettled notPicking => ?_, fun k hk => ?_, ?_⟩
  · rw [flag_of_interior left (f := .lane l .jam) Flag.noConfusion]
    exact settles.flags _ Flag.noConfusion (flag_jamEntered l why _)
  · have gone := settles.absent g (by rw [sheet?_jamEntered_of_causes why causes, if_pos picking])
    exact (sheet?_of_interior left g).trans gone
  · rw [accOf, noHolder]
    rfl
  · rw [accOf, if_pos (Option.isSome_iff_ne_none.mpr holder)]
    exact ⟨rfl, rfl, rfl, rfl, rfl, rfl, rfl⟩
  · rw [lane_of_interior left l]
    by_cases empty : (s.lane l).settleOrder = []
    · rw [poke_of_empty (order.trans empty)]
      exact .inl drain
    · exact settles.lane.cause.imp (fun same => same.trans drain) (fun ended => ⟨empty, ended⟩)
  · have holder := holder_jamEntered why causes gate found unsettled notPicking
    refine ⟨?_, fun alone => ?_, fun waits behind free => ?_⟩
    · rw [sheet?_of_interior left]
      exact settles.jammed g _ holder rfl
    · exact holder_settles why causes left alone found holder
    · have stays := poke_jamEntered_of_waits why causes waits free fun u hu => by
        rwa [Option.some.inj (hu.symm.trans gate)]
      rw [stays] at left
      exact ⟨(sheet?_of_interior left g).trans holder, (congrArg Lane.settleOrder (lane_of_interior left l)).trans order,
        (congrArg Lane.drainCause (lane_of_interior left l)).trans drain⟩
  · rw [lane_of_interior left k, settles.lanes k hk, lane_jamEntered_other _ _ _ hk, State.lane_modLane_other _ _ hk]
  · have parts : onlySettles s (poke l (jamEntered l why (s.modLane l f))) :=
      onlySettles.trans (t := s.modLane l f) rfl ((onlySettles_jamEntered l why _).trans settles.parts)
    exact interior_of_onlySettles parts left

end Sys2Proof.Machine
end

section
/-!
PROOF. RESTART (R87, R193): the WITHDRAW frames, the flags it clears, the BUSY replies, and the ports, which have nothing but
replies to send after it.
-/

namespace Sys2Proof.Machine

/-! ### Ports with nothing but replies to send (R171, R172) -/

/-- `t` is `s` but for waiting replies and frames begun on idle ports. -/
def onlyReplies (s t : State) : Prop :=
  t = { s with
    portA := { s.portA with replies := t.portA.replies, tx := t.portA.tx }
    portB := { s.portB with replies := t.portB.replies, tx := t.portB.tx } } ∧
  ∀ p f, (s.port p).tx = some f → (t.port p).tx = some f

theorem onlyReplies.refl (s : State) : onlyReplies s s := ⟨rfl, fun _ _ => id⟩

theorem onlyReplies.trans {s t u : State} (h : onlyReplies s t) (k : onlyReplies t u) : onlyReplies s u := by
  refine ⟨?_, fun p f hf => k.2 p f (h.2 p f hf)⟩
  have parts := k.1
  rw [h.1] at parts
  exact parts

theorem onlyReplies_modPort (s : State) (p : Port) {f : PortState → PortState}
    (hf : ∀ q, f q = { q with replies := (f q).replies, tx := (f q).tx })
    (busy : ∀ fr, (s.port p).tx = some fr → (f (s.port p)).tx = some fr) : onlyReplies s (s.modPort p f) := by
  constructor
  · cases p with
    | a => exact congrArg (fun q => { s with portA := q }) (hf s.portA)
    | b => exact congrArg (fun q => { s with portB := q }) (hf s.portB)
  · intro q fr hq
    by_cases same : q = p
    · subst same
      rw [State.port_modPort_same]
      exact busy fr hq
    · rwa [State.port_modPort_other _ _ same]

/-- A read of other parts than the ports is the same in both states. -/
theorem onlyReplies.read {α : Type} {s t : State} (h : onlyReplies s t) (part : State → α)
    (hp : ∀ u a b, part { u with portA := a, portB := b } = part u) : part t = part s := by
  rw [h.1, hp]

theorem onlyReplies.port {s t : State} (h : onlyReplies s t) (p : Port) :
    t.port p = { s.port p with replies := (t.port p).replies, tx := (t.port p).tx } := by
  cases p with
  | a => exact congrArg State.portA h.1
  | b => exact congrArg State.portB h.1

/-- A state whose ports have no notice and no delivery to send. -/
structure Quiet (s : State) : Prop where
  notices : s.notices = []
  queues : ∀ d, (s.dest d).queue = []
  current : ∀ p, (s.port p).current = none
  suspended : ∀ p, (s.port p).suspended = none

theorem Quiet.of_onlyReplies {s t : State} (h : Quiet s) (k : onlyReplies s t) : Quiet t := by
  refine ⟨?_, fun d => ?_, fun p => ?_, fun p => ?_⟩
  · rw [k.1]
    exact h.notices
  · rw [k.1]
    exact h.queues d
  · rw [k.port p]
    exact h.current p
  · rw [k.port p]
    exact h.suspended p

theorem roundRobin_of_quiet {s : State} (h : Quiet s) (p : Port) (level : Fin 4) : roundRobin s p level = none := by
  refine List.find?_eq_none.mpr fun d _ => ?_
  simp [participant, h.queues d]

/-- R172: with no notice and no delivery, a boundary begins at most the port's oldest reply. -/
theorem onlyReplies_boundary {s : State} (h : Quiet s) (p : Port) : onlyReplies s (boundary p s) := by
  unfold boundary
  dsimp only
  split
  case isTrue idle =>
    have noFrame : (s.port p).tx = none := by simpa using (Bool.and_eq_true_iff.mp idle).2
    split
    next r rest _ =>
      exact onlyReplies_modPort s p (fun _ => rfl) (fun fr hf => absurd (noFrame.symm.trans hf) (by simp))
    next =>
      rw [h.notices]
      have chosen : chooseDelivery p s = s := by
        unfold chooseDelivery
        simp only [h.current, h.suspended, roundRobin_of_quiet h]
      simp only [List.find?_nil, chosen]
      exact .refl s
  case isFalse => exact .refl s

theorem onlyReplies_kickPorts {s : State} (h : Quiet s) : onlyReplies s (kickPorts s) := by
  have first := onlyReplies_boundary h .a
  have second := first.trans (onlyReplies_boundary (h.of_onlyReplies first) .b)
  exact second.trans (onlyReplies_boundary (h.of_onlyReplies second) .a)

/-! ### WITHDRAW frames (R87) -/

/-- A lane with frames handed to its link (R85). -/
def Lane.sent (frames : List (List Byte)) (x : Lane) : Lane :=
  { x with toHead := if x.linkUp then x.toHead ++ frames else x.toHead }

theorem foldl_sendHead (l : Fin 8) (gs : List Tag) (s : State) :
    gs.foldl (fun acc g => sendHead l (withdrawFrame g) acc) s = s.modLane l (Lane.sent (gs.map withdrawFrame)) := by
  induction gs generalizing s with
  | nil =>
    refine (State.modLane_id s l).symm.trans (State.modLane_congr s l ?_)
    unfold Lane.sent
    rw [List.map_nil, List.append_nil, ite_self]
  | cons g rest ih =>
    rw [List.foldl_cons, ih, sendHead_eq, State.modLane_modLane]
    refine State.modLane_congr s l ?_
    unfold Lane.sent
    dsimp only [Function.comp]
    split
    · rw [List.append_assoc]
      rfl
    · rfl

theorem sendWithdraws_eq (l : Fin 8) (s : State) :
    sendWithdraws l s = s.modLane l (Lane.sent ((withdrawTags s l).map withdrawFrame)) :=
  foldl_sendHead l _ s

/-- What another lane sends does not matter to the sheets that a lane withdraws. -/
theorem withdrawTags_modLane_other (s : State) {l k : Fin 8} (f : Lane → Lane) (h : k ≠ l) :
    withdrawTags (s.modLane l f) k = withdrawTags s k := by
  unfold withdrawTags
  rw [State.lane_modLane_other _ _ h]
  rfl

theorem parts_foldl_sendWithdraws (ls : List (Fin 8)) (s : State) :
    ls.foldl (fun acc l => sendWithdraws l acc) s =
      { s with lanes := (ls.foldl (fun acc l => sendWithdraws l acc) s).lanes } := by
  induction ls generalizing s with
  | nil => rfl
  | cons l rest ih =>
    rw [List.foldl_cons, ih, sendWithdraws_eq]
    rfl

/-- R87: every lane sends its own WITHDRAW frames. -/
theorem lane_foldl_sendWithdraws (k : Fin 8) {ls : List (Fin 8)} (once : ls.Nodup) (s : State) :
    (ls.foldl (fun acc l => sendWithdraws l acc) s).lane k =
      if k ∈ ls then (s.lane k).sent ((withdrawTags s k).map withdrawFrame) else s.lane k := by
  induction ls generalizing s with
  | nil => rfl
  | cons l rest ih =>
    obtain ⟨notIn, onceRest⟩ := List.nodup_cons.mp once
    rw [List.foldl_cons, ih onceRest, sendWithdraws_eq]
    by_cases same : k = l
    · rw [same, if_neg notIn, if_pos (List.mem_cons_self ..), State.lane_modLane_same]
    · simp only [State.lane_modLane_other _ _ same, withdrawTags_modLane_other s _ same, List.mem_cons, same, false_or]

/-- The state with every lane's WITHDRAW frames sent. -/
@[irreducible] def withdrawn (s : State) : State := allLanes.foldl (fun acc l => sendWithdraws l acc) s

theorem parts_withdrawn (s : State) : withdrawn s = { s with lanes := (withdrawn s).lanes } := by
  unfold withdrawn
  exact parts_foldl_sendWithdraws allLanes s

theorem lane_withdrawn (s : State) (k : Fin 8) :
    (withdrawn s).lane k = (s.lane k).sent ((withdrawTags s k).map withdrawFrame) := by
  unfold withdrawn
  rw [lane_foldl_sendWithdraws k (by decide), if_pos (mem_allLanes k)]

/-- R87: the tags withdrawn are those of the settlement order, and the settled ones in some order. -/
theorem withdrawTags_spec (s : State) (l : Fin 8) :
    ∃ settled : List Tag,
      settled.Perm ((s.sheets.filter (fun r => decide (r.tag.lane = l ∧ r.tag ∉ (s.lane l).settleOrder ∧
        r.lead.isSome = true ∧ imagesComplete s r = false))).map Sheet.tag) ∧
      withdrawTags s l = (s.lane l).settleOrder.filter (fun g => (s.sheet? g).any (fun r =>
        decide (r.lead.isSome = true ∧ imagesComplete s r = false))) ++ settled := by
  have marks : toWithdraw s = fun r => decide (r.lead.isSome = true ∧ imagesComplete s r = false) := by
    funext r
    simp [toWithdraw]
  have settled : s.sheets.filter (fun r =>
      decide (r.tag.lane = l) && decide (r.tag ∉ (s.lane l).settleOrder) && toWithdraw s r) =
        s.sheets.filter (fun r => decide (r.tag.lane = l ∧ r.tag ∉ (s.lane l).settleOrder ∧
          r.lead.isSome = true ∧ imagesComplete s r = false)) :=
    List.filter_congr fun r _ => by simp [marks, Bool.and_assoc]
  refine ⟨_, freeOrder_perm (s.freeIndex + l.val) _, ?_⟩
  unfold withdrawTags
  dsimp only
  rw [settled, marks]

/-! ### The flags (R75, R193) -/

theorem staysSet_spare (s : State) (l : Fin 8) : staysSet s (Flag.lane l .spare).index.val = (s.lane l).holdsSpare := by
  fin_cases l <;> rfl

theorem staysSet_other (s : State) {f : Flag} (h : ∀ l : Fin 8, f ≠ .lane l .spare) : staysSet s f.index.val = false := by
  unfold staysSet
  split
  case isTrue inLanes =>
    cases f with
    | lane l g =>
      have place : (Flag.lane l g).index.val % 10 ≠ 9 := by
        show (10 * l.val + g.toFin.val) % 10 ≠ 9
        cases g with
        | spare => exact absurd rfl (h l)
        | _ => simp only [LaneFlag.toFin]; omega
      rw [decide_eq_false place, Bool.false_and]
    | dest d g => exact absurd inLanes (by simp only [Flag.index]; omega)
    | device g => exact absurd inLanes (by simp only [Flag.index]; omega)
  case isFalse => rfl

/-- R75, R193: of every flag cleared, those stay that a lane's input holds. -/
theorem flag_clearFlags_all (w : State) (f : Flag) :
    (clearFlags (Vector.replicate 115 true) w).flag f = (w.flag f && staysSet w f.index.val) := by
  show (clearedFlags (Vector.replicate 115 true) w)[f.index.val] = _
  simp [clearedFlags, State.flag]

theorem holdsSpare_withdrawn (s : State) (l : Fin 8) : ((withdrawn s).lane l).holdsSpare = (s.lane l).holdsSpare := by
  rw [lane_withdrawn]
  rfl

/-! ### The part after RESTART (R193) -/

/-- The state RESTART leaves of `w`, whose WITHDRAW frames have been sent, with directive queue `ds`, but for replies
(R193). -/
def restarted (k : Nat) (ds : List Directive) (w : State) : State :=
  { clearFlags (Vector.replicate 115 true) w with
    lanes := w.lanes.map Lane.restart
    profiles := w.profiles.map (fun p => { p with working := p.b0 })
    sheets := [], free := 4096, reserved := 0, allocated := 0, directory := [], held := [], batches := [],
    lastReport := none, dests := w.dests.map Dest.restart, portA := w.portA.restart, portB := w.portB.restart,
    dirQueue := ds, notices := [], pendingLost := none, lostCount := 0, freeIndex := k }

theorem restartPart_eq (s : State) :
    restartPart s = restarted ((withdrawn s).freeIndex + 8) (withdrawn s).dirQueue (withdrawn s) := by
  unfold restartPart withdrawn
  generalize allLanes.foldl (fun acc l => sendWithdraws l acc) s = w
  simp only [restarted, clearFlags]

section
variable (k : Nat) (ds : List Directive) (w : State)

theorem lane_restarted (l : Fin 8) : (restarted k ds w).lane l = (w.lane l).restart := by
  simp [restarted, State.lane]

theorem profile_restarted (i : Fin 16) :
    (restarted k ds w).profile i = { w.profile i with working := (w.profile i).b0 } := by
  simp [restarted, State.profile]

theorem dest_restarted (i : Fin 16) : (restarted k ds w).dest i = (w.dest i).restart := by
  simp [restarted, State.dest]

theorem port_restarted (p : Port) : (restarted k ds w).port p = (w.port p).restart := by
  cases p <;> rfl

theorem flag_restarted (f : Flag) : (restarted k ds w).flag f = (w.flag f && staysSet w f.index.val) :=
  flag_clearFlags_all w f

theorem quiet_restarted : Quiet (restarted k ds w) where
  notices := rfl
  queues d := by rw [dest_restarted]; rfl
  current p := by rw [port_restarted]; rfl
  suspended p := by rw [port_restarted]; rfl

end

theorem port_withdrawn (s : State) (p : Port) : (withdrawn s).port p = s.port p := by
  rw [parts_withdrawn]
  cases p <;> rfl

/-! ### The directives still waiting (R193, log 10) -/

theorem onlyReplies_pushReply (p : Port) (r : Reply) (s : State) : onlyReplies s (pushReply p r s) :=
  onlyReplies_modPort s p (fun _ => rfl) (fun _ => id)

theorem onlyReplies_foldl_busy (ds : List Directive) (s : State) :
    onlyReplies s (ds.foldl (fun acc d => pushReply d.port (busyReply d) acc) s) := by
  induction ds generalizing s with
  | nil => exact .refl s
  | cons d rest ih => exact (onlyReplies_pushReply d.port _ s).trans (ih _)

theorem replies_foldl_busy (ds : List Directive) (s : State) (p : Port) :
    ((ds.foldl (fun acc d => pushReply d.port (busyReply d) acc) s).port p).replies =
      (s.port p).replies ++ (ds.filter (fun d => decide (d.port = p))).map busyReply := by
  induction ds generalizing s with
  | nil => simp
  | cons d rest ih =>
    rw [List.foldl_cons, ih]
    unfold pushReply
    by_cases same : d.port = p
    · rw [same, State.port_modPort_same, List.filter_cons_of_pos (by simpa using same), List.map_cons, List.append_assoc]
      rfl
    · rw [State.port_modPort_other _ _ (Ne.symm same), List.filter_cons_of_neg (by simpa using same)]

/-! ### RESTART (R193) -/

theorem State.port_dequeued (s : State) (p : Port) : s.dequeued.port p = s.port p := by
  cases p <;> rfl

theorem port_freeIndex (s : State) (k : Nat) (p : Port) : ({ s with freeIndex := k } : State).port p = s.port p := by
  cases p <;> rfl

theorem repliesBecome_of_straps {s : State} (p : Port) (z : State) (h : z.straps = s.straps) :
    repliesBecome p (z.port p).replies s (kickPorts z) := by
  have become := repliesBecome_kickPorts p z
  unfold repliesBecome at become ⊢
  rwa [h] at become

theorem onlyReplies.freeIndex {s t : State} (h : onlyReplies s t) (k : Nat) :
    onlyReplies { s with freeIndex := k } { t with freeIndex := k } :=
  ⟨congrArg (fun u => { u with freeIndex := k }) h.1, fun p => by
    cases p with
    | a => exact h.2 .a
    | b => exact h.2 .b⟩

section
variable {d : Directive} {s : State}

theorem restartFor_of_empty (h : d.params = []) :
    restartFor d s =
      (s.dirQueue.foldl (fun acc e => pushReply e.port (busyReply e) acc)
        (restarted ((withdrawn s).freeIndex + 8) [] (withdrawn s))).modPort d.port
          (fun q => { q with replies := replyTo d .ok [] :: q.replies }) := by
  have queue : (withdrawn s).dirQueue = s.dirQueue := by rw [parts_withdrawn]
  unfold restartFor busyAll
  rw [if_pos (by rw [h]; rfl), restartPart_eq, queue]
  simp only [restarted]

theorem onlyReplies_restartFor (h : d.params = []) (k : Nat) :
    onlyReplies (restarted k [] (withdrawn s)) { restartFor d s with freeIndex := k } := by
  have replied : onlyReplies (restarted ((withdrawn s).freeIndex + 8) [] (withdrawn s)) (restartFor d s) := by
    rw [restartFor_of_empty h]
    exact (onlyReplies_foldl_busy _ _).trans (onlyReplies_modPort _ _ (fun _ => rfl) (fun _ => id))
  have shifted := replied.freeIndex k
  simp only [restarted] at shifted ⊢
  exact shifted

/-- R193, log 10: RESTART's own reply goes first, the BUSY replies go last. -/
theorem replies_restartFor (h : d.params = []) (p : Port) :
    ((restartFor d s).port p).replies =
      (if d.port = p then [replyTo d .ok []] else []) ++ (s.port p).replies ++
        (s.dirQueue.filter (fun e => decide (e.port = p))).map busyReply := by
  have old : ((restarted ((withdrawn s).freeIndex + 8) [] (withdrawn s)).port p).replies = (s.port p).replies := by
    rw [port_restarted, port_withdrawn]
    rfl
  rw [restartFor_of_empty h]
  by_cases own : d.port = p
  · rw [if_pos own, own, State.port_modPort_same, replies_foldl_busy, old]
    rfl
  · rw [if_neg own, State.port_modPort_other _ _ (Ne.symm own), replies_foldl_busy, old]
    rfl

theorem straps_restartFor (h : d.params = []) : (restartFor d s).straps = s.straps := by
  have replied := (onlyReplies_restartFor (s := s) h 0).read State.straps (fun _ _ _ => rfl)
  have restart : (restarted 0 [] (withdrawn s)).straps = (withdrawn s).straps := by simp only [restarted, clearFlags]
  have kept : (withdrawn s).straps = s.straps := by rw [parts_withdrawn]
  exact replied.trans (restart.trans kept)

/-- R171, R193: after RESTART the ports have nothing but replies to begin. -/
theorem exec_restart (hw : waiting .restart d s) (h : d.params = []) :
    ∃ t k, exec .restart s = .next t ∧ onlyReplies (restarted k [] (withdrawn s.dequeued)) t ∧
      ∀ p, repliesBecome p ((restartFor d s.dequeued).port p).replies s t := by
  have run : execRestart s = .next (kickPorts
      { restartFor d s.dequeued with freeIndex := (restartFor d s.dequeued).freeIndex + 1 }) := by
    unfold execRestart
    rw [takeDirective_of_waiting hw]
  have replied := onlyReplies_restartFor (s := s.dequeued) h ((restartFor d s.dequeued).freeIndex + 1)
  have straps : (restartFor d s.dequeued).straps = s.straps := straps_restartFor h
  generalize restartFor d s.dequeued = z at run replied straps ⊢
  have quiet := (quiet_restarted (z.freeIndex + 1) [] (withdrawn s.dequeued)).of_onlyReplies replied
  refine ⟨_, z.freeIndex + 1, run, replied.trans (onlyReplies_kickPorts quiet), fun p => ?_⟩
  have become := repliesBecome_of_straps p { z with freeIndex := z.freeIndex + 1 } straps
  rw [port_freeIndex] at become
  exact become

end

/-! ### The part after RESTART -/

section
variable {s t : State} {k : Nat} {ds : List Directive} (left : onlyReplies (restarted k ds (withdrawn s)) t)
include left

theorem lane_of_restarted (l : Fin 8) :
    t.lane l = ((s.lane l).sent ((withdrawTags s l).map withdrawFrame)).restart := by
  rw [left.read (fun u => u.lane l) (fun _ _ _ => rfl), lane_restarted, lane_withdrawn]

theorem flag_of_restarted (f : Flag) : t.flag f = (s.flag f && staysSet (withdrawn s) f.index.val) := by
  have kept : (withdrawn s).flag f = s.flag f := by rw [parts_withdrawn]; rfl
  rw [left.read (fun u => u.flag f) (fun _ _ _ => rfl), flag_restarted, kept]

theorem profile_of_restarted (i : Fin 16) : t.profile i = { s.profile i with working := (s.profile i).b0 } := by
  have kept : (withdrawn s).profile i = s.profile i := by rw [parts_withdrawn]; rfl
  rw [left.read (fun u => u.profile i) (fun _ _ _ => rfl), profile_restarted, kept]

theorem dest_of_restarted (i : Fin 16) : t.dest i = (s.dest i).restart := by
  have kept : (withdrawn s).dest i = s.dest i := by rw [parts_withdrawn]; rfl
  rw [left.read (fun u => u.dest i) (fun _ _ _ => rfl), dest_restarted, kept]

theorem parts_of_restarted :
    t.sheets = [] ∧ t.held = [] ∧ t.batches = [] ∧ t.lastReport = none ∧ t.directory = [] ∧ t.free = 4096 ∧
      t.reserved = 0 ∧ t.allocated = 0 ∧ t.lowMark = s.lowMark ∧ t.separators = s.separators ∧ t.bank0 = s.bank0 ∧
      t.bank1 = s.bank1 ∧ t.activeBank = s.activeBank ∧ t.mask = s.mask ∧ t.reportStation = s.reportStation ∧
      t.notices = [] ∧ t.pendingLost = none ∧ t.lostCount = 0 := by
  rw [left.1, parts_withdrawn]
  simp only [restarted, clearFlags, and_self]

theorem port_of_restarted (p : Port) :
    t.port p = { (s.port p).restart with replies := (t.port p).replies, tx := (t.port p).tx } ∧
      ∀ f, (s.port p).tx = some f → (t.port p).tx = some f := by
  have port := left.port p
  have busy := left.2 p
  rw [port_restarted, port_withdrawn] at port busy
  exact ⟨port, busy⟩

end

/-- Settles O37: RESTART is the part's reset, after which the ports can begin no more than replies. -/
theorem restartResetsPart : Obligations.RestartResetsPart := by
  unfold Obligations.RestartResetsPart
  intro s d hw noParams
  obtain ⟨t, k, run, left, become⟩ := exec_restart hw noParams
  have emptied : t.dirQueue = [] := left.read State.dirQueue (fun _ _ _ => rfl)
  refine ⟨t, run, emptied, fun p => ?_, fun l => ?_, fun f other => ?_, fun l => ?_,
    fun i => ⟨profile_of_restarted left i, dest_of_restarted left i⟩, ?_⟩
  · have replies := replies_restartFor (s := s.dequeued) noParams p
    have answers := become p
    rw [replies] at answers
    exact answers
  · obtain ⟨settled, perm, tags⟩ := withdrawTags_spec s.dequeued l
    rw [lane_of_restarted left l]
    refine ⟨rfl, rfl, rfl, rfl, rfl, rfl, rfl, rfl, rfl, rfl, rfl, rfl, rfl, rfl, rfl, rfl, rfl, rfl, rfl, rfl, rfl, rfl,
      rfl, rfl, rfl, rfl, rfl, rfl, rfl, rfl, rfl, rfl, rfl, rfl, rfl, rfl, rfl, settled, perm, ?_⟩
    show (if (s.lane l).linkUp then _ ++ (withdrawTags s.dequeued l).map withdrawFrame else _) = _
    rw [tags]
    split
    · rfl
    · exact (List.append_nil _).symm
  · rw [flag_of_restarted left, staysSet_other _ other, Bool.and_false]
  · rw [flag_of_restarted left, staysSet_spare, holdsSpare_withdrawn]
    rfl
  · obtain ⟨sheets, held, batches, report, directory, free, reserved, allocated, lowMark, separators, bank0, bank1, bank, mask,
      station, notices, pendingLost, lost⟩ := parts_of_restarted left
    refine ⟨sheets, held, batches, report, directory, free, reserved, allocated, lowMark, separators, bank0, bank1, bank,
      mask, station, notices, pendingLost, lost, fun p => ?_⟩
    obtain ⟨port, busy⟩ := port_of_restarted left p
    rw [State.port_dequeued] at port busy
    rw [port]
    exact ⟨rfl, rfl, rfl, rfl, rfl, busy⟩

end Sys2Proof.Machine
end

section
/-!
PROOF. What each command leaves of the stock profiles (chapter 2): all but a trail, PROFILE_LOAD, RESTART and POWER_ON leave
them as they are, and those four keep every working baseline in its band (R35, R37).
-/

namespace Sys2Proof.Machine

/-! ### The shared operations -/

theorem onlySettles.profiles_eq {s t : State} (h : onlySettles s t) : t.profiles = s.profiles := by
  rw [show t = _ from h]

theorem onlySends.profiles_eq {s t : State} (h : onlySends s t) : t.profiles = s.profiles := by
  rw [show t = _ from h]

theorem profiles_of_interior {s t : State} (h : s.interior = t.interior) : s.profiles = t.profiles :=
  eq_of_interior (fun u => u.profiles) (fun _ => rfl) h

@[simp] theorem profiles_raise (f : Flag) (s : State) : (raise f s).profiles = s.profiles :=
  (onlySettles_raise f s).profiles_eq

@[simp] theorem profiles_kickPorts (s : State) : (kickPorts s).profiles = s.profiles :=
  (onlySends_kickPorts s).profiles_eq

@[simp] theorem profiles_boundary (p : Port) (s : State) : (boundary p s).profiles = s.profiles :=
  (onlySends_boundary p s).profiles_eq

@[simp] theorem profiles_placePendingLost (s : State) : (placePendingLost s).profiles = s.profiles :=
  (onlySends_placePendingLost s).profiles_eq

@[simp] theorem profiles_modPort (s : State) (p : Port) (f : PortState → PortState) :
    (s.modPort p f).profiles = s.profiles :=
  (onlySends_modPort s p f).profiles_eq

@[simp] theorem profiles_pushReply (p : Port) (r : Reply) (s : State) : (pushReply p r s).profiles = s.profiles :=
  profiles_modPort s p _

@[simp] theorem profiles_handReport (r : Report) (s : State) : (handReport r s).profiles = s.profiles :=
  (profiles_of_interior (interior_handReport r s)).trans rfl

@[simp] theorem profiles_finishBatch (final : FinalState) (id : Nat) (s : State) :
    (finishBatch final id s).profiles = s.profiles := by
  unfold finishBatch
  split <;> simp

@[simp] theorem profiles_testClosure (id : Nat) (s : State) : (testClosure id s).profiles = s.profiles := by
  unfold testClosure
  split
  · rfl
  · split <;> simp

@[simp] theorem profiles_testAbort (id : Nat) (s : State) : (testAbort id s).profiles = s.profiles := by
  unfold testAbort
  split
  · rfl
  · split <;> simp

@[simp] theorem profiles_testBatch (id : Nat) (s : State) : (testBatch id s).profiles = s.profiles := by
  simp [testBatch]

/-- What each item's handling leaves of the profiles, the handling of a list of items leaves. -/
theorem profiles_foldl {α : Type} (f : State → α → State) (h : ∀ u x, (f u x).profiles = u.profiles) (xs : List α)
    (s : State) : (xs.foldl f s).profiles = s.profiles := by
  induction xs generalizing s with
  | nil => rfl
  | cons x rest ih => rw [List.foldl_cons, ih, h]

@[simp] theorem profiles_testBatches (ids : List Nat) (s : State) : (testBatches ids s).profiles = s.profiles :=
  profiles_foldl _ (fun u id => profiles_testBatch id u) _ _

@[simp] theorem profiles_freeRecord (g : Tag) (s : State) : (freeRecord g s).profiles = s.profiles :=
  (parts_freeRecord s g).1.profiles_eq

@[simp] theorem profiles_freePicking (l : Fin 8) (s : State) : (freePicking l s).profiles = s.profiles :=
  (onlySettles_freePicking l s).profiles_eq

@[simp] theorem profiles_sendHead (l : Fin 8) (frame : List Byte) (s : State) :
    (sendHead l frame s).profiles = s.profiles := by
  rw [sendHead_eq, State.modLane_profiles]

@[simp] theorem profiles_lowerFree (n : Nat) (s : State) : (lowerFree n s).profiles = s.profiles := by
  unfold lowerFree
  dsimp only
  split <;> simp

@[simp] theorem profiles_createSheet (l : Fin 8) (batch : Nat) (state : SheetState) (f : Findings) (n : Nat)
    (s : State) : (createSheet l batch state f n s).profiles = s.profiles := by
  simp [createSheet, takeReserve]

/-! ### Settlement, the lane and its batch -/

@[simp] theorem profiles_settleCursor (l : Fin 8) (g : Tag) (s : State) : (settleCursor l g s).profiles = s.profiles :=
  (settleFrame_settleCursor l g s).parts.profiles_eq

@[simp] theorem profiles_poke (l : Fin 8) (s : State) : (poke l s).profiles = s.profiles :=
  settleLoop_keeps (fun u => u.profiles = s.profiles) (fun u g h _ => (profiles_settleCursor l g u).trans h) _ rfl

@[simp] theorem profiles_examine (l : Fin 8) (s : State) : (examine l s).profiles = s.profiles := by
  unfold examine
  split <;> simp

@[simp] theorem profiles_batchLeaves (l : Fin 8) (s : State) : (batchLeaves l s).profiles = s.profiles := by
  unfold batchLeaves
  dsimp only
  split
  · rfl
  · split <;> simp

@[simp] theorem profiles_drainTest (l : Fin 8) (s : State) : (drainTest l s).profiles = s.profiles := by
  unfold drainTest
  split <;> simp

@[simp] theorem profiles_settleLane (l : Fin 8) (s : State) : (settleLane l s).profiles = s.profiles := by
  simp [settleLane]

@[simp] theorem profiles_pokeLane (l : Fin 8) (s : State) : (pokeLane l s).profiles = s.profiles := by
  simp [pokeLane]

@[simp] theorem profiles_addIncomplete (g : Tag) (s : State) : (addIncomplete g s).profiles = s.profiles := by
  unfold addIncomplete
  split
  · rfl
  · split
    · rfl
    · dsimp only
      split <;> simp

@[simp] theorem profiles_retryWaiting (ds : List (Fin 16)) (s : State) : (retryWaiting ds s).profiles = s.profiles :=
  profiles_foldl _ (fun u l => profiles_pokeLane l u) _ _

@[simp] theorem profiles_discardHeld (e : HeldEntry) (s : State) : (discardHeld e s).profiles = s.profiles := by
  simp [discardHeld]

@[simp] theorem profiles_discardBatchHeld (id : Nat) (s : State) : (discardBatchHeld id s).profiles = s.profiles :=
  profiles_foldl _ (fun u e => profiles_discardHeld e u) _ _

@[simp] theorem profiles_removeUndelivered (d : Fin 16) (s : State) (e : DeliveryEntry) :
    (removeUndelivered d s e).profiles = s.profiles := by
  unfold removeUndelivered lowerPending
  split
  · simp
  · dsimp only
    split <;> simp

@[simp] theorem profiles_halt (l : Fin 8) (why : HaltReason) (s : State) : (halt l why s).profiles = s.profiles := by
  unfold halt
  split <;> simp

@[simp] theorem profiles_endFeeding (l : Fin 8) (s : State) : (endFeeding l s).profiles = s.profiles := by
  unfold endFeeding
  dsimp only
  split <;> rfl

@[simp] theorem profiles_jam (l : Fin 8) (why : JamReason) (s : State) : (jam l why s).profiles = s.profiles := by
  unfold jam
  split
  · dsimp only
    rw [profiles_pokeLane, State.modLane_profiles, parts_jamHolder]
    simp
  · rfl

@[simp] theorem profiles_doubleFeedCheck (l : Fin 8) (g : Tag) (s : State) :
    (doubleFeedCheck l g s).profiles = s.profiles := by
  unfold doubleFeedCheck
  split
  · rfl
  · split
    · dsimp only
      split <;> simp
    · rfl

@[simp] theorem profiles_takeLead (l : Fin 8) (g : Tag) (id : Nat) (s : State) :
    (takeLead l g id s).profiles = s.profiles := by
  unfold takeLead
  dsimp only
  split <;> simp

@[simp] theorem profiles_attributeLead (l : Fin 8) (s : State) : (attributeLead l s).profiles = s.profiles := by
  unfold attributeLead
  dsimp only
  split
  · simp
  · split
    · simp [pickedLead]
    · unfold unexpectedLead
      split
      · simp
      · split <;> simp

@[simp] theorem profiles_attributeExitLead (l : Fin 8) (s : State) : (attributeExitLead l s).profiles = s.profiles := by
  unfold attributeExitLead
  dsimp only
  split
  · simp
  · unfold divertSheet
    dsimp only
    split
    · simp
    · split
      · simp
      · split <;> simp

@[simp] theorem profiles_attributeExitTrail (l : Fin 8) (g : Tag) (s : State) :
    (attributeExitTrail l g s).profiles = s.profiles := by
  simp [attributeExitTrail]

@[simp] theorem profiles_feedingWindow (l : Fin 8) (s : State) : (feedingWindow l s).profiles = s.profiles := by
  unfold feedingWindow
  dsimp only
  split
  · split <;> split <;> simp
  · split
    · split <;> simp
    · simp

@[simp] theorem profiles_takeStrip (l : Fin 8) (tag : Nat) (side : Side) (index : Nat) (last : Bool)
    (payload : List Byte) (s : State) : (takeStrip l tag side index last payload s).profiles = s.profiles := by
  have filed : ∀ src g, (fileStrip src g side last payload s).profiles = s.profiles := fun src g => by
    cases src <;> simp [fileStrip, takeBlock]
  unfold takeStrip
  split
  · simp [orphanStrip]
  · split
    · split
      · simp
      · dsimp only
        split <;> simp [filed]
    · simp

@[simp] theorem profiles_laneFrameArrives (l : Fin 8) (frame : List Byte) (s : State) :
    (laneFrameArrives l frame s).profiles = s.profiles := by
  unfold laneFrameArrives
  split
  · simp
  · unfold takePatch
    split <;> simp
  · simp [countMalformed]

/-! ### The ports -/

@[simp] theorem profiles_stationFrameArrives (p : Port) (frame : List Byte) (s : State) :
    (stationFrameArrives p frame s).profiles = s.profiles := by
  unfold stationFrameArrives
  split
  · split
    · unfold offerDirective
      rw [profiles_kickPorts]
      split
      · split <;> simp
      · simp
    · unfold takeCredit
      rw [profiles_kickPorts]
      split
      · split <;> simp
      · rfl
    · rfl
  · rfl

@[simp] theorem profiles_afterDrop (d : Fin 16) (ids : List Nat) (s : State) : (afterDrop d ids s).profiles = s.profiles := by
  simp [afterDrop]

@[simp] theorem profiles_deliveryEnd (p : Port) (c : Delivery) (s : State) : (deliveryEnd p c s).profiles = s.profiles := by
  have lowered : ∀ u : State, (lowerPending c.entry.sheet u).profiles = u.profiles := fun u => by
    unfold lowerPending
    split
    · rfl
    · dsimp only
      split <;> simp
  unfold deliveryEnd testEntryBatch
  split <;> simp [lowered, endCurrent]

@[simp] theorem profiles_frameEnds (p : Port) (s : State) : (frameEnds p s).profiles = s.profiles := by
  unfold frameEnds
  dsimp only
  split
  · unfold stripSent
    split
    · simp
    · split
      · simp [closingEnd, endCurrent]
      · simp
  · simp

/-! ### The directives -/

/-- A directive whose body leaves the profiles leaves them. -/
theorem profiles_runDirective {row : DirectiveRow} {body : List Byte → State → Executed}
    (h : ∀ ps u, (body ps u).state.profiles = u.profiles) (s : State) :
    (runDirective row body s).profiles = s.profiles := by
  unfold runDirective takeDirective
  split
  · rfl
  next d u taken =>
    have rest : u.profiles = s.profiles := by
      split at taken
      · cases taken
      · split at taken
        · cases taken; rfl
        · cases taken
    simp [h, rest]

section
variable {n : Nat} {body : List Byte → State → Executed} {laneBody : Fin 8 → List Byte → State → Executed}
  {sixteenBody : Fin 16 → List Byte → State → Executed} {heldBody : HeldEntry → State → Executed}
  {idBody : Nat → List Byte → State → Executed}

theorem profiles_withLength (h : ∀ ps u, (body ps u).state.profiles = u.profiles) (ps : List Byte) (u : State) :
    (withLength n body ps u).state.profiles = u.profiles := by
  unfold withLength
  split
  · exact h ps u
  · rfl

theorem profiles_withLane (h : ∀ l ps u, (laneBody l ps u).state.profiles = u.profiles) (ps : List Byte) (u : State) :
    (withLane laneBody ps u).state.profiles = u.profiles := by
  unfold withLane
  split
  · rfl
  · exact h _ ps u

theorem profiles_withSixteen (h : ∀ i ps u, (sixteenBody i ps u).state.profiles = u.profiles) (ps : List Byte)
    (u : State) : (withSixteen sixteenBody ps u).state.profiles = u.profiles := by
  unfold withSixteen
  split
  · rfl
  · exact h _ ps u

theorem profiles_withHeld (h : ∀ e u, (heldBody e u).state.profiles = u.profiles) (ps : List Byte) (u : State) :
    (withHeld n heldBody ps u).state.profiles = u.profiles := by
  unfold withHeld
  split
  · rfl
  · split
    · rfl
    · split
      · rfl
      · exact h _ u

theorem profiles_withId (h : ∀ id ps u, (idBody id ps u).state.profiles = u.profiles) (ps : List Byte) (u : State) :
    (withId idBody ps u).state.profiles = u.profiles := by
  unfold withId
  split
  · rfl
  · exact h _ ps u

end

section
variable (l : Fin 8) (d : Fin 16) (id : Nat) (e : HeldEntry) (pins : BitVec 8) (ps : List Byte) (u : State)

theorem profiles_laneSet : (laneSet l ps u).state.profiles = u.profiles := by
  unfold laneSet
  split
  · rfl
  · dsimp only
    split <;> rfl

theorem profiles_laneStart : (laneStart l ps u).state.profiles = u.profiles := by
  unfold laneStart
  dsimp only
  repeat' split
  all_goals rfl

theorem profiles_lanePause : (lanePause l ps u).state.profiles = u.profiles := by
  unfold lanePause
  split
  · dsimp only
    split <;> simp [accept]
  · rfl

theorem profiles_laneResume : (laneResume l ps u).state.profiles = u.profiles := by
  unfold laneResume
  dsimp only
  repeat' split
  all_goals simp [accept, refuse]

theorem profiles_laneClear : (laneClear l ps u).state.profiles = u.profiles := by
  have discarded : ∀ s, (discardOrder l s).profiles = s.profiles := fun s =>
    profiles_foldl _ (fun v g => (leaves_dropSheet l g v _).parts.profiles_eq) _ _
  unfold laneClear
  dsimp only
  repeat' split
  all_goals simp [accept, refuse, discarded]

theorem profiles_laneManualEnter : (laneManualEnter l ps u).state.profiles = u.profiles := by
  unfold laneManualEnter
  repeat' split
  all_goals rfl

theorem profiles_laneManualLeave : (laneManualLeave l ps u).state.profiles = u.profiles := by
  unfold laneManualLeave
  split <;> rfl

theorem profiles_linesMap : (linesMap pins l ps u).state.profiles = u.profiles := by
  unfold linesMap
  repeat' split
  · rfl
  · rfl
  · dsimp only [accept]
    split <;> simp

theorem profiles_linesSet : (linesSet pins ps u).state.profiles = u.profiles := by
  have applied : ∀ k v x, (applyLineSetting pins k v x).profiles = v.profiles := fun k v x => by
    unfold applyLineSetting
    split
    · rfl
    · dsimp only
      split <;> simp
  unfold linesSet
  dsimp only
  repeat' split
  all_goals simp [accept, refuse, profiles_foldl _ (applied _)]

theorem profiles_lanePowerOff : (lanePowerOff l ps u).state.profiles = u.profiles := by
  unfold lanePowerOff
  repeat' split
  all_goals rfl

theorem profiles_lanePowerIdle : (lanePowerIdle l ps u).state.profiles = u.profiles := by
  unfold lanePowerIdle
  dsimp only
  repeat' split
  all_goals rfl

theorem profiles_lanePowerStandby : (lanePowerStandby l ps u).state.profiles = u.profiles := by
  unfold lanePowerStandby
  dsimp only
  repeat' split
  all_goals simp [accept, refuse]

theorem profiles_storeSet : (storeSet ps u).state.profiles = u.profiles := by
  unfold storeSet acceptClamped
  dsimp only
  split <;> simp

theorem profiles_resolveRelease (kind : Kind) (sep : Option (Fin 8)) :
    (resolveRelease e kind sep u).state.profiles = u.profiles := by
  have delivered : ∀ es s, (deliver e.tag kind es s).profiles = s.profiles := fun es s =>
    (cursorFrame_deliver 0 e.tag s kind es).parts.profiles_eq
  have freed : ∀ es s, (freeIfIdle e.tag es s).profiles = s.profiles := fun es s =>
    (cursorFrame_freeIfIdle 0 e.tag s es).parts.profiles_eq
  unfold resolveRelease
  repeat' split
  all_goals simp [accept, refuse, delivered, freed]

theorem profiles_resolveDiscard : (resolveDiscard e u).state.profiles = u.profiles := by
  simp [resolveDiscard, accept]

theorem profiles_sheetRead : (sheetRead ps u).state.profiles = u.profiles := by
  unfold sheetRead
  repeat' split
  all_goals rfl

theorem profiles_batchOpen : (batchOpen ps u).state.profiles = u.profiles := by
  unfold batchOpen
  repeat' split
  all_goals rfl

theorem profiles_batchClose : (batchClose id ps u).state.profiles = u.profiles := by
  unfold batchClose
  repeat' split
  all_goals simp [accept, refuse]

theorem profiles_abortRest : (abortRest id u).profiles = u.profiles := by
  have aborted : ∀ v x, (abortDest id v x).profiles = v.profiles := fun v x =>
    (profiles_foldl _ (profiles_removeUndelivered x) _ _).trans rfl
  simp [abortRest, abortEntries, profiles_foldl _ aborted]

theorem profiles_batchAbort : (batchAbort id ps u).state.profiles = u.profiles := by
  unfold batchAbort
  repeat' split
  all_goals simp [accept, refuse, profiles_abortRest, abortActive]

theorem profiles_batchRead : (batchRead id ps u).state.profiles = u.profiles := by
  unfold batchRead
  repeat' split
  all_goals rfl

theorem profiles_separatorLoad : (separatorLoad ps u).state.profiles = u.profiles := by
  have stored : ∀ v r, (storeSeparator v r).profiles = v.profiles := fun v r => by
    unfold storeSeparator
    split <;> rfl
  unfold separatorLoad
  dsimp only
  repeat' split
  all_goals simp [accept, refuse, profiles_foldl _ stored]

theorem profiles_separatorRead : (separatorRead ps u).state.profiles = u.profiles := by
  unfold separatorRead
  split <;> rfl

theorem profiles_loadEntries (rs : List (List Byte)) (n : Nat) : (loadEntries rs n u).2.2.profiles = u.profiles := by
  induction rs generalizing n u with
  | nil => rfl
  | cons r rest ih =>
    unfold loadEntries
    split
    · rfl
    · rw [ih]
      unfold writeShadow
      split <;> rfl

theorem profiles_routeLoad : (routeLoad ps u).state.profiles = u.profiles := by
  have loaded := profiles_loadEntries u (records ps 10) 0
  unfold routeLoad
  split
  · rfl
  · split <;> next h => rw [h] at loaded; exact loaded

theorem profiles_routeRead : (routeRead ps u).state.profiles = u.profiles := by
  unfold routeRead
  split
  · rfl
  · dsimp only
    split <;> rfl

theorem profiles_destSet : (destSet d ps u).state.profiles = u.profiles := by
  unfold destSet
  split
  · rfl
  · split
    · dsimp only
      split
      · rfl
      · split <;> rfl
    · rfl

theorem profiles_destEnable : (destEnable d ps u).state.profiles = u.profiles := by
  unfold destEnable
  repeat' split
  all_goals rfl

theorem profiles_destDisable : (destDisable d ps u).state.profiles = u.profiles := by
  have closed : (closeDest d u).profiles = u.profiles :=
    (profiles_foldl _ (profiles_removeUndelivered d) _ _).trans (by simp)
  unfold destDisable
  split
  · rfl
  · dsimp only [accept]
    split <;> simp [closed]

theorem profiles_portRead : (portRead ps u).state.profiles = u.profiles := by
  unfold portRead
  split <;> rfl

theorem profiles_reportSet : (reportSet ps u).state.profiles = u.profiles := by
  unfold reportSet
  split
  · rfl
  · dsimp only
    split <;> simp only [refuse, accept]

theorem profiles_eventsClear : (eventsClear ps u).state.profiles = u.profiles := by
  simp only [eventsClear, answerData, clearFlags]

end

/-! ### Every command -/

theorem baselinesHold_of_profiles {s t : State} (h : t.profiles = s.profiles) (k : baselinesHold s) :
    baselinesHold t := by
  have same : ∀ i, t.profile i = s.profile i := fun i => by simp only [State.profile, h]
  intro i
  rw [same]
  exact k i

/-- A working baseline inside its profile's band, with B0 in its range (R33, R37). -/
def Profile.inBand (p : Profile) : Prop :=
  1 ≤ p.b0 ∧ p.b0 ≤ 4095 ∧ bandLow p.b0 ≤ p.working ∧ p.working ≤ bandHigh p.b0

theorem baselinesHold_iff (s : State) : baselinesHold s ↔ ∀ i, (s.profile i).inBand := .rfl

theorem bandLow_le_bandHigh {b0 : Nat} (h : 1 ≤ b0) (k : b0 ≤ 4095) : bandLow b0 ≤ bandHigh b0 := by
  unfold bandLow bandHigh
  omega

/-- The B0 itself lies in its band. -/
theorem b0_in_band {b0 : Nat} (h : 1 ≤ b0) (k : b0 ≤ 4095) : bandLow b0 ≤ b0 ∧ b0 ≤ bandHigh b0 := by
  unfold bandLow bandHigh
  omega

theorem Profile.inBand_of_working_b0 {p : Profile} (h : 1 ≤ p.b0) (k : p.b0 ≤ 4095) (same : p.working = p.b0) :
    p.inBand := by
  unfold Profile.inBand
  rw [same]
  exact ⟨h, k, b0_in_band h k⟩

/-- R37: tracking keeps the working baseline in the band. -/
theorem Profile.inBand_trackProfile (a : Accumulator) (f : Findings) {p : Profile} (h : p.inBand) :
    (trackProfile a f p).inBand := by
  obtain ⟨low, high, above, below⟩ := h
  unfold trackProfile
  split
  · exact ⟨low, high, le_max_left _ _, max_le (bandLow_le_bandHigh low high) (min_le_left _ _)⟩
  · exact ⟨low, high, above, below⟩

/-- R33, R37: a stored profile starts at its B0. -/
theorem Profile.inBand_clamp {p : Profile} (h : p.b0 ≤ 4095) : p.clamp.inBand :=
  inBand_of_working_b0 (le_max_left _ _) (max_le (by omega) h) rfl

theorem profile_modProfile (s : State) (i j : Fin 16) (f : Profile → Profile) :
    (s.modProfile i f).profile j = if j = i then f (s.profile j) else s.profile j := by
  by_cases h : j = i
  · subst h
    simp
  · have : i.val ≠ j.val := fun e => h (Fin.ext e.symm)
    simp [State.profile, State.modProfile, Vector.getElem_set_ne _ _ this, h]

theorem baselinesHold_modProfile {s : State} (i : Fin 16) {f : Profile → Profile} (h : baselinesHold s)
    (hf : (f (s.profile i)).inBand) : baselinesHold (s.modProfile i f) := by
  rw [baselinesHold_iff]
  intro j
  rw [profile_modProfile]
  split
  case isTrue same => rwa [same]
  case isFalse => exact h j

/-- R36, R37: a trail computation can move the profile it was measured by, inside the band. -/
theorem baselinesHold_trailComputation {s : State} (l : Fin 8) (r : Sheet) (cap : Tick) (h : baselinesHold s) :
    baselinesHold (trailComputation l r cap s) :=
  baselinesHold_modProfile (s.lane l).acc.profile h (Profile.inBand_trackProfile _ _ (h _))

theorem baselinesHold_attributeTrail {s : State} (l : Fin 8) (g : Tag) (h : baselinesHold s) :
    baselinesHold (attributeTrail l g s) := by
  unfold attributeTrail
  dsimp only
  split
  · exact h
  next r _ =>
    split
    · refine baselinesHold_of_profiles ?_
        (baselinesHold_trailComputation l r (s.lane l).counter (s := s.modLane l (Lane.takeTrail g)) h)
      rw [profiles_settleLane, profiles_doubleFeedCheck, State.modSheet_profiles]
    · exact h

/-- R33: every stored profile starts in its band. -/
theorem baselinesHold_storeProfile {s : State} (rec : List Byte) (h : baselinesHold s) :
    baselinesHold (storeProfile s rec) := by
  unfold storeProfile
  split
  · exact h
  · refine baselinesHold_modProfile _ h (Profile.inBand_clamp ?_)
    have := Nat.mod_lt (rd rec 2 2) (show 0 < 4096 by omega)
    simp only [carriedProfile]
    omega

theorem baselinesHold_profileLoad {s : State} (ps : List Byte) (h : baselinesHold s) :
    baselinesHold (profileLoad ps s).state := by
  have stored : ∀ (rs : List (List Byte)) (u : State), baselinesHold u → baselinesHold (rs.foldl storeProfile u) := by
    intro rs
    induction rs with
    | nil => exact fun _ h => h
    | cons r rest ih => exact fun u h => ih _ (baselinesHold_storeProfile r h)
  unfold profileLoad
  dsimp only
  repeat' split
  · exact h
  · exact h
  · exact h
  · exact stored _ s h

/-- R37: the execution of a directive whose body keeps the baselines in their bands keeps them. -/
theorem baselinesHold_runDirective {row : DirectiveRow} {body : List Byte → State → Executed} {s : State}
    (h : baselinesHold s) (hb : ∀ ps u, baselinesHold u → baselinesHold (body ps u).state) :
    baselinesHold (runDirective row body s) := by
  unfold runDirective takeDirective
  split
  · exact h
  next d u taken =>
    have rest : baselinesHold u := by
      split at taken
      · cases taken
      · split at taken
        · cases taken; exact h
        · cases taken
    exact baselinesHold_of_profiles (by simp) (hb d.params u rest)

/-- R35, R193: RESTART sets every working baseline to its B0. -/
theorem baselinesHold_execRestart {s t : State} (h : baselinesHold s) (run : exec .restart s = .next t) :
    baselinesHold t := by
  cases taken : takeDirective .restart s with
  | none =>
    have same : exec .restart s = .next s := by simp [exec, execRestart, taken]
    cases same.symm.trans run
    exact h
  | some p =>
    obtain ⟨d, u⟩ := p
    have hw : waiting .restart d s ∧ u = s.dequeued := by
      unfold takeDirective at taken
      split at taken
      · cases taken
      next e rest queue =>
        split at taken
        · next row =>
          cases taken
          exact ⟨⟨by simp [queue], row⟩, by simp [State.dequeued, queue]⟩
        · cases taken
    obtain ⟨hw, rfl⟩ := hw
    by_cases empty : d.params = []
    · obtain ⟨v, k, run', left, -⟩ := exec_restart hw empty
      cases run'.symm.trans run
      intro i
      rw [profile_of_restarted left i]
      obtain ⟨low, high, -⟩ := h i
      exact Profile.inBand_of_working_b0 low high rfl
    · have refused : exec .restart s = .next (kickPorts { restartFor d s.dequeued with
          freeIndex := (restartFor d s.dequeued).freeIndex + 1 }) := by simp [exec, execRestart, taken]
      cases refused.symm.trans run
      refine baselinesHold_of_profiles ?_ h
      simp [restartFor, empty]

theorem baselinesHold_powerOn (pins : Vector (BitVec 8) 8) (straps links : BitVec 8) (la lb : Bool) :
    baselinesHold (State.powerOn pins straps links la lb) := by
  intro i
  have powered : (State.powerOn pins straps links la lb).profile i = .powerOn := by
    simp [State.profile, State.powerOn]
  rw [powered]
  decide

/-- A command that leaves the profiles keeps the baselines. -/
theorem baselinesHold_of_next {s t u : State} (h : baselinesHold s) (same : u.profiles = s.profiles)
    (run : (Host.Outcome.next u : Answer) = .next t) : baselinesHold t := by
  cases run
  exact baselinesHold_of_profiles same h

/-- A directive whose body leaves the profiles keeps the baselines. -/
theorem baselinesHold_of_body {s t : State} {row : DirectiveRow} {body : List Byte → State → Executed}
    (h : baselinesHold s) (same : ∀ ps u, (body ps u).state.profiles = u.profiles)
    (run : (Host.Outcome.next (runDirective row body s) : Answer) = .next t) : baselinesHold t :=
  baselinesHold_of_next h (profiles_runDirective same s) run

/-- R37: whatever the command, the working baselines stay in their bands. -/
theorem baselinesHold_exec {c : Instr} {s t : State} (h : baselinesHold s) (run : exec c s = .next t) :
    baselinesHold t := by
  cases c with
  | powerOn pins straps links la lb =>
    cases run
    exact baselinesHold_of_profiles rfl (baselinesHold_powerOn pins straps links la lb)
  | directive => exact baselinesHold_of_next h (profiles_stationFrameArrives _ _ s) run
  | credit => exact baselinesHold_of_next h (profiles_stationFrameArrives _ _ s) run
  | discardedStationFrame => exact baselinesHold_of_next h (profiles_stationFrameArrives _ _ s) run
  | unknown => exact baselinesHold_of_body h (fun _ _ => rfl) run
  | laneSet => exact baselinesHold_of_body h (profiles_withLength (profiles_withLane profiles_laneSet)) run
  | laneStart => exact baselinesHold_of_body h (profiles_withLength (profiles_withLane profiles_laneStart)) run
  | lanePause => exact baselinesHold_of_body h (profiles_withLength (profiles_withLane profiles_lanePause)) run
  | laneResume => exact baselinesHold_of_body h (profiles_withLength (profiles_withLane profiles_laneResume)) run
  | laneClear => exact baselinesHold_of_body h (profiles_withLength (profiles_withLane profiles_laneClear)) run
  | laneManualEnter =>
    exact baselinesHold_of_body h (profiles_withLength (profiles_withLane profiles_laneManualEnter)) run
  | laneManualLeave =>
    exact baselinesHold_of_body h (profiles_withLength (profiles_withLane profiles_laneManualLeave)) run
  | laneRead => exact baselinesHold_of_body h (profiles_withLength (profiles_withLane fun _ _ _ => rfl)) run
  | linesMap => exact baselinesHold_of_body h (profiles_withLength (profiles_withLane fun l => profiles_linesMap l _)) run
  | linesSet => exact baselinesHold_of_body h (profiles_linesSet _) run
  | linesRead => exact baselinesHold_of_body h (profiles_withLength (profiles_withLane fun _ _ _ => rfl)) run
  | lanePowerOff => exact baselinesHold_of_body h (profiles_withLength (profiles_withLane profiles_lanePowerOff)) run
  | lanePowerIdle => exact baselinesHold_of_body h (profiles_withLength (profiles_withLane profiles_lanePowerIdle)) run
  | lanePowerSet => exact baselinesHold_of_body h (profiles_withLength (profiles_withLane fun _ _ _ => rfl)) run
  | lanePowerStandby =>
    exact baselinesHold_of_body h (profiles_withLength (profiles_withLane profiles_lanePowerStandby)) run
  | profileLoad =>
    cases run
    exact baselinesHold_runDirective h (fun ps _ => baselinesHold_profileLoad ps)
  | profileRead => exact baselinesHold_of_body h (profiles_withLength (profiles_withSixteen fun _ _ _ => rfl)) run
  | storeSet => exact baselinesHold_of_body h (profiles_withLength profiles_storeSet) run
  | storeRead => exact baselinesHold_of_body h (profiles_withLength fun _ _ => rfl) run
  | resolveAccept =>
    exact baselinesHold_of_body h (profiles_withLength (profiles_withHeld fun e u => profiles_resolveRelease e u _ _)) run
  | resolveReview =>
    exact baselinesHold_of_body h (profiles_withLength (profiles_withHeld fun e u => profiles_resolveRelease e u _ _)) run
  | resolveDiscard => exact baselinesHold_of_body h (profiles_withLength (profiles_withHeld profiles_resolveDiscard)) run
  | heldList => exact baselinesHold_of_body h (profiles_withLength fun _ _ => rfl) run
  | sheetRead => exact baselinesHold_of_body h (profiles_withLength profiles_sheetRead) run
  | batchOpen => exact baselinesHold_of_body h (profiles_withLength profiles_batchOpen) run
  | batchClose => exact baselinesHold_of_body h (profiles_withLength (profiles_withId profiles_batchClose)) run
  | batchAbort => exact baselinesHold_of_body h (profiles_withLength (profiles_withId profiles_batchAbort)) run
  | batchRead => exact baselinesHold_of_body h (profiles_withLength (profiles_withId profiles_batchRead)) run
  | separatorLoad => exact baselinesHold_of_body h profiles_separatorLoad run
  | separatorRead => exact baselinesHold_of_body h (profiles_withLength profiles_separatorRead) run
  | routeLoad => exact baselinesHold_of_body h profiles_routeLoad run
  | routeSwap => exact baselinesHold_of_body h (profiles_withLength fun _ _ => rfl) run
  | routeRead => exact baselinesHold_of_body h (profiles_withLength profiles_routeRead) run
  | destSet => exact baselinesHold_of_body h (profiles_withLength (profiles_withSixteen profiles_destSet)) run
  | destEnable => exact baselinesHold_of_body h (profiles_withLength (profiles_withSixteen profiles_destEnable)) run
  | destDisable => exact baselinesHold_of_body h (profiles_withLength (profiles_withSixteen profiles_destDisable)) run
  | destRead => exact baselinesHold_of_body h (profiles_withLength (profiles_withSixteen fun _ _ _ => rfl)) run
  | portRead => exact baselinesHold_of_body h (profiles_withLength profiles_portRead) run
  | reportSet => exact baselinesHold_of_body h (profiles_withLength profiles_reportSet) run
  | eventsRead => exact baselinesHold_of_body h (profiles_withLength fun _ _ => rfl) run
  | eventsClear => exact baselinesHold_of_body h (profiles_withLength profiles_eventsClear) run
  | restart => exact baselinesHold_execRestart h run
  | nextPickExpiry => refine baselinesHold_of_next h ?_ run; split <;> rfl
  | pickPulseEnd => refine baselinesHold_of_next h ?_ run; split <;> rfl
  | pickWindowExpiry =>
    refine baselinesHold_of_next h ?_ run
    split
    · dsimp only
      split <;> simp
    · rfl
  | sampleExpiry => refine baselinesHold_of_next h ?_ run; split <;> rfl
  | gateLimitExpiry => refine baselinesHold_of_next h ?_ run; split <;> simp
  | imageDeadlineExpiry =>
    refine baselinesHold_of_next h ?_ run
    split
    · rfl
    · split
      · dsimp only
        split <;> simp
      · rfl
  | exitWindowExpiry => refine baselinesHold_of_next h ?_ run; split <;> simp
  | divertEnd => refine baselinesHold_of_next h ?_ run; split <;> rfl
  | endOfSpinup =>
    refine baselinesHold_of_next h ?_ run
    split
    · split <;> rfl
    · rfl
  | idleCountdownExpiry => refine baselinesHold_of_next h ?_ run; split <;> simp
  | lead =>
    refine baselinesHold_of_next h ?_ run
    split
    · rfl
    · dsimp only
      split <;> simp
  | trail =>
    cases run
    split
    · exact h
    · dsimp only
      split
      · exact h
      · split
        · exact baselinesHold_of_profiles (profiles_kickPorts _) (baselinesHold_attributeTrail _ _ h)
        · exact h
  | exitLead =>
    refine baselinesHold_of_next h ?_ run
    split
    · rfl
    · dsimp only
      split <;> simp
  | exitTrail =>
    refine baselinesHold_of_next h ?_ run
    split
    · rfl
    · dsimp only
      split
      · rfl
      · split <;> simp
  | coverActive =>
    refine baselinesHold_of_next h ?_ run
    split
    · rfl
    · unfold coverOpened
      rw [profiles_kickPorts]
      split <;> simp
  | coverInactive => refine baselinesHold_of_next h ?_ run; split <;> rfl
  | trayEdge => refine baselinesHold_of_next h ?_ run; split <;> rfl
  | spareEdge =>
    refine baselinesHold_of_next h ?_ run
    split
    · split <;> simp
    · rfl
  | linkStateChange => exact baselinesHold_of_next h (State.modLane_profiles s _ _) run
  | strip => exact baselinesHold_of_next h (profiles_laneFrameArrives _ _ s) run
  | patch => exact baselinesHold_of_next h (profiles_laneFrameArrives _ _ s) run
  | malformedFrame => exact baselinesHold_of_next h (profiles_laneFrameArrives _ _ s) run
  | pick =>
    refine baselinesHold_of_next h ?_ run
    split
    · unfold makePick
      rw [profiles_kickPorts]
      split <;> simp
    · rfl
  | settlement => refine baselinesHold_of_next h ?_ run; simp
  | queueWaitRetry => refine baselinesHold_of_next h ?_ run; split <;> simp
  | drainCompletion => refine baselinesHold_of_next h ?_ run; simp
  | batchClosure => refine baselinesHold_of_next h ?_ run; simp
  | endOfAbort => refine baselinesHold_of_next h ?_ run; simp
  | frameEnd => refine baselinesHold_of_next h ?_ run; split <;> simp
  | frameBoundary => refine baselinesHold_of_next h ?_ run; simp
  | pendingLostNotice => refine baselinesHold_of_next h ?_ run; simp
  | portLinkUp => refine baselinesHold_of_next h ?_ run; simp
  | portLinkDown => refine baselinesHold_of_next h ?_ run; simp

/-- With no command waiting the profiles stay as they are (log 2). -/
theorem profiles_idle (s : State) : (idle s).profiles = s.profiles := by
  unfold idle
  split
  · rw [tick_frame]
  · rfl

/-- Settles O6: a step runs a command or idles, and each keeps the baselines in their bands. -/
theorem stepKeepsBaselinesInBand : Obligations.StepKeepsBaselinesInBand := by
  intro s t h run
  unfold step at run
  split at run
  · exact baselinesHold_of_next h (profiles_idle s) run
  next rest _ => exact baselinesHold_exec (s := { s with pending := rest }) h run


end Sys2Proof.Machine
end

section
/-!
PROOF. The sheet measurement unit (chapter 2): the findings by length, the move of the working baseline, and the sample
accumulator with its guards at both ends.
-/

namespace Sys2Proof.Machine

/-! ### The findings of a trail computation (R26, R27, R29) -/

/-- Settles O44: each finding is what the record had or its own test, and the tests for LONG and SHORT exclude each other. -/
theorem lengthFindings : Obligations.LengthFindings := by
  intro a len f hlen long short q
  have isLong : q.long = true ↔ 0 < a.nominal ∧ len > a.nominal + a.tolerance := by simp [q, trailFindings, long]
  have isShort : q.short = true ↔ 0 < a.nominal ∧ len + a.tolerance < a.nominal := by simp [q, trailFindings, short]
  have isDouble : q.double = true ↔ f.double = true ∨ a.runLength ≤ a.longest := by simp [q, trailFindings]
  have isNoSample : q.noSample = true ↔ f.noSample = true ∨ a.n = 0 := by simp [q, trailFindings]
  refine ⟨isLong, isShort, ?_, fun beyond => ?_, isDouble, isNoSample, fun noDouble counted runs double none => ?_, rfl⟩
  · rw [isLong, isShort]
    omega
  · rw [Bool.eq_false_iff, Ne, isLong]
    omega
  · simp only [isDouble, isNoSample, noDouble, counted, Bool.false_eq_true, false_or] at double none
    omega

/-! ### The working baseline (R37) -/

theorem moveBaseline_of_le {mean : Nat} {p : Profile} (h : p.working ≤ mean) :
    moveBaseline mean p = max (bandLow p.b0) (min (bandHigh p.b0) (p.working + (mean - p.working) / 16)) := by
  have toward : ((mean : Int) - p.working).tdiv 16 = ((mean - p.working) / 16 : Nat) := by
    rw [Int.tdiv_eq_ediv_of_nonneg (by omega)]
    omega
  rw [moveBaseline, toward]
  rfl

theorem moveBaseline_of_lt {mean : Nat} {p : Profile} (h : mean < p.working) :
    moveBaseline mean p = max (bandLow p.b0) (min (bandHigh p.b0) (p.working - (p.working - mean) / 16)) := by
  have toward : ((mean : Int) - p.working).tdiv 16 = -((p.working - mean) / 16 : Nat) := by
    rw [← Int.neg_sub, Int.neg_tdiv, Int.tdiv_eq_ediv_of_nonneg (by omega)]
    omega
  rw [moveBaseline, toward]
  congr 2
  omega

/-- Settles O46: the two directions of the move, each inside the band. -/
theorem baselineMovesSixteenth : Obligations.BaselineMovesSixteenth := by
  intro mean p low high hmean above below w
  have w_up : p.working ≤ mean → w = _ := moveBaseline_of_le
  have w_down : mean < p.working → w = _ := moveBaseline_of_lt
  unfold bandLow bandHigh at w_up w_down
  rcases Nat.lt_or_ge mean p.working with down | up
  · have := w_down down
    omega
  · have := w_up up
    omega

/-! ### The samples counted (R20, R21) -/

/-- The accumulator after the counted samples `xs`, each with its baseline (R20, R21). -/
def Accumulator.countAll (xs : List (Nat × Nat)) (a : Accumulator) : Accumulator :=
  xs.foldl (fun b x => b.count x.2 x.1) a

theorem Accumulator.countAll_append (xs : List (Nat × Nat)) (x : Nat × Nat) (a : Accumulator) :
    a.countAll (xs ++ [x]) = (a.countAll xs).count x.2 x.1 := by
  simp [countAll]

/-- Counting keeps the sheet, its settings, m and the delay line. -/
theorem Accumulator.countAll_frame (xs : List (Nat × Nat)) (a : Accumulator) :
    a.countAll xs = { a with
      n := (a.countAll xs).n, sum := (a.countAll xs).sum, run := (a.countAll xs).run
      longest := (a.countAll xs).longest } := by
  induction xs using List.reverseRecOn with
  | nil => rfl
  | append_singleton xs x ih =>
    rw [countAll_append, count, ih]

theorem Accumulator.countAll_n (xs : List (Nat × Nat)) (a : Accumulator) : (a.countAll xs).n = a.n + xs.length := by
  induction xs using List.reverseRecOn with
  | nil => rfl
  | append_singleton xs x ih => simp [countAll_append, count, ih, Nat.add_assoc]

theorem Accumulator.countAll_sum (xs : List (Nat × Nat)) (a : Accumulator) :
    (a.countAll xs).sum = a.sum + (xs.map Prod.fst).sum := by
  induction xs using List.reverseRecOn with
  | nil => rfl
  | append_singleton xs x ih => simp [countAll_append, count, ih, Nat.add_assoc]

/-- Whether `k` samples in a row, from place `j` of `xs` on, are over (R20). -/
def overRun (threshold : Nat) (xs : List (Nat × Nat)) (j k : Nat) : Prop :=
  j + k ≤ xs.length ∧ ∀ x ∈ (xs.drop j).take k, sampleOver threshold x.2 x.1 = true

theorem overRun_zero (threshold : Nat) (xs : List (Nat × Nat)) : overRun threshold xs 0 0 :=
  ⟨Nat.zero_le _, by simp⟩

/-- A run over the samples before the last is a run. -/
theorem overRun_append_of_le {threshold : Nat} {xs : List (Nat × Nat)} {j k : Nat} (x : Nat × Nat)
    (h : j + k ≤ xs.length) : overRun threshold (xs ++ [x]) j k ↔ overRun threshold xs j k := by
  have same : ((xs ++ [x]).drop j).take k = (xs.drop j).take k := by
    rw [List.drop_append_of_le_length (by omega), List.take_append_of_le_length (by simp; omega)]
  unfold overRun
  rw [same, List.length_append]
  constructor <;> rintro ⟨-, isOver⟩
  · exact ⟨h, isOver⟩
  · exact ⟨by omega, isOver⟩

/-- A run that ends with the last sample is a run before it, and that sample over. -/
theorem overRun_append_end {threshold : Nat} {xs : List (Nat × Nat)} {j k : Nat} (x : Nat × Nat)
    (h : j + k = xs.length) :
    overRun threshold (xs ++ [x]) j (k + 1) ↔ overRun threshold xs j k ∧ sampleOver threshold x.2 x.1 = true := by
  have whole : ((xs ++ [x]).drop j).take (k + 1) = (xs.drop j).take k ++ [x] := by
    rw [List.drop_append_of_le_length (by omega), List.take_of_length_le (by simp; omega),
      List.take_of_length_le (by simp; omega)]
  unfold overRun
  rw [whole]
  simp only [List.length_append, List.length_singleton, List.mem_append, List.mem_singleton, or_imp, forall_and,
    forall_eq]
  constructor
  · rintro ⟨-, isOver, last⟩
    exact ⟨⟨by omega, isOver⟩, last⟩
  · rintro ⟨⟨-, isOver⟩, last⟩
    exact ⟨by omega, isOver, last⟩

/-- R21: the run is that of the last counted samples. -/
theorem Accumulator.le_countAll_run {a : Accumulator} (h : a.run = 0) (xs : List (Nat × Nat)) (k : Nat) :
    k ≤ (a.countAll xs).run ↔ ∃ j, j + k = xs.length ∧ overRun a.threshold xs j k := by
  induction xs using List.reverseRecOn generalizing k with
  | nil =>
    have empty : (a.countAll []).run = 0 := h
    rw [empty]
    constructor
    · intro hk
      obtain rfl : k = 0 := by omega
      exact ⟨0, rfl, overRun_zero _ _⟩
    · rintro ⟨j, hj, -⟩
      simp at hj
      omega
  | append_singleton xs x ih =>
    have threshold : (a.countAll xs).threshold = a.threshold := by rw [countAll_frame]
    rw [countAll_append, count]
    dsimp only
    rw [threshold]
    cases k with
    | zero =>
      simp only [Nat.zero_le, true_iff]
      exact ⟨(xs ++ [x]).length, rfl, by simp [overRun]⟩
    | succ k =>
      have shift : ∀ j, j + (k + 1) = (xs ++ [x]).length ↔ j + k = xs.length := fun j => by simp; omega
      by_cases isOver : sampleOver a.threshold x.2 x.1 = true
      · rw [if_pos isOver, Nat.add_le_add_iff_right, ih]
        refine exists_congr fun j => ?_
        rw [shift]
        refine and_congr_right fun hj => ?_
        rw [overRun_append_end x hj, and_iff_left isOver]
      · rw [if_neg isOver]
        constructor
        · intro hk
          omega
        · rintro ⟨j, hj, run⟩
          rw [shift] at hj
          exact absurd ((overRun_append_end x hj).mp run).2 isOver

/-- R21: the longest run is that of the counted samples. -/
theorem Accumulator.le_countAll_longest {a : Accumulator} (h : a.run = 0) (hl : a.longest = 0)
    (xs : List (Nat × Nat)) (k : Nat) : k ≤ (a.countAll xs).longest ↔ ∃ j, overRun a.threshold xs j k := by
  induction xs using List.reverseRecOn with
  | nil =>
    have empty : (a.countAll []).longest = 0 := hl
    rw [empty]
    constructor
    · intro hk
      obtain rfl : k = 0 := by omega
      exact ⟨0, overRun_zero _ _⟩
    · rintro ⟨j, hj, -⟩
      simp at hj
      omega
  | append_singleton xs x ih =>
    have run := le_countAll_run h (xs ++ [x]) k
    rw [countAll_append] at run ⊢
    have longest : ((a.countAll xs).count x.2 x.1).longest =
        max (a.countAll xs).longest ((a.countAll xs).count x.2 x.1).run := rfl
    rw [longest, le_max_iff, ih, run]
    constructor
    · rintro (⟨j, before⟩ | ⟨j, -, last⟩)
      · exact ⟨j, (overRun_append_of_le x before.1).mpr before⟩
      · exact ⟨j, last⟩
    · rintro ⟨j, found⟩
      have bound := found.1
      rw [List.length_append, List.length_singleton] at bound
      rcases Nat.lt_or_ge xs.length (j + k) with beyond | inside
      · exact .inr ⟨j, by rw [List.length_append, List.length_singleton]; omega, found⟩
      · exact .inl ⟨j, (overRun_append_of_le x inside).mp found⟩

/-! ### The delay line (R19) -/

/-- The samples that a list of readings counts with guards `e`, each with the baseline of the reading `e` places later. -/
def countedOf (e : Nat) (reads : List (Nat × Nat)) : List (Nat × Nat) :=
  ((reads.map Prod.snd).drop e).zip ((reads.map Prod.fst).drop (2 * e))

/-- The samples that wait in the delay line (R19). -/
def delayedOf (e : Nat) (reads : List (Nat × Nat)) : List Nat :=
  (reads.map Prod.snd).drop (max e (reads.length - e))

theorem length_countedOf (e : Nat) (reads : List (Nat × Nat)) : (countedOf e reads).length = reads.length - 2 * e := by
  simp [countedOf]
  omega

theorem length_delayedOf (e : Nat) (reads : List (Nat × Nat)) :
    (delayedOf e reads).length = min e (reads.length - e) := by
  simp [delayedOf]
  omega

theorem countedOf_append_of_lt {e : Nat} {reads : List (Nat × Nat)} (x : Nat × Nat) (h : reads.length < 2 * e) :
    countedOf e (reads ++ [x]) = countedOf e reads := by
  have none : ∀ ys : List (Nat × Nat), ys.length ≤ 2 * e → countedOf e ys = [] := fun ys hy => by
    rw [← List.length_eq_zero_iff, length_countedOf]
    omega
  rw [none _ (by simp; omega), none _ (by omega)]

/-- R19: with the delay line full, the oldest of its samples is counted by the newest reading's baseline. -/
theorem countedOf_append_of_ge {e : Nat} {reads : List (Nat × Nat)} (x : Nat × Nat) (h : 2 * e ≤ reads.length) :
    ∃ oldest, (delayedOf e reads) ++ [x.2] = oldest :: delayedOf e (reads ++ [x]) ∧
      countedOf e (reads ++ [x]) = countedOf e reads ++ [(oldest, x.1)] := by
  have place : reads.length - e < ((reads ++ [x]).map Prod.snd).length := by simp
  refine ⟨((reads ++ [x]).map Prod.snd)[reads.length - e], ?_, ?_⟩
  · have old : delayedOf e reads ++ [x.2] = ((reads ++ [x]).map Prod.snd).drop (reads.length - e) := by
      rw [delayedOf, max_eq_right (by omega), List.map_append,
        List.drop_append_of_le_length (by rw [List.length_map]; omega)]
      rfl
    have new : delayedOf e (reads ++ [x]) = ((reads ++ [x]).map Prod.snd).drop (reads.length - e + 1) := by
      rw [delayedOf, List.length_append, List.length_singleton, max_eq_right (by omega)]
      congr 1
      omega
    rw [old, new]
    exact List.drop_eq_getElem_cons place
  · refine List.ext_getElem ?_ fun i hi _ => ?_
    · rw [length_countedOf, List.length_append, List.length_append, length_countedOf, List.length_singleton,
        List.length_singleton]
      omega
    · rw [length_countedOf, List.length_append, List.length_singleton] at hi
      rw [List.getElem_append]
      split
      case isTrue earlier =>
        rw [length_countedOf] at earlier
        simp only [countedOf, List.getElem_zip, List.getElem_drop, List.getElem_map]
        rw [List.getElem_append_left (by omega), List.getElem_append_left (by omega)]
      case isFalse last =>
        rw [length_countedOf] at last
        obtain rfl : i = reads.length - 2 * e := by omega
        have back : e + (reads.length - 2 * e) = reads.length - e := by omega
        have front : 2 * e + (reads.length - 2 * e) = reads.length := by omega
        simp [countedOf, back, front]

/-- R19 to R21: reading the samples one by one is counting those between the guards. -/
theorem Accumulator.foldl_read {a : Accumulator} (hm : a.m = 0) (hd : a.delay = []) (reads : List (Nat × Nat)) :
    reads.foldl (fun b x => b.read x.1 x.2) a = { a.countAll (countedOf a.guardE reads) with
      m := reads.length, delay := delayedOf a.guardE reads } := by
  induction reads using List.reverseRecOn with
  | nil =>
    obtain ⟨⟩ := a
    simp_all [countedOf, delayedOf, countAll]
  | append_singleton reads x ih =>
    have guard : (a.countAll (countedOf a.guardE reads)).guardE = a.guardE := by rw [countAll_frame]
    have filled := length_delayedOf a.guardE reads
    rw [List.foldl_append, ih, List.foldl_cons, List.foldl_nil, read]
    dsimp only
    rw [guard]
    split
    case isTrue leading =>
      have same : delayedOf a.guardE (reads ++ [x]) = delayedOf a.guardE reads := by
        rw [List.eq_nil_of_length_eq_zero (l := delayedOf a.guardE reads) (by omega)]
        refine List.eq_nil_of_length_eq_zero ?_
        rw [length_delayedOf, List.length_append, List.length_singleton]
        omega
      rw [same, countedOf_append_of_lt x (by omega), List.length_append, List.length_singleton, guard]
    case isFalse passed =>
      split
      case isTrue room =>
        have longer : delayedOf a.guardE (reads ++ [x]) = delayedOf a.guardE reads ++ [x.2] := by
          rw [delayedOf, delayedOf, List.length_append, List.length_singleton, max_eq_left (by omega),
            max_eq_left (by omega), List.map_append, List.drop_append_of_le_length (by rw [List.length_map]; omega)]
          rfl
        rw [longer, countedOf_append_of_lt x (by omega), List.length_append, List.length_singleton, guard]
      case isFalse full =>
        obtain ⟨oldest, line, counted⟩ := countedOf_append_of_ge (e := a.guardE) x (reads := reads) (by omega)
        rw [line, counted, countAll_append, List.length_append, List.length_singleton]
        simp only [count, guard]

/-- Settles O45: the accumulator is the count of the samples between the guards, whose n, sum and longest run are known. -/
theorem guardsDropBothEnds : Obligations.GuardsDropBothEnds := by
  intro g i p reads a smps counted
  have whole : a = { (openAccumulator g i p).countAll counted with
      m := reads.length, delay := delayedOf p.guardE reads } :=
    Accumulator.foldl_read (a := openAccumulator g i p) rfl rfl reads
  have length : counted.length = reads.length - 2 * p.guardE := length_countedOf p.guardE reads
  have n : a.n = counted.length := by
    rw [whole, Accumulator.countAll_n]
    exact Nat.zero_add _
  have sum : a.sum = (counted.map Prod.fst).sum := by
    rw [whole, Accumulator.countAll_sum]
    exact Nat.zero_add _
  refine ⟨by rw [whole], n, n.trans length, sum, ?_, fun k => ?_⟩
  · rw [whole]
    simp only [delayedOf, smps, List.length_map]
  · have longest : a.longest = ((openAccumulator g i p).countAll counted).longest := by rw [whole]
    rw [longest, Accumulator.le_countAll_longest rfl rfl]
    unfold overRun sampleOver
    simp only [Bool.or_eq_true, decide_eq_true_eq]
    constructor
    · exact .inr
    · rintro (rfl | found)
      · exact ⟨0, by simp⟩
      · exact found

/-! ### Reset -/

theorem replyPlaces_reset (p : Port) : replyPlaces .reset p = 0 := by cases p <;> rfl

/-- Settles O8: the tables are empty, each lane and destination is as power-on leaves it, each baseline in its band. -/
theorem resetMeetsInvariants : Obligations.ResetMeetsInvariants := by
  have lane : ∀ l, State.reset.lane l = Lane.powerOn 0 false := fun l => by
    rw [State.reset, lane_powerOn]
    simp
  have dest : ∀ d, State.reset.dest d = Dest.powerOn := fun d => by
    simp [State.reset, State.powerOn, State.dest]
  refine ⟨⟨.nil, by simp [State.reset, State.powerOn]⟩, ?_, ⟨rfl, rfl, rfl, .nil⟩, baselinesHold_powerOn _ _ _ _ _,
    fun d => ?_, ⟨?_, fun p => ?_⟩, fun l g picking => ?_⟩
  · refine ⟨Nat.zero_le _, Nat.zero_le _, Nat.zero_le _, Nat.zero_le _, fun l => ?_⟩
    rw [lane]
    exact ⟨Nat.zero_le _, Nat.zero_le _⟩
  · rw [dest]
    exact ⟨Nat.zero_le _, Nat.zero_le _⟩
  · exact Nat.zero_le _
  · rw [replyPlaces_reset]
    exact Nat.zero_le _
  · rw [lane] at picking
    cases picking

end Sys2Proof.Machine
end

section
/-!
PROOF. The cursor sheet that is dropped or separates (R87, R105, R109, R111, R112, R118, R143, R144): what is left of the
lane, the sheet and its batch.
-/

namespace Sys2Proof.Machine

/-! ### A dropped sheet -/

theorem lane_dropped (l : Fin 8) (r : Sheet) (s : State) : (dropped l r s).lane l = { s.lane l with
    settleOrder := (s.lane l).settleOrder.erase r.tag
    sampleDue := if (s.lane l).gateHolder = some r.tag then none else (s.lane l).sampleDue
    acc := if (s.lane l).gateHolder = some r.tag then .empty else (s.lane l).acc
    toHead := if (s.lane l).linkUp = true ∧ imagesComplete s r = false then (s.lane l).toHead ++ [withdrawFrame r.tag]
      else (s.lane l).toHead } :=
  State.lane_modLane_same (freedOf r s) l _

theorem sheet?_dropped (l : Fin 8) (r : Sheet) (s : State) (u : Tag) :
    (dropped l r s).sheet? u = if u = r.tag then none else s.sheet? u :=
  freedOf_sheet? r s u

theorem batch?_dropped (l : Fin 8) (r : Sheet) (s : State) (id : Nat) : (dropped l r s).batch? id = s.batch? id := rfl

/-- A batch's update finds the batch as it was or updated. -/
theorem batch?_modBatch_of_found {s : State} {k id : Nat} {b : Batch} {f : Batch → Batch} (hid : ∀ c, (f c).id = c.id)
    (found : s.batch? id = some b) : (s.modBatch k f).batch? id = some (if id = k then f b else b) := by
  by_cases same : id = k
  · rw [same] at found ⊢
    rw [State.batch?_modBatch_same s k f hid, found, if_pos rfl]
    rfl
  · rw [State.batch?_modBatch_other s f hid same, found, if_neg same]

/-- The active batch stays active while its lane queue, the drain cause, its lane and its state stay. -/
theorem activeWith_of_kept {s u : State} {l : Fin 8} {id : Nat} {rest : List Nat} {b c : Batch}
    (h : activeWith s l id rest b) (queue : (u.lane l).batchQueue = (s.lane l).batchQueue)
    (cause : (u.lane l).drainCause = (s.lane l).drainCause) (found : u.batch? id = some c) (lane : c.lane = b.lane)
    (state : c.state = b.state) : activeWith u l id rest c := by
  obtain ⟨queued, notBehind, -, own, active, aborts⟩ := h
  exact ⟨queue.trans queued, notBehind, found, lane.trans own, by rwa [state], by rwa [cause, state]⟩

theorem poke_of_ready {s : State} {l : Fin 8} {g : Tag} {rest : List Tag} (order : (s.lane l).settleOrder = g :: rest)
    (ready : cursorReady s g = true) (left : ((settleCursor l g s).lane l).settleOrder = rest) (once : g ∉ rest) :
    poke l s = poke l (settleCursor l g s) := by
  have gone : rest.head? ≠ some g := fun h => once (List.mem_of_head? h)
  unfold poke
  rw [order, left, List.length_cons, settleLoop, order]
  dsimp only
  rw [if_pos ready, left, if_neg gone]

section
variable {s : State} {l : Fin 8} {g : Tag} {rest : List Tag} {r : Sheet} {f : Batch → Batch}
  (order : (s.lane l).settleOrder = g :: rest) (found : s.sheet? g = some r) (wait : r.queueWait = [])
  (ready : cursorReady s g = true) (settles : settleCursor l g s = (dropped l r s).modBatch r.batch f)
include order found

/-- The settlement order that the dropped cursor sheet leaves. -/
theorem settleOrder_dropped : (((dropped l r s).modBatch r.batch f).lane l).settleOrder = rest := by
  rw [State.lane_modBatch, lane_dropped, order, State.tag_of_sheet? found, List.erase_cons_head]

include wait ready settles

theorem examine_drops_alone (alone : rest = []) : examine l s = (dropped l r s).modBatch r.batch f := by
  subst alone
  rw [examine, if_pos ((cursorWait_of_head order found).trans wait), poke_of_single order, if_pos ready, settles]

/-- R109: a dropped cursor sheet that leaves its lane with more to do. -/
theorem settlement_drops_alone (alone : rest = [])
    (busy : (s.lane l).state ≠ .draining ∨ (s.lane l).picking ≠ none ∨ (s.lane l).path ≠ []) :
    ∃ t, exec (.settlement l) s = .next t ∧ t.interior = ((dropped l r s).modBatch r.batch f).interior := by
  refine ⟨_, rfl, ?_⟩
  rw [interior_kickPorts, settleLane, examine_drops_alone order found wait ready settles alone, drainTest_of_not_drained]
  rw [Bool.eq_false_iff, Ne, drained_iff, State.lane_modBatch, lane_dropped]
  rintro ⟨draining, picking, path, -⟩
  rcases busy with busy | busy | busy
  · exact busy draining
  · exact busy picking
  · exact busy path

/-- R43, R109: a dropped cursor sheet that was the last thing in a DRAINING lane. -/
theorem settlement_drops_last (hid : ∀ c, (f c).id = c.id) (hlane : ∀ c, (f c).lane = c.lane)
    (hstate : ∀ c, (f c).state = c.state) (alone : rest = []) (draining : (s.lane l).state = .draining)
    (picking : (s.lane l).picking = none) (path : (s.lane l).path = []) {id : Nat} {queued : List Nat} {c : Batch}
    (active : activeWith s l id queued c) :
    ∃ t, exec (.settlement l) s = .next t ∧
      t.interior = (drainDone l id queued ((dropped l r s).modBatch r.batch f)).interior := by
  have empty := settleOrder_dropped (f := f) order found
  have drained : (((dropped l r s).modBatch r.batch f).lane l).drained = true := by
    rw [drained_iff]
    refine ⟨?_, ?_, ?_, empty.trans alone⟩
    · rw [State.lane_modBatch, lane_dropped, draining]
    · rw [State.lane_modBatch, lane_dropped, picking]
    · rw [State.lane_modBatch, lane_dropped, path]
  have still : activeWith ((dropped l r s).modBatch r.batch f) l id queued (if id = r.batch then f c else c) := by
    refine activeWith_of_kept active ?_ ?_ (batch?_modBatch_of_found hid active.2.2.1) ?_ ?_
    · rw [State.lane_modBatch, lane_dropped]
    · rw [State.lane_modBatch, lane_dropped]
    · split
      · exact hlane c
      · rfl
    · split
      · exact hstate c
      · rfl
  refine ⟨_, rfl, ?_⟩
  rw [interior_kickPorts, settleLane, examine_drops_alone order found wait ready settles alone,
    interior_drainTest_of_drained still drained]

/-- R105: behind a dropped cursor sheet the next is examined in the same event. -/
theorem settlement_drops_next (once : g ∉ rest)
    (next : ∀ h q, rest.head? = some h → s.sheet? h = some q → q.queueWait = []) :
    ∃ t v, exec (.settlement l) s = .next t ∧ exec (.settlement l) ((dropped l r s).modBatch r.batch f) = .next v ∧
      t.interior = v.interior := by
  have left := settleOrder_dropped (f := f) order found
  have moved : poke l s = poke l ((dropped l r s).modBatch r.batch f) := by
    rw [poke_of_ready order ready (by rw [settles, left]) once, settles]
  have idle : cursorWait ((dropped l r s).modBatch r.batch f) l = [] := by
    cases behind : rest with
    | nil => simp only [cursorWait, left, behind]
    | cons h more =>
      have other : h ≠ r.tag := fun e => once (by rw [behind, ← State.tag_of_sheet? found, e]; exact List.mem_cons_self)
      have same : ((dropped l r s).modBatch r.batch f).sheet? h = s.sheet? h := by
        rw [State.sheet?_modBatch, sheet?_dropped, if_neg other]
      cases live : s.sheet? h with
      | none => simp only [cursorWait, left, behind, same, live]
      | some q => rw [cursorWait_of_head (left.trans behind) (same.trans live), next h q (by rw [behind]; rfl) live]
  refine ⟨_, _, rfl, rfl, ?_⟩
  rw [interior_kickPorts, interior_kickPorts, settleLane, settleLane, examine, examine, if_pos idle,
    if_pos ((cursorWait_of_head order found).trans wait), moved]

end

/-! ### Entries placed at their destinations (R118, R168) -/

/-- `t` is `s` but for flags, what they make known, and the destinations. -/
def onlyPlaces (s t : State) : Prop :=
  t = { s with
    dests := t.dests, flags := t.flags, notices := t.notices, pendingLost := t.pendingLost, lostCount := t.lostCount }

theorem onlyPlaces.trans {s t u : State} (h : onlyPlaces s t) (k : onlyPlaces t u) : onlyPlaces s u := by
  unfold onlyPlaces at *
  rw [h] at k
  exact k

theorem onlyPlaces.read {α : Type} {s t : State} (h : onlyPlaces s t) (part : State → α)
    (hp : ∀ u d f n p k, part { u with dests := d, flags := f, notices := n, pendingLost := p, lostCount := k } = part u) :
    part t = part s := by
  rw [show t = _ from h]
  exact hp s _ _ _ _ _

/-- A raised flag and its notice leave the destinations. -/
theorem raise_frame (f : Flag) (s : State) : onlyPlaces s (raise f s) ∧ (raise f s).dests = s.dests := by
  unfold raise
  split
  · exact ⟨rfl, rfl⟩
  · dsimp only
    split
    · unfold formNotice
      split
      · exact ⟨rfl, rfl⟩
      · split
        · exact ⟨rfl, rfl⟩
        · unfold loseNotice
          split
          · exact ⟨rfl, rfl⟩
          · dsimp only
            split <;> exact ⟨rfl, rfl⟩
    · exact ⟨rfl, rfl⟩

theorem dest_raise (f : Flag) (s : State) (d : Fin 16) : (raise f s).dest d = s.dest d := by
  simp only [State.dest, (raise_frame f s).2]

theorem dest_modDest (s : State) (d x : Fin 16) (f : Dest → Dest) :
    (s.modDest d f).dest x = if x = d then f (s.dest x) else s.dest x := by
  by_cases same : x = d
  · rw [same, State.dest_modDest_same, if_pos rfl]
  · rw [State.dest_modDest_other s f same, if_neg same]

/-- R118: an entry joins its destination's queue. -/
theorem dest_appendEntry (s : State) (e : Fin 16 × DeliveryEntry) (x : Fin 16) :
    (appendEntry s e).dest x =
      if x = e.1 then { s.dest x with queue := (s.dest x).queue ++ [e.2] } else s.dest x := by
  unfold appendEntry
  dsimp only
  split
  · rw [dest_raise, dest_modDest]
  · rw [dest_modDest]

theorem onlyPlaces_appendEntry (s : State) (e : Fin 16 × DeliveryEntry) : onlyPlaces s (appendEntry s e) := by
  unfold appendEntry
  dsimp only
  have placed : onlyPlaces s (s.modDest e.1 (fun x => { x with queue := x.queue ++ [e.2] })) := rfl
  split
  · exact placed.trans (raise_frame _ _).1
  · exact placed

/-- R168: of the flags an entry can set WARN alone, and NOTICE_LOST with its notice. -/
theorem flag_appendEntry (s : State) (e : Fin 16 × DeliveryEntry) {f : Flag} (warn : ∀ x, f ≠ .dest x .warn)
    (lost : f ≠ noticeLostFlag) : (appendEntry s e).flag f = s.flag f := by
  unfold appendEntry
  dsimp only
  split
  · rw [flag_raise_other _ (warn e.1) lost]
    rfl
  · rfl

/-- R118: all that placing a sheet's entries does to the destinations. -/
theorem dest_appendEntries (es : List (Fin 16 × DeliveryEntry)) (s : State) (x : Fin 16) :
    (es.foldl appendEntry s).dest x = { s.dest x with
      queue := (s.dest x).queue ++ (es.filter (fun y => decide (y.1 = x))).map Prod.snd } := by
  induction es generalizing s with
  | nil => simp
  | cons e rest ih =>
    rw [List.foldl_cons, ih, dest_appendEntry]
    by_cases same : x = e.1
    · subst same
      simp
    · simp [same, Ne.symm same]

theorem onlyPlaces_appendEntries (es : List (Fin 16 × DeliveryEntry)) (s : State) :
    onlyPlaces s (es.foldl appendEntry s) := by
  induction es generalizing s with
  | nil => rfl
  | cons e rest ih => exact (onlyPlaces_appendEntry s e).trans (ih _)

theorem flag_appendEntries (es : List (Fin 16 × DeliveryEntry)) (s : State) {f : Flag} (warn : ∀ x, f ≠ .dest x .warn)
    (lost : f ≠ noticeLostFlag) : (es.foldl appendEntry s).flag f = s.flag f := by
  induction es generalizing s with
  | nil => rfl
  | cons e rest ih => rw [List.foldl_cons, ih, flag_appendEntry s e warn lost]

/-! ### The action of a separator (R144) -/

/-- A batch whose separator has matched; `ends` is whether its action ends the feeding (R42, R144). -/
def Batch.broken (ends : Prop) [Decidable ends] (b : Batch) : Batch := { b with
  breakPending := true, state := if ends ∧ b.state = .feeding then .draining else b.state }

/-- R42, R144: all that an applying match does to the sheet's batch and lane. -/
theorem applyMatch_of_active {s : State} {l : Fin 8} {g : Tag} {q : Sheet} (i : Fin 8) (found : s.sheet? g = some q)
    (active : s.activeBatch l = some q.batch) :
    applyMatch l g i s = ((s.modSheet g (fun x => { x with separatorMatch := some i })).modBatch q.batch
      (Batch.broken ((s.separators[i.val]).action = .batchBreak))).modLane l
        (if (s.separators[i.val]).action = .batchBreak then Lane.fedOut else id) := by
  set marked := (s.modSheet g (fun x => { x with separatorMatch := some i })).modBatch q.batch
    (fun b => { b with breakPending := true }) with hmarked
  unfold applyMatch
  simp only [found]
  cases action : (s.separators[i.val]).action with
  | docBreak =>
    have same : Batch.broken (SeparatorAction.docBreak = .batchBreak) = fun b => { b with breakPending := true } := by
      funext b
      simp [Batch.broken]
    rw [same, if_neg SeparatorAction.noConfusion]
    exact (State.modLane_id _ l).symm
  | batchBreak =>
    have still : marked.activeBatch l = some q.batch := by
      rw [hmarked, activeBatch_modBatch _ _ _ (fun _ => by rfl) (fun _ => by rfl)]
      exact active
    dsimp only
    rw [if_pos rfl, ← hmarked, endFeeding_of_active still, hmarked, State.modBatch_modBatch _ _ _ _ (fun _ => by rfl)]
    congr 2
    funext b
    by_cases feeding : b.state = .feeding <;> simp [Batch.broken, feeding]

/-! ### The separator at the cursor (R118, R143) -/

/-- R106, R110, R143: a clean ready cursor sheet that a pattern matches. -/
structure Separates (s : State) (l : Fin 8) (g : Tag) (r : Sheet) (b : Batch) (i : Fin 8) : Prop where
  order : (s.lane l).settleOrder = [g]
  found : s.sheet? g = some r
  batch : s.batch? r.batch = some b
  wait : r.queueWait = []
  state : (s.lane l).state = .feeding
  path : (s.lane l).path ≠ []
  gate : (s.lane l).gateHolder ≠ some g
  active : s.activeBatch l = some r.batch
  live : b.state ≠ .aborted
  divert : r.divertDone = false
  trail : r.trail.isSome = true
  images : imagesComplete s r = true ∨ r.imageTimeout = true
  clean : r.findings = .empty
  fits : separatorMatch s r = some i

section
variable {s : State} {l : Fin 8} {g : Tag} {r : Sheet} {b : Batch} {i : Fin 8} (h : Separates s l g r b i)
include h

theorem Separates.batchOf_eq : s.batchOf r.batch = b := by
  rw [State.batchOf, h.batch]
  rfl

theorem Separates.cursorReady : cursorReady s g = true := by
  have images : (imagesComplete s r || r.imageTimeout) = true := by simpa using h.images
  simp [Sys2Proof.Machine.cursorReady, h.found, sheetReady, h.trail, images, divertWaiting, h.clean, Findings.empty,
    Findings.measurement]

/-- R110: none of the earlier steps of the decision holds for it. -/
theorem Separates.decides : settleCursor l g s =
    (let ready := s.modSheet g (fun q => { q with state := .ready })
     if (s.separators[i.val]).keep then routeSheet l { r with state := .ready } (some i) ready
     else settleSeparator l g r.batch i ready) := by
  have stays : ¬ (r.findings.jam || batchAborting s r) = true := by
    simp [batchAborting, h.batchOf_eq, h.live, h.clean, Findings.empty]
  have undiverted : ¬ r.divertDone = true := by simp [h.divert]
  have unheld : ¬ holdReason s r = true := by simp [holdReason, h.clean, Findings.empty, Findings.measurement]
  have fits : separatorMatch (s.modSheet g (fun q => { q with state := .ready })) { r with state := .ready } = some i :=
    h.fits
  have tag := State.tag_of_sheet? h.found
  rw [settleCursor_of_sheet? l h.found]
  unfold decideOutcome
  rw [if_neg (by exact stays), if_neg (by exact undiverted), if_neg (by exact unheld), fits]
  dsimp only
  rw [tag]
  rfl

/-- R118: the settlement left of a released separator, its lane still busy. -/
theorem Separates.settles {u : State} (settled : settleCursor l g s = u) (path : (u.lane l).path ≠ []) :
    exec (.settlement l) s = .next (kickPorts u) := by
  have examined : examine l s = u := by
    rw [examine, if_pos ((cursorWait_of_head h.order h.found).trans h.wait), poke_of_single h.order,
      if_pos h.cursorReady, settled]
  have lane : settleLane l s = u := by
    rw [settleLane, examined, drainTest_of_not_drained (drained_of_path path)]
  rw [← lane]
  rfl

end

/-! ### What a released separator leaves -/

/-- The cursor sheet's record once it has left the settlement order (R95, R109). -/
def Sheet.outOfOrder (q : Sheet) : Sheet := { q with state := .ready, reserve := 0, imageDeadline := none, queueWait := [] }

/-- The state with the cursor sheet, its record `r`, out of lane `l`'s settlement order, its reserve returned. -/
def orderLeft (l : Fin 8) (g : Tag) (r : Sheet) (s : State) : State :=
  ({ s.modLane l (fun x => { x with settleOrder := [] }) with
    free := s.free + r.reserve, reserved := s.reserved - r.reserve } : State).modSheet g Sheet.outOfOrder

/-- A lane whose only sheet has settled as a separator (R42, R118). -/
def Lane.separated (ends : Prop) [Decidable ends] (x : Lane) : Lane := { x with
  settleOrder := []
  state := if ends then .draining else x.state
  haltReason := if ends then .none else x.haltReason
  spinTarget := if ends then none else x.spinTarget
  spinRemaining := if ends then none else x.spinRemaining
  drainCause := if ends ∧ x.drainCause ≠ .abort then .feedEnd else x.drainCause }

theorem Lane.separated_eq (ends : Prop) [Decidable ends] {x : Lane} (feeding : x.state = .feeding) :
    (if ends then Lane.fedOut else id) { x with settleOrder := [] } = x.separated ends := by
  by_cases h : ends
  · rw [if_pos h]
    by_cases abort : x.drainCause = .abort <;> simp [fedOut, separated, feeding, h, abort]
  · rw [if_neg h]
    simp [separated, h]

/-- A batch with a separator of it released (R109, R144). -/
def Batch.separated (ends : Prop) [Decidable ends] (b : Batch) : Batch := { b with
  settled := min (b.settled + 1) 65535, released := min (b.released + 1) 65535, breakPending := true
  state := if ends ∧ b.state = .feeding then .draining else b.state }

section
variable {s : State} {l : Fin 8} {g : Tag} {r : Sheet} {b : Batch} {i : Fin 8} (h : Separates s l g r b i)
include h

theorem Separates.leaveOrder_eq :
    leaveOrder l g (s.modSheet g (fun q => { q with state := .ready })) = orderLeft l g r s := by
  have ready : (s.modSheet g (fun q => { q with state := .ready })).sheet? g = some { r with state := .ready } :=
    (State.sheet?_modSheet_same s g _ (fun _ => by rfl)).trans (by rw [h.found]; rfl)
  have lane : s.modLane l (fun x => { x with
      settleOrder := x.settleOrder.erase g
      sampleDue := if x.gateHolder = some g then none else x.sampleDue
      acc := if x.gateHolder = some g then .empty else x.acc }) = s.modLane l (fun x => { x with settleOrder := [] }) :=
    State.modLane_congr s l (by simp [h.order, h.gate])
  rw [leaveOrder_of_sheet? l ready]
  have once := State.modSheet_modSheet ({ s.modLane l (fun x => { x with settleOrder := [] }) with
    free := s.free + r.reserve, reserved := s.reserved - r.reserve } : State) g (fun q => { q with state := .ready })
      (fun q => { q with reserve := 0, imageDeadline := none, queueWait := [] }) (fun _ => rfl)
  refine Eq.trans ?_ once
  rw [← lane]
  rfl

theorem Separates.sheet?_orderLeft : (orderLeft l g r s).sheet? g = some r.outOfOrder := by
  rw [orderLeft, State.sheet?_modSheet_same _ _ _ (fun _ => by rfl)]
  exact congrArg (Option.map Sheet.outOfOrder) h.found

omit h in
theorem freedOf_modSheet (r : Sheet) (u : State) (f : Sheet → Sheet) (hf : ∀ q, (f q).tag = q.tag) :
    freedOf r (u.modSheet r.tag f) = freedOf r u := by
  simp only [freedOf, State.modSheet]
  rw [filter_map_tag_ne r.tag f hf]

omit h in
/-- The record freed once it is out of the settlement order is the record freed, and out of the order. -/
theorem freedOf_orderLeft {q : Sheet} (tag : q.tag = g) (same : r.tag = g) (front : q.front = r.front)
    (back : q.back = r.back) (reserve : q.reserve = 0) :
    freedOf q (orderLeft l g r s) = (freedOf r s).modLane l (fun x => { x with settleOrder := [] }) := by
  subst tag
  rw [orderLeft, freedOf_modSheet _ _ _ (fun _ => by rfl)]
  simp only [freedOf, front, back, reserve, same, Nat.add_zero, Nat.sub_zero, Nat.add_right_comm s.free]
  rfl

/-- R118, R144: an applying match on the sheet that has left the order. -/
theorem Separates.applyMatch_eq {u : State} {q : Sheet} (found : u.sheet? g = some q) (batch : q.batch = r.batch)
    (lane : u.lane l = { s.lane l with settleOrder := [] }) (separators : u.separators = s.separators)
    (active : u.activeBatch l = some r.batch) :
    applyMatch l g i u = ((u.modSheet g (fun x => { x with separatorMatch := some i })).modBatch r.batch
      (Batch.broken ((s.separators[i.val]).action = .batchBreak))).setLane l
        ((s.lane l).separated ((s.separators[i.val]).action = .batchBreak)) := by
  rw [← batch] at active ⊢
  rw [applyMatch_of_active i found active, State.modLane, State.lane_modBatch, State.lane_modSheet, lane, separators,
    Lane.separated_eq _ h.state]

omit h in
theorem lane_orderLeft : (orderLeft l g r s).lane l = { s.lane l with settleOrder := [] } :=
  State.lane_modLane_same s l (fun x => { x with settleOrder := [] })

theorem Separates.activeBatch_orderLeft : (orderLeft l g r s).activeBatch l = some r.batch := by
  rw [← h.active]
  exact activeBatch_of_parts (by rw [lane_orderLeft]) rfl

omit h in
theorem State.setLane_modBatch_modLane (u : State) (k : Nat) (f : Batch → Batch) (y : Lane → Lane) (x : Lane) :
    ((u.modLane l y).modBatch k f).setLane l x = (u.setLane l x).modBatch k f := by
  simp [State.modLane, State.setLane, State.modBatch]

omit h in
theorem Batch.separated_eq (ends : Prop) [Decidable ends] :
    Batch.broken ends ∘ (fun b => { b with settled := addSat b.settled 1, released := addSat b.released 1 }) =
      Batch.separated ends := rfl

/-- R118: without keep the separator's record is freed. -/
theorem Separates.frees (keep : (s.separators[i.val]).keep = false) :
    settleCursor l g s = ((freedOf r s).setLane l ((s.lane l).separated ((s.separators[i.val]).action = .batchBreak))).modBatch
      r.batch (Batch.separated ((s.separators[i.val]).action = .batchBreak)) := by
  have tag := State.tag_of_sheet? h.found
  set counted := (orderLeft l g r s).modBatch r.batch (fun b =>
    { b with settled := addSat b.settled 1, released := addSat b.released 1 }) with hcounted
  have active : counted.activeBatch l = some r.batch := by
    rw [hcounted, activeBatch_modBatch _ _ _ (fun _ => by rfl) (fun _ => by rfl), h.activeBatch_orderLeft]
  have live : counted.sheet? g = some r.outOfOrder := h.sheet?_orderLeft
  have matched := h.applyMatch_eq (u := counted) live rfl (lane_orderLeft (g := g) (r := r)) rfl active
  have found : (applyMatch l g i counted).sheet? g = some { r.outOfOrder with separatorMatch := some i } := by
    rw [matched]
    exact (State.sheet?_modSheet_same counted g _ (fun _ => by rfl)).trans (congrArg (Option.map _) live)
  have freed := freedOf_orderLeft (l := l) (s := s) (r := r) (q := { r.outOfOrder with separatorMatch := some i }) tag tag
    rfl rfl rfl
  have unmarked : freedOf { r.outOfOrder with separatorMatch := some i }
      (counted.modSheet r.tag (fun x => { x with separatorMatch := some i })) =
        freedOf { r.outOfOrder with separatorMatch := some i } counted :=
    freedOf_modSheet _ _ _ (fun _ => rfl)
  rw [h.decides]
  dsimp only
  rw [if_neg (by simp [keep]), settleSeparator, h.leaveOrder_eq, countReleased, freeRecord_of_sheet? found, matched]
  set ends := (s.separators[i.val]).action = .batchBreak
  set lane := (s.lane l).separated ends
  subst tag
  calc freedOf _ _ = ((freedOf { r.outOfOrder with separatorMatch := some i } (counted.modSheet r.tag
          (fun x => { x with separatorMatch := some i }))).modBatch r.batch (Batch.broken ends)).setLane l lane := rfl
    _ = (((freedOf { r.outOfOrder with separatorMatch := some i } (orderLeft l r.tag r s)).modBatch r.batch (fun b =>
          { b with settled := addSat b.settled 1, released := addSat b.released 1 })).modBatch r.batch
            (Batch.broken ends)).setLane l lane := congrArg
          (fun v : State => (v.modBatch r.batch (Batch.broken ends)).setLane l lane) unmarked
    _ = _ := by
      rw [freed, State.modBatch_modBatch _ _ _ _ (fun _ => by rfl), State.setLane_modBatch_modLane, Batch.separated_eq]

/-! ### The separator kept (R118) -/

/-- What the settlement of a kept separator writes into its record (R118, R144). -/
def Sheet.keptAs (i : Fin 8) (bank : Bank) (pending : Nat) (q : Sheet) : Sheet := { q with
  state := .released, outcome := some .released, kind := some .separator, separatorMatch := some i,
  routeBank := some bank, pendingDests := pending }

/-- What it makes of the batch (R109, R118, R144). -/
def Batch.keptFor (ends : Prop) [Decidable ends] (pending : Nat) (b : Batch) : Batch := { b.separated ends with
  deliveriesPending := min (b.deliveriesPending + pending) 65535 }

/-- R118: with keep and a route the separator is released with its entries placed. -/
theorem Separates.keeps (keep : (s.separators[i.val]).keep = true) {es : List (Fin 16 × DeliveryEntry)}
    (route : deliveryEntries s r .separator = some es) (room : fullDests s es = []) (nonempty : es ≠ []) :
    settleCursor l g s = (((es.foldl appendEntry (orderLeft l g r s)).modSheet g
      (Sheet.keptAs i s.activeBank es.length)).modBatch r.batch
        (Batch.keptFor ((s.separators[i.val]).action = .batchBreak) es.length)).setLane l
          ((s.lane l).separated ((s.separators[i.val]).action = .batchBreak)) := by
  set ready := s.modSheet g (fun q => { q with state := .ready }) with hready
  have kind : chooseKind { r with state := .ready } (some i) = .separator := by simp [chooseKind, h.clean]
  have routed : deliveryEntries ready { r with state := .ready } .separator = some es := route
  have full : fullDests ready es = [] := room
  set placed := es.foldl appendEntry (orderLeft l g r s) with hplaced
  have parts : onlyPlaces (orderLeft l g r s) placed := onlyPlaces_appendEntries es _
  have live : placed.sheet? g = some r.outOfOrder :=
    (parts.read (fun u => u.sheet? g) (fun _ _ _ _ _ _ => rfl)).trans h.sheet?_orderLeft
  set delivered := (placed.modSheet g (fun q => { q with
    state := .released, outcome := some .released, kind := some .separator, routeBank := some s.activeBank,
    pendingDests := es.length })).modBatch r.batch (fun b =>
      { b with deliveriesPending := addSat b.deliveriesPending es.length }) with hdelivered
  have delivers : deliver g .separator es (orderLeft l g r s) = delivered := by
    unfold deliver
    simp only [h.sheet?_orderLeft]
    rfl
  have found : (countReleased r.batch delivered).sheet? g = some { r.outOfOrder with
      state := .released, outcome := some .released, kind := some .separator, routeBank := some s.activeBank
      pendingDests := es.length } :=
    (State.sheet?_modSheet_same placed g _ (fun _ => by rfl)).trans (congrArg (Option.map _) live)
  have lane : (countReleased r.batch delivered).lane l = { s.lane l with settleOrder := [] } :=
    (parts.read (fun u => u.lane l) (fun _ _ _ _ _ _ => rfl)).trans (lane_orderLeft (g := g) (r := r))
  have active : (countReleased r.batch delivered).activeBatch l = some r.batch := by
    rw [countReleased, activeBatch_modBatch _ _ _ (fun _ => by rfl) (fun _ => by rfl), hdelivered,
      activeBatch_modBatch _ _ _ (fun _ => by rfl) (fun _ => by rfl)]
    exact (parts.read (fun u => u.activeBatch l) (fun _ _ _ _ _ _ => rfl)).trans h.activeBatch_orderLeft
  have matched := h.applyMatch_eq found rfl lane (parts.read (fun u => u.separators) (fun _ _ _ _ _ _ => rfl)) active
  have tag := State.tag_of_sheet? h.found
  rw [h.decides]
  dsimp only
  rw [if_pos keep, ← hready, routeSheet, kind, routed]
  dsimp only
  rw [if_pos full, tag, settleReleased, h.leaveOrder_eq, delivers]
  rw [freeIfIdle, if_neg (by simpa using nonempty), matched, countReleased, hdelivered]
  set ends := (s.separators[i.val]).action = .batchBreak
  calc _ = ((((((placed.modSheet g (fun q => { q with
              state := .released, outcome := some .released, kind := some .separator, routeBank := some s.activeBank,
              pendingDests := es.length })).modSheet g (fun x => { x with separatorMatch := some i })).modBatch r.batch
            (fun b => { b with deliveriesPending := addSat b.deliveriesPending es.length })).modBatch r.batch
              (fun b => { b with settled := addSat b.settled 1, released := addSat b.released 1 })).modBatch r.batch
                (Batch.broken ends)).setLane l ((s.lane l).separated ends)) := rfl
    _ = _ := by
      rw [State.modSheet_modSheet _ _ _ _ (fun _ => by rfl), State.modBatch_modBatch _ _ _ _ (fun _ => by rfl),
        State.modBatch_modBatch _ _ _ _ (fun _ => by rfl)]
      rfl

end

/-! ### The settlement (R105) -/

section
variable {s : State} {l : Fin 8} {g : Tag} {r : Sheet} {b : Batch} {i : Fin 8} (h : Separates s l g r b i)
include h

/-- R118: a separator freed without keep. -/
theorem Separates.settlement_frees (keep : (s.separators[i.val]).keep = false) :
    ∃ t, exec (.settlement l) s = .next t ∧
      t.batch? r.batch = some (b.separated ((s.separators[i.val]).action = .batchBreak)) ∧
      (∀ k, k ≠ r.batch → t.batch? k = s.batch? k) ∧
      t.interior = ({ (freedOf r s).setLane l ((s.lane l).separated ((s.separators[i.val]).action = .batchBreak)) with
        batches := t.batches } : State).interior := by
  have left := h.frees keep
  set u := ((freedOf r s).setLane l ((s.lane l).separated ((s.separators[i.val]).action = .batchBreak))).modBatch r.batch
    (Batch.separated ((s.separators[i.val]).action = .batchBreak)) with hu
  have lane : u.lane l = (s.lane l).separated ((s.separators[i.val]).action = .batchBreak) := State.lane_setLane_same _ _ _
  refine ⟨_, h.settles left (by rw [lane]; exact h.path), ?_⟩
  have same := interior_kickPorts u
  refine ⟨?_, fun k hk => ?_, ?_⟩
  · rw [batch?_of_interior same, hu, State.batch?_modBatch_same _ _ _ (fun _ => by rfl)]
    exact congrArg (Option.map _) h.batch
  · rw [batch?_of_interior same, hu, State.batch?_modBatch_other _ _ (fun _ => by rfl) hk]
    rfl
  · exact interior_eq_patched (fun v => { (freedOf r s).setLane l _ with batches := v.batches }) (fun _ => rfl) same rfl

/-- R118, R121: a kept separator released through its route. -/
theorem Separates.settlement_keeps (keep : (s.separators[i.val]).keep = true) {es : List (Fin 16 × DeliveryEntry)}
    (route : deliveryEntries s r .separator = some es) (room : fullDests s es = []) (nonempty : es ≠ []) :
    ∃ t, exec (.settlement l) s = .next t ∧
      releasedAs r es { Sheet.keptAs i s.activeBank es.length r with reserve := 0, imageDeadline := none } s t ∧
      t.batch? r.batch = some (b.keptFor ((s.separators[i.val]).action = .batchBreak) es.length) ∧
      (∀ k, k ≠ r.batch → t.batch? k = s.batch? k) ∧ t.free = s.free + r.reserve ∧
      t.reserved = s.reserved - r.reserve ∧
      t.lane l = (s.lane l).separated ((s.separators[i.val]).action = .batchBreak) ∧
      (∀ k : Fin 8, k ≠ l → t.lane k = s.lane k) ∧
      (∀ f, (∀ x, f ≠ .dest x .warn) → f ≠ noticeLostFlag → t.flag f = s.flag f) ∧
      t.interior = ({ s with
        lanes := t.lanes, sheets := t.sheets, batches := t.batches, dests := t.dests, free := t.free,
        reserved := t.reserved, flags := t.flags } : State).interior := by
  have left := h.keeps keep route room nonempty
  set ends := (s.separators[i.val]).action = .batchBreak
  set placed := es.foldl appendEntry (orderLeft l g r s) with hplaced
  have parts : onlyPlaces (orderLeft l g r s) placed := onlyPlaces_appendEntries es _
  set u := ((placed.modSheet g (Sheet.keptAs i s.activeBank es.length)).modBatch r.batch
    (Batch.keptFor ends es.length)).setLane l ((s.lane l).separated ends) with hu
  have lane : u.lane l = (s.lane l).separated ends := State.lane_setLane_same _ _ _
  have tag := State.tag_of_sheet? h.found
  refine ⟨_, h.settles left (by rw [lane]; exact h.path), ?_⟩
  have same := interior_kickPorts u
  have queues : ∀ x, u.dest x = { s.dest x with
      queue := (s.dest x).queue ++ (es.filter (fun y => decide (y.1 = x))).map Prod.snd } := fun x =>
    dest_appendEntries es (orderLeft l g r s) x
  refine ⟨⟨fun x => ?_, fun x => ?_, fun none => absurd none nonempty, fun _ => ?_, fun k hk => ?_⟩, ?_, fun k hk => ?_, ?_,
    ?_, ?_, fun k hk => ?_, fun f warn lost => ?_, ?_⟩
  · rw [queue_of_interior same, queues]
  · have own : { (kickPorts u).dest x with credit := 0 } = { u.dest x with credit := 0 } := by
      rw [← dest_interior, ← dest_interior, same]
    have kept := congrArg (fun y : Dest => { y with queue := (s.dest x).queue, credit := (s.dest x).credit }) own
    rw [queues] at kept
    exact kept
  · rw [tag, sheet?_of_interior same, hu]
    refine (State.sheet?_modSheet_same placed g _ (fun _ => by rfl)).trans ?_
    rw [parts.read (fun u => u.sheet? g) (fun _ _ _ _ _ _ => rfl), h.sheet?_orderLeft]
    simp [Sheet.outOfOrder, Sheet.keptAs, h.wait]
  · rw [sheet?_of_interior same, hu]
    refine (State.sheet?_modSheet_other placed _ (fun _ => by rfl) (by rwa [tag] at hk)).trans ?_
    rw [parts.read (fun u => u.sheet? k) (fun _ _ _ _ _ _ => rfl)]
    exact State.sheet?_modSheet_other _ _ (fun _ => by rfl) (by rwa [tag] at hk)
  · rw [batch?_of_interior same, hu]
    refine (State.batch?_modBatch_same _ _ _ (fun _ => by rfl)).trans ?_
    refine congrArg (Option.map _) ((parts.read (fun u => u.batch? r.batch) (fun _ _ _ _ _ _ => rfl)).trans h.batch)
  · rw [batch?_of_interior same, hu]
    refine (State.batch?_modBatch_other _ _ (fun _ => by rfl) hk).trans ?_
    exact parts.read (fun u => u.batch? k) (fun _ _ _ _ _ _ => rfl)
  · rw [eq_of_interior State.free (fun _ => rfl) same]
    exact parts.read State.free (fun _ _ _ _ _ _ => rfl)
  · rw [eq_of_interior State.reserved (fun _ => rfl) same]
    exact parts.read State.reserved (fun _ _ _ _ _ _ => rfl)
  · rw [lane_of_interior same, lane]
  · rw [lane_of_interior same, hu, State.lane_setLane_other _ _ hk]
    refine (parts.read (fun u => u.lane k) (fun _ _ _ _ _ _ => rfl)).trans ?_
    exact State.lane_modLane_other s (fun x => { x with settleOrder := [] }) hk
  · rw [flag_of_interior same lost]
    exact flag_appendEntries es _ warn lost
  · refine interior_eq_patched (fun v => { s with
      lanes := v.lanes, sheets := v.sheets, batches := v.batches, dests := v.dests, free := v.free
      reserved := v.reserved, flags := v.flags, notices := v.notices, pendingLost := v.pendingLost
      lostCount := v.lostCount }) (fun v => by simp [State.interior]) same ?_
    rw [hu, parts]
    rfl

end

/-- R106: a cursor sheet that is to be dropped is ready. -/
theorem cursorReady_of_dropped {s : State} {g : Tag} {r : Sheet} (found : s.sheet? g = some r)
    (drops : r.findings.jam = true ∨ batchAborting s r = true ∨ r.divertDone = true) : cursorReady s g = true := by
  have ready : sheetReady s r = true := by
    rcases drops with drops | drops | drops <;> simp [sheetReady, drops]
  simp only [cursorReady, found, ready]

/-- Settles O54: the dropped cursor sheet by what it leaves of its lane, the separator by whether it is kept. -/
theorem settlementDropsOrSeparates : Obligations.SettlementDropsOrSeparates := by
  intro s l g rest r b order found batch wait settledOnce leaves
  have own : s.batchOf r.batch = b := by rw [State.batchOf, batch]; rfl
  have aborts : batchAborting s r = true ↔ b.state = .aborted := by simp [batchAborting, own]
  have drops {f : Batch → Batch} (hid : ∀ c, (f c).id = c.id) (hlane : ∀ c, (f c).lane = c.lane)
      (hstate : ∀ c, (f c).state = c.state)
      (ready : r.findings.jam = true ∨ batchAborting s r = true ∨ r.divertDone = true)
      (settles : settleCursor l g s = (dropped l r s).modBatch r.batch f) :
      leaves ((dropped l r s).modBatch r.batch f) := by
    have ready := cursorReady_of_dropped found ready
    exact ⟨settlement_drops_alone order found wait ready settles,
      fun _ _ _ alone draining picking path active =>
        settlement_drops_last order found wait ready settles hid hlane hstate alone draining picking path active,
      fun _ => settlement_drops_next order found wait ready settles⟩
  refine ⟨fun cause => ?_, fun jam live divert => ?_, ?_⟩
  · have cause : r.findings.jam = true ∨ batchAborting s r = true := by rwa [aborts]
    exact drops (fun _ => rfl) (fun _ => rfl) (fun _ => rfl) (cause.imp_right .inl) (settleCursor_discards l found cause)
  · have aborting : batchAborting s r = false := by rwa [← Bool.not_eq_true, aborts]
    exact drops (fun _ => rfl) (fun _ => rfl) (fun _ => rfl) (.inr (.inr divert))
      (settleCursor_diverts l found jam aborting divert)
  · intro i alone feeding path gate active live divert trail images clean fits ends released left
    subst alone
    have separates : Separates s l g r b i :=
      ⟨order, found, batch, wait, feeding, path, gate, active, live, divert, trail, images, clean, fits⟩
    exact ⟨fun es keep route room nonempty => separates.settlement_keeps keep route room nonempty,
      separates.settlement_frees⟩

end Sys2Proof.Machine
end

section
/-!
PROOF. What a directive's reply needs of the state its body leaves (R184), and LANE_CLEAR (R64, R87, R111, R131).
-/

namespace Sys2Proof.Machine

/-! ### The reply (R184) -/

/-- The directive queue, the ports and the straps stay. -/
structure KeepsReplies (s t : State) : Prop where
  dirQueue : t.dirQueue = s.dirQueue
  portA : t.portA = s.portA
  portB : t.portB = s.portB
  straps : t.straps = s.straps

theorem KeepsReplies.refl (s : State) : KeepsReplies s s := ⟨rfl, rfl, rfl, rfl⟩

theorem KeepsReplies.trans {s t u : State} (h : KeepsReplies s t) (k : KeepsReplies t u) : KeepsReplies s u :=
  ⟨k.dirQueue.trans h.dirQueue, k.portA.trans h.portA, k.portB.trans h.portB, k.straps.trans h.straps⟩

theorem onlySettles.keepsReplies {s t : State} (h : onlySettles s t) : KeepsReplies s t := by
  rw [show t = _ from h]
  exact ⟨rfl, rfl, rfl, rfl⟩

theorem keepsReplies_raise (f : Flag) (s : State) : KeepsReplies s (raise f s) := (onlySettles_raise f s).keepsReplies

theorem keepsReplies_formNotice (n : NoticeBody) (s : State) : KeepsReplies s (formNotice n s) := by
  unfold formNotice
  split
  · exact .refl s
  · split
    · exact ⟨rfl, rfl, rfl, rfl⟩
    · unfold loseNotice
      split
      · exact ⟨rfl, rfl, rfl, rfl⟩
      · dsimp only
        split <;> exact ⟨rfl, rfl, rfl, rfl⟩

theorem keepsReplies_finishBatch (final : FinalState) (id : Nat) (s : State) : KeepsReplies s (finishBatch final id s) := by
  unfold finishBatch
  split
  · exact .refl s
  · unfold handReport
    dsimp only
    split
    · refine .trans ?_ (keepsReplies_formNotice _ _)
      exact ⟨rfl, rfl, rfl, rfl⟩
    · exact ⟨rfl, rfl, rfl, rfl⟩

theorem keepsReplies_testClosure (id : Nat) (s : State) : KeepsReplies s (testClosure id s) := by
  unfold testClosure
  split
  · exact .refl s
  · split
    · exact keepsReplies_finishBatch _ _ s
    · exact .refl s

theorem keepsReplies_testAbort (id : Nat) (s : State) : KeepsReplies s (testAbort id s) := by
  unfold testAbort
  split
  · exact .refl s
  · split
    · exact keepsReplies_finishBatch _ _ s
    · exact .refl s

theorem keepsReplies_batchLeaves (l : Fin 8) (s : State) : KeepsReplies s (batchLeaves l s) := by
  unfold batchLeaves
  dsimp only
  split
  · exact ⟨rfl, rfl, rfl, rfl⟩
  · split
    · exact ⟨rfl, rfl, rfl, rfl⟩
    · exact ⟨rfl, rfl, rfl, rfl⟩
    · refine .trans (.trans ?_ (keepsReplies_raise _ _)) (keepsReplies_testClosure _ _)
      exact ⟨rfl, rfl, rfl, rfl⟩
    · refine .trans ?_ (keepsReplies_testAbort _ _)
      exact ⟨rfl, rfl, rfl, rfl⟩

/-- R184: a waiting directive whose body keeps what replies need is answered once, and the interior is what its body
leaves. -/
theorem runDirective_keeps {row : DirectiveRow} {d : Directive} {s u : State} (h : waiting row d s)
    {body : List Byte → State → Executed} {r : Result} {data : List Byte}
    (hb : body d.params s.dequeued = ⟨r, data, u⟩) (kept : KeepsReplies s.dequeued u) :
    ∃ t, (Host.Outcome.next (runDirective row body s) : Answer) = .next t ∧ answered d r data s t ∧
      t.interior = u.interior :=
  runDirective_answers h body ⟨u, hb, kept.dirQueue, congrArg PortState.replies kept.portA,
    congrArg PortState.replies kept.portB, kept.straps, rfl⟩

/-- R184, R185: a refused directive changes nothing. -/
theorem runDirective_refuses {row : DirectiveRow} {d : Directive} {s : State} (h : waiting row d s)
    {body : List Byte → State → Executed} {r : Result} (hb : body d.params s.dequeued = refuse r s.dequeued) :
    ∃ t, (Host.Outcome.next (runDirective row body s) : Answer) = .next t ∧ answered d r [] s t ∧
      t.interior = s.interior :=
  runDirective_keeps (u := s.dequeued) h hb (.refl _)

/-! ### The sheets that leave the lane (R87, R111) -/

theorem sheet?_dropSheet (count : Batch → Batch) (l : Fin 8) (g u : Tag) (s : State) :
    (dropSheet count l g s).sheet? u = if u = g then none else s.sheet? u := by
  cases found : s.sheet? g with
  | none =>
    simp only [dropSheet, found, State.sheet?_modLane]
    split
    next same => rw [same, found]
    next => rfl
  | some r =>
    rw [dropSheet_of_sheet? count l found, State.sheet?_modBatch, sheet?_dropped, State.tag_of_sheet? found]

/-- Dropping a sheet leaves the pick in progress and the idle code. -/
theorem lane_dropSheet (count : Batch → Batch) (l : Fin 8) (g : Tag) (s : State) :
    ((dropSheet count l g s).lane l).picking = (s.lane l).picking ∧
      ((dropSheet count l g s).lane l).idleCode = (s.lane l).idleCode := by
  cases found : s.sheet? g with
  | none =>
    simp only [dropSheet, found, State.lane_modLane_same, and_self]
  | some r => rw [dropSheet_of_sheet? count l found, State.lane_modBatch, lane_dropped]; exact ⟨rfl, rfl⟩

theorem foldl_settleDiscarded (l : Fin 8) (gs : List Tag) (s : State) :
    let t := gs.foldl (fun acc g => settleDiscarded l g acc) s
    onlySettles s t ∧ (∀ u, t.sheet? u = if u ∈ gs then none else s.sheet? u) ∧
      (t.lane l).picking = (s.lane l).picking ∧ (t.lane l).idleCode = (s.lane l).idleCode := by
  induction gs generalizing s with
  | nil => exact ⟨rfl, fun _ => rfl, rfl, rfl⟩
  | cons g rest ih =>
    obtain ⟨parts, sheets, picking, idle⟩ := ih (settleDiscarded l g s)
    have one := leaves_dropSheet l g s (fun b => { b with discarded := addSat b.discarded 1 })
    have lane := lane_dropSheet (fun b => { b with discarded := addSat b.discarded 1 }) l g s
    refine ⟨one.parts.trans parts, fun u => ?_, picking.trans lane.1, idle.trans lane.2⟩
    rw [List.foldl_cons, sheets u, settleDiscarded, sheet?_dropSheet]
    by_cases same : u = g <;> simp [same]

theorem sheets_testClosure (id : Nat) (s : State) : (testClosure id s).sheets = s.sheets := by
  cases found : s.batch? id with
  | none => simp [testClosure, found]
  | some b =>
    have left := interior_testClosure found
    split at left
    · exact sheets_of_interior (t := reportedOf b .closed s) left
    · exact sheets_of_interior left

theorem sheets_testAbort (id : Nat) (s : State) : (testAbort id s).sheets = s.sheets := by
  cases found : s.batch? id with
  | none => simp [testAbort, found]
  | some b =>
    have left := interior_testAbort found
    split at left
    · exact sheets_of_interior (t := reportedOf b .aborted s) left
    · exact sheets_of_interior left

theorem sheets_batchLeaves (l : Fin 8) (s : State) : (batchLeaves l s).sheets = s.sheets := by
  unfold batchLeaves
  dsimp only
  split
  · rfl
  · split
    · rfl
    · rfl
    · rw [sheets_testClosure, sheets_of_interior (interior_raise _ _)]
      rfl
    · rw [sheets_testAbort]
      rfl

/-! ### LANE_CLEAR -/

/-- A lane that LANE_CLEAR has emptied (R43, R64, R80). -/
def Lane.cleared (x : Lane) : Lane := { x.rested with
  haltReason := .none, jamReason := .none, path := [], gateHolder := none, exitHolder := none, gateLimit := none,
  sampleDue := none }

/-- The lane as it stands when its batch leaves. -/
def Lane.emptied (x : Lane) : Lane := { x.clearPath.enterIdle with haltReason := .none, jamReason := .none }

/-- Steps 2 to 5 of R64, the picking sheet freed. -/
def orderCleared (l : Fin 8) (s : State) : State := batchLeaves l ((discardOrder l s).modLane l Lane.emptied)

theorem laneClear_eq {s : State} {l : Fin 8} (ps : List Byte) (state : (s.lane l).state = .jammed ∨ (s.lane l).state = .halted)
    (shut : (s.lane l).coverCondition = false) : laneClear l ps s = accept (orderCleared l (freePicking l s)) := by
  have clears : ¬ ((s.lane l).state ≠ .jammed ∧ (s.lane l).state ≠ .halted) := by
    rcases state with state | state <;> simp [state]
  unfold laneClear
  dsimp only
  rw [if_neg clears, if_neg (by simp [shut])]
  rfl

theorem keepsReplies_laneCleared (l : Fin 8) (s : State) : KeepsReplies s (orderCleared l (freePicking l s)) := by
  have settled : onlySettles s (discardOrder l (freePicking l s)) :=
    (onlySettles_freePicking l s).trans (foldl_settleDiscarded l _ _).1
  refine .trans settled.keepsReplies (.trans ?_ (keepsReplies_batchLeaves l _))
  exact ⟨rfl, rfl, rfl, rfl⟩

theorem interior_laneCleared_congr {s t : State} (h : s.interior = t.interior) (l : Fin 8) :
    (orderCleared l (freePicking l s)).interior = (orderCleared l (freePicking l t)).interior := by
  have freed : (freePicking l s).interior = (freePicking l t).interior := by
    unfold freePicking
    rw [lane_of_interior h]
    split
    · exact h
    · exact interior_modLane_congr (interior_freeRecord_congr h _) l _
  have folded (gs : List Tag) {u v : State} (k : u.interior = v.interior) :
      (gs.foldl (fun acc g => settleDiscarded l g acc) u).interior =
        (gs.foldl (fun acc g => settleDiscarded l g acc) v).interior := by
    induction gs generalizing u v with
    | nil => exact k
    | cons g rest ih => exact ih (interior_dropSheet_congr k _ l g)
  unfold orderCleared discardOrder
  rw [lane_of_interior freed]
  exact interior_batchLeaves_congr (interior_modLane_congr (folded _ freed) l _) l

section
variable {s : State} {l : Fin 8}

/-- R64, R87: the lane is empty and idle, its sheets freed. -/
theorem orderCleared_empties (g : Tag) (listed : g ∈ (s.lane l).settleOrder ∨ (s.lane l).picking = some g) :
    (orderCleared l (freePicking l s)).sheet? g = none := by
  obtain ⟨-, sheets, -⟩ := foldl_settleDiscarded l ((freePicking l s).lane l).settleOrder (freePicking l s)
  have order : ((freePicking l s).lane l).settleOrder = (s.lane l).settleOrder := by
    rw [lane_freePicking, Lane.pickFreed]
  unfold orderCleared State.sheet?
  rw [sheets_batchLeaves]
  refine (sheets g).trans ?_
  rw [order, sheet?_freePicking]
  rcases listed with listed | listed <;> simp [listed]

theorem lane_orderCleared : ∃ x : Lane, x.picking = none ∧ x.idleCode = (s.lane l).idleCode ∧
    (orderCleared l (freePicking l s)).lane l = { x.emptied with
      drainCause := .none, batchQueue := ((orderCleared l (freePicking l s)).lane l).batchQueue } := by
  obtain ⟨-, -, picking, idle⟩ := foldl_settleDiscarded l ((freePicking l s).lane l).settleOrder (freePicking l s)
  refine ⟨(discardOrder l (freePicking l s)).lane l, picking.trans ?_, idle.trans ?_, ?_⟩
  · rw [lane_freePicking, Lane.pickFreed]
  · rw [lane_freePicking, Lane.pickFreed]
  · have left := lane_batchLeaves l ((discardOrder l (freePicking l s)).modLane l Lane.emptied)
    rw [State.lane_modLane_same] at left
    exact left

/-- R131: with no active batch only the drain cause goes. -/
theorem orderCleared_idle (order : (s.lane l).settleOrder = []) (idle : s.activeBatch l = none) :
    orderCleared l s = s.modLane l Lane.cleared := by
  have still : (s.modLane l Lane.emptied).activeBatch l = none := by
    rw [← idle]
    exact activeBatch_of_parts (by rw [State.lane_modLane_same]; rfl) rfl
  rw [orderCleared, discardOrder, order, List.foldl_nil, batchLeaves]
  simp only [still]
  rw [State.modLane_modLane]
  exact State.modLane_congr s l (by simp [Lane.emptied, Lane.clearPath, Lane.enterIdle, Lane.stopSpin, Lane.cleared,
    Lane.rested, order])

/-- R43, R131: the active batch leaves the emptied lane as the drain cause directs. -/
theorem batchLeaves_emptied {id : Nat} {rest : List Nat} {b : Batch} (active : activeWith s l id rest b)
    (order : (s.lane l).settleOrder = []) :
    (batchLeaves l (s.modLane l Lane.emptied)).interior =
      (departed l id rest (s.lane l).drainCause (s.modLane l Lane.cleared)).interior := by
  have lane : (s.modLane l Lane.emptied).lane l = (s.lane l).emptied := State.lane_modLane_same _ _ _
  have still : activeWith (s.modLane l Lane.emptied) l id rest b :=
    activeWith_of_kept active (by rw [lane]; rfl) (by rw [lane]; rfl) active.2.2.1 rfl rfl
  rw [interior_batchLeaves_departed still, lane, State.modLane_modLane]
  have same : s.modLane l ((fun x => { x with drainCause := .none }) ∘ Lane.emptied) = s.modLane l Lane.cleared :=
    State.modLane_congr s l (by simp [Lane.emptied, Lane.clearPath, Lane.enterIdle, Lane.stopSpin, Lane.cleared,
      Lane.rested, order])
  rw [same]
  rfl

theorem orderCleared_departs {id : Nat} {rest : List Nat} {b : Batch} (active : activeWith s l id rest b)
    (order : (s.lane l).settleOrder = []) :
    (orderCleared l s).interior = (departed l id rest (s.lane l).drainCause (s.modLane l Lane.cleared)).interior := by
  rw [orderCleared, discardOrder, order]
  exact batchLeaves_emptied active order

/-- R111: the one unsettled sheet is settled DISCARDED first. -/
theorem orderCleared_discards {id : Nat} {rest : List Nat} {b : Batch} {g : Tag} {r : Sheet}
    (active : activeWith s l id rest b) (order : (s.lane l).settleOrder = [g]) (found : s.sheet? g = some r)
    (batch : r.batch = id) :
    (orderCleared l s).interior = (departed l id rest (s.lane l).drainCause (((dropped l r s).modBatch id (fun c => { c with
      settled := min (c.settled + 1) 65535, discarded := min (c.discarded + 1) 65535 })).modLane l
        Lane.cleared)).interior := by
  subst batch
  have settled : discardOrder l s = (dropped l r s).modBatch r.batch (fun c => { c with
      settled := min (c.settled + 1) 65535, discarded := min (c.discarded + 1) 65535 }) := by
    rw [discardOrder, order]
    exact dropSheet_of_sheet? (fun b => { b with discarded := addSat b.discarded 1 }) l found
  rw [orderCleared, settled]
  set u := (dropped l r s).modBatch r.batch (fun c => { c with
    settled := min (c.settled + 1) 65535, discarded := min (c.discarded + 1) 65535 }) with hu
  have lane : u.lane l = (dropped l r s).lane l := rfl
  have still : activeWith u l r.batch rest { b with
      settled := min (b.settled + 1) 65535, discarded := min (b.discarded + 1) 65535 } := by
    refine activeWith_of_kept active ?_ ?_ ?_ rfl rfl
    · rw [lane, lane_dropped]
    · rw [lane, lane_dropped]
    · rw [hu, State.batch?_modBatch_same _ _ _ (fun _ => by rfl), batch?_dropped, active.2.2.1]
      rfl
  rw [batchLeaves_emptied still (settleOrder_dropped order found), lane, lane_dropped]

end

/-- Settles O17: with the picking sheet freed, the order's sheets are discarded one by one and the batch leaves the
emptied lane. -/
theorem laneClearEmptiesLane : Obligations.LaneClearEmptiesLane := by
  intro s d l waits named refused cleared discarded
  have body : withLength 1 (withLane laneClear) d.params s.dequeued = laneClear l d.params s.dequeued :=
    withLane_of_names named laneClear s.dequeued
  refine ⟨fun notJammed notHalted => ?_, fun state => ⟨fun uncovered => ?_, fun shut => ?_⟩⟩
  · refine runDirective_refuses waits (body.trans ?_)
    exact if_pos ⟨notJammed, notHalted⟩
  · refine runDirective_refuses waits (body.trans ?_)
    have clears : ¬ ((s.lane l).state ≠ .jammed ∧ (s.lane l).state ≠ .halted) := by
      rcases state with state | state <;> simp [state]
    exact (if_neg clears).trans (if_pos uncovered)
  intro clears
  obtain ⟨t, next, reply, left⟩ := runDirective_keeps waits (body.trans (laneClear_eq d.params state shut))
    (keepsReplies_laneCleared l s.dequeued)
  replace left := left.trans (interior_laneCleared_congr (s := s.dequeued) (t := s) rfl l)
  have done {P : State → Prop} (h : P t) : clears P := ⟨t, next, reply, h⟩
  refine ⟨done ?_, fun picking order idle => done ?_, fun id rest b active => ⟨fun picking order => done ?_,
    fun g r order found batch => ⟨fun picking => done ?_, fun p q picking other live => done ?_⟩⟩⟩
  · obtain ⟨x, picking, code, lane⟩ := lane_orderCleared (s := s) (l := l)
    rw [lane_of_interior left, lane]
    refine ⟨rfl, ?_, rfl, rfl, picking, rfl, rfl, rfl, rfl, fun g listed => ?_⟩
    · rw [← code]
      rfl
    · rw [sheet?_of_interior left]
      exact orderCleared_empties g listed
  · rw [left, freePicking_of_none _ _ picking, orderCleared_idle order idle]
    rfl
  · rw [left, freePicking_of_none _ _ picking, orderCleared_departs active order]
    rfl
  · rw [left, freePicking_of_none _ _ picking, orderCleared_discards active order found batch]
    rfl
  · have freed : freePicking l s = (freedOf q s).modLane l (fun x => { x with picking := none, pickWindow := none }) := by
      simp only [freePicking, picking, freeRecord_of_sheet? live]
    have lane : (freePicking l s).lane l = { s.lane l with picking := none, pickWindow := none } := by
      rw [freed, State.lane_modLane_same]
      rfl
    have still : activeWith (freePicking l s) l id rest b :=
      activeWith_of_kept active (by rw [lane]) (by rw [lane]) (by rw [freed]; exact active.2.2.1) rfl rfl
    have listed : (freePicking l s).sheet? g = some r := by
      rw [sheet?_freePicking, picking, if_neg (by simpa using other), found]
    rw [left, orderCleared_discards still (by rw [lane]; exact order) listed batch, lane, freed]
    rfl

end Sys2Proof.Machine
end

section
/-!
PROOF. BATCH_ABORT (R123, R136, R137, R177): the held sheets and the delivery entries of a batch that is aborted, and the
lane of the active one.
-/

namespace Sys2Proof.Machine

/-! ### What the abort keeps for its reply (R184) -/

theorem keepsReplies_foldl {α : Type} {f : State → α → State} (h : ∀ u x, KeepsReplies u (f u x)) (xs : List α)
    (s : State) : KeepsReplies s (xs.foldl f s) := by
  induction xs generalizing s with
  | nil => exact .refl s
  | cons x rest ih => exact (h s x).trans (ih _)

theorem keepsReplies_freeRecord (g : Tag) (s : State) : KeepsReplies s (freeRecord g s) :=
  (parts_freeRecord s g).1.keepsReplies

theorem keepsReplies_poke (l : Fin 8) (s : State) : KeepsReplies s (poke l s) :=
  settleLoop_keeps (fun u => KeepsReplies s u)
    (fun u g h _ => h.trans (settleFrame_settleCursor l g u).parts.keepsReplies) _ (.refl s)

theorem keepsReplies_drainTest (l : Fin 8) (s : State) : KeepsReplies s (drainTest l s) := by
  unfold drainTest
  split
  · refine .trans ?_ (keepsReplies_batchLeaves l _)
    exact ⟨rfl, rfl, rfl, rfl⟩
  · exact .refl s

theorem keepsReplies_retryWaiting (ds : List (Fin 16)) (s : State) : KeepsReplies s (retryWaiting ds s) := by
  unfold retryWaiting
  refine .trans ?_ (keepsReplies_foldl (fun u l => (keepsReplies_poke l u).trans (keepsReplies_drainTest l _)) _ _)
  exact ⟨rfl, rfl, rfl, rfl⟩

theorem keepsReplies_discardBatchHeld (id : Nat) (s : State) : KeepsReplies s (discardBatchHeld id s) := by
  refine keepsReplies_foldl (fun u e => ?_) _ _
  refine .trans ?_ (keepsReplies_freeRecord e.tag _)
  exact ⟨rfl, rfl, rfl, rfl⟩

theorem keepsReplies_removeUndelivered (d : Fin 16) (s : State) (e : DeliveryEntry) :
    KeepsReplies s (removeUndelivered d s e) := by
  unfold removeUndelivered lowerPending
  split
  · exact ⟨rfl, rfl, rfl, rfl⟩
  · dsimp only
    split
    · refine .trans ?_ (keepsReplies_freeRecord _ _)
      exact ⟨rfl, rfl, rfl, rfl⟩
    · exact ⟨rfl, rfl, rfl, rfl⟩

theorem keepsReplies_abortRest (id : Nat) (s : State) : KeepsReplies s (abortRest id s) := by
  refine .trans (keepsReplies_discardBatchHeld id s) (.trans (keepsReplies_foldl (fun u d => ?_) _ _)
    (keepsReplies_retryWaiting _ _))
  refine .trans ?_ (keepsReplies_foldl (keepsReplies_removeUndelivered d) _ _)
  exact ⟨rfl, rfl, rfl, rfl⟩

theorem keepsReplies_abortActive (id : Nat) (l : Fin 8) (s : State) : KeepsReplies s (abortActive id l s) := by
  refine .trans (onlySettles_freePicking l s).keepsReplies (.trans ?_ (keepsReplies_poke l _))
  exact ⟨rfl, rfl, rfl, rfl⟩

/-! ### Nothing held, nothing queued -/

theorem State.modDest_of_same {s : State} {d : Fin 16} {f : Dest → Dest} (h : f (s.dest d) = s.dest d) :
    s.modDest d f = s := by
  unfold State.modDest
  rw [h]
  unfold State.dest
  rw [Vector.set_getElem_self]

/-- R177: no entry of the batch waits in destination `d`'s queue, nor is any there in delivery. -/
def noneQueuedAt (id : Nat) (s : State) (d : Fin 16) : Prop := ∀ y ∈ (s.dest d).queue, entryBatch s y ≠ some id

theorem waitingEntries_subset {s : State} {d : Fin 16} {y : DeliveryEntry} (h : y ∈ waitingEntries s d) :
    y ∈ (s.dest d).queue := by
  unfold waitingEntries at h
  split at h
  · exact List.mem_of_mem_drop h
  · exact h

theorem abortedEntries_of_none {id : Nat} {s : State} {d : Fin 16} (nothing : noneQueuedAt id s d) :
    abortedEntries id s d = [] := by
  refine List.filter_eq_nil_iff.mpr fun y hy => ?_
  simpa using nothing y (waitingEntries_subset hy)

theorem abortDest_of_none {id : Nat} {s : State} {d : Fin 16} (nothing : noneQueuedAt id s d) : abortDest id s d = s := by
  have kept : (waitingEntries s d).filter (fun e => decide (entryBatch s e ≠ some id)) = waitingEntries s d :=
    List.filter_eq_self.mpr fun y hy => decide_eq_true (nothing y (waitingEntries_subset hy))
  unfold abortDest
  rw [abortedEntries_of_none nothing, kept]
  refine State.modDest_of_same ?_
  unfold waitingEntries
  split
  · rw [List.take_append_drop]
  · rfl

theorem foldl_abortDest_of_none {id : Nat} {s : State} {ds : List (Fin 16)} (nothing : ∀ d ∈ ds, noneQueuedAt id s d) :
    ds.foldl (abortDest id) s = s := by
  induction ds with
  | nil => rfl
  | cons d rest ih =>
    rw [List.foldl_cons, abortDest_of_none (nothing d List.mem_cons_self)]
    exact ih fun x hx => nothing x (List.mem_cons_of_mem d hx)

/-- R117: no lane waits on one of the destinations. -/
theorem retryWaiting_of_none {ds : List (Fin 16)} {s : State} (idle : ∀ l, waitsOn s ds l = false) :
    retryWaiting ds s = { s with freeIndex := s.freeIndex + 1 } := by
  have waiting : allLanes.filter (waitsOn s ds) = [] := List.filter_eq_nil_iff.mpr fun l _ => by simp [idle l]
  rw [retryWaiting, waiting]
  rfl

theorem abortEntries_of_none {id : Nat} {s : State} (nothing : ∀ d, noneQueuedAt id s d) :
    abortEntries id s = { s with freeIndex := s.freeIndex + 1 } := by
  have touched : allDests.filter (fun d => !(abortedEntries id s d).isEmpty) = [] :=
    List.filter_eq_nil_iff.mpr fun d _ => by simp [abortedEntries_of_none (nothing d)]
  rw [abortEntries, touched, foldl_abortDest_of_none fun d _ => nothing d]
  exact retryWaiting_of_none fun l => by simp [waitsOn]

theorem discardBatchHeld_of_none {id : Nat} {s : State} (nothing : ∀ h ∈ s.held, h.batch ≠ id) : discardBatchHeld id s = s := by
  have listed : s.held.filter (fun h => decide (h.batch = id)) = [] :=
    List.filter_eq_nil_iff.mpr fun h hh => by simpa using nothing h hh
  rw [discardBatchHeld, listed]
  rfl

theorem abortRest_of_none {id : Nat} {s : State} (held : ∀ h ∈ s.held, h.batch ≠ id) (queued : ∀ d, noneQueuedAt id s d) :
    abortRest id s = { s with freeIndex := s.freeIndex + 1 } := by
  rw [abortRest, discardBatchHeld_of_none held, abortEntries_of_none queued]

/-- What can free records but not queue entries leaves nothing of the batch queued. -/
theorem noneQueuedAt_of_fewer {id : Nat} {s t : State} {d : Fin 16} (nothing : noneQueuedAt id s d)
    (queue : (t.dest d).queue = (s.dest d).queue)
    (fewer : ∀ g r, t.sheet? g = some r → ∃ q, s.sheet? g = some q ∧ q.batch = r.batch) : noneQueuedAt id t d := by
  intro y hy mine
  rw [queue] at hy
  unfold entryBatch at mine
  cases live : t.sheet? y.sheet with
  | none => simp [live] at mine
  | some r =>
    obtain ⟨q, found, same⟩ := fewer _ r live
    refine nothing y hy ?_
    rw [live] at mine
    rw [entryBatch, found, ← mine]
    exact congrArg some same

/-! ### The batch that is not active (R136, R137) -/

/-- The batch is ABORTED and out of lane `l`'s queue. -/
def abortUnqueued (id : Nat) (l : Fin 8) (s : State) : State :=
  (s.modBatch id (fun c => { c with state := .aborted })).modLane l (fun x =>
    { x with batchQueue := x.batchQueue.erase id })

section
variable {s : State} {id : Nat} {b : Batch} (found : s.batch? id = some b)
include found

theorem batchAbort_inactive (ps : List Byte) (state : b.state = .queued ∨ b.state = .ended) :
    batchAbort id ps s = accept (testAbort id (abortRest id (abortUnqueued id b.lane s))) := by
  unfold batchAbort
  simp only [found]
  rcases state with state | state <;> rw [state] <;> rfl

theorem batchAbort_active (ps : List Byte) (state : b.state = .feeding ∨ b.state = .draining) :
    batchAbort id ps s = accept (testAbort id (drainTest b.lane (abortRest id (abortActive id b.lane s)))) := by
  unfold batchAbort
  simp only [found]
  rcases state with state | state <;> rw [state]

/-- R137: a batch out of its lane's queue with nothing pending ends. -/
theorem interior_testAbort_ends (aborted : b.state = .aborted) (out : id ∉ (s.lane b.lane).batchQueue)
    (pending : b.deliveriesPending = 0) : (testAbort id s).interior = (reportedOf b .aborted s).interior := by
  have outside : s.inLaneQueue b = false := by
    rw [State.inLaneQueue, State.id_of_batch? found]
    exact decide_eq_false out
  rw [interior_testAbort found, if_pos ⟨aborted, outside, pending⟩]

theorem batch?_abortUnqueued (l : Fin 8) : (abortUnqueued id l s).batch? id = some { b with state := .aborted } := by
  rw [abortUnqueued, State.batch?_modLane, State.batch?_modBatch_same _ _ _ (fun _ => by rfl), found]
  rfl

end

theorem lane_abortUnqueued (id : Nat) (l : Fin 8) (s : State) :
    (abortUnqueued id l s).lane l = { s.lane l with batchQueue := (s.lane l).batchQueue.erase id } :=
  State.lane_modLane_same _ l _

/-- A batch's updates leave nothing behind once it is reported. -/
theorem reportedOf_modBatch {id : Nat} {b : Batch} (h : b.id = id) (final : FinalState) (s : State) {f : Batch → Batch}
    (hf : ∀ c, (f c).id = c.id) : reportedOf b final (s.modBatch id f) = reportedOf b final s := by
  subst h
  have gone (bs : List Batch) : (bs.map (fun c => if c.id = b.id then f c else c)).filter (fun c => decide (c.id ≠ b.id)) =
      bs.filter (fun c => decide (c.id ≠ b.id)) := by
    induction bs with
    | nil => rfl
    | cons c rest ih =>
      simp only [List.map_cons, List.filter_cons, ih]
      by_cases same : c.id = b.id <;> simp [same, hf]
  simp only [reportedOf, State.modBatch]
  rw [gone]

theorem reportedOf_abortUnqueued {id : Nat} {b : Batch} (h : b.id = id) (l : Fin 8) (s : State) :
    reportedOf b .aborted (abortUnqueued id l s) =
      reportedOf b .aborted (s.modLane l (fun x => { x with batchQueue := x.batchQueue.erase id })) :=
  reportedOf_modBatch h .aborted (s.modLane l (fun x => { x with batchQueue := x.batchQueue.erase id })) (fun _ => rfl)

section
variable {s : State} {id : Nat} {b : Batch} (found : s.batch? id = some b) (once : (s.lane b.lane).batchQueue.Nodup)
  (pending : b.deliveriesPending = 0)
include found once pending

/-- R137: with nothing held or queued the abort ends at once. -/
theorem abort_ends_at_once (held : ∀ h ∈ s.held, h.batch ≠ id) (queued : ∀ d, noneQueuedAt id s d) :
    (testAbort id (abortRest id (abortUnqueued id b.lane s))).interior = (reportedOf { b with state := .aborted } .aborted
      (s.modLane b.lane (fun x => { x with batchQueue := x.batchQueue.erase id }))).interior := by
  have rest : abortRest id (abortUnqueued id b.lane s) =
      { abortUnqueued id b.lane s with freeIndex := s.freeIndex + 1 } := abortRest_of_none held queued
  have live : ({ abortUnqueued id b.lane s with freeIndex := s.freeIndex + 1 } : State).batch? id =
      some { b with state := .aborted } := batch?_abortUnqueued found b.lane
  have out : id ∉ (({ abortUnqueued id b.lane s with freeIndex := s.freeIndex + 1 } : State).lane b.lane).batchQueue := by
    change id ∉ ((abortUnqueued id b.lane s).lane b.lane).batchQueue
    rw [lane_abortUnqueued]
    exact once.not_mem_erase
  have own := State.id_of_batch? found
  rw [rest, interior_testAbort_ends live rfl out pending,
    ← reportedOf_abortUnqueued (b := { b with state := .aborted }) own b.lane s]
  rfl

/-- R123: its one held sheet is discarded with it. -/
theorem abort_discards_held {e : HeldEntry} {r : Sheet} (queued : ∀ d, noneQueuedAt id s d)
    (held : s.held.filter (fun h => decide (h.batch = id)) = [e]) (live : s.sheet? e.tag = some r) :
    (testAbort id (abortRest id (abortUnqueued id b.lane s))).interior = (reportedOf { b with
        state := .aborted, heldNow := b.heldNow - 1, discarded := min (b.discarded + 1) 65535,
        gaps := min (b.gaps + 1) 65535 } .aborted
      (freedOf r (({ s with held := s.held.filter (fun h => decide (h.tag ≠ e.tag)) } : State).modLane b.lane (fun x =>
        { x with batchQueue := x.batchQueue.erase id })))).interior := by
  have mine : e.batch = id := by
    have listed : e ∈ s.held.filter (fun h => decide (h.batch = id)) := by rw [held]; exact List.mem_singleton_self e
    exact of_decide_eq_true (List.mem_filter.mp listed).2
  set counts : Batch → Batch := fun c =>
    { c with heldNow := c.heldNow - 1, discarded := addSat c.discarded 1, gaps := addSat c.gaps 1 } with hcounts
  set unlisted : State := { s with held := s.held.filter (fun h => decide (h.tag ≠ e.tag)) } with hunlisted
  set u := freedOf r ((abortUnqueued id b.lane unlisted).modBatch id counts) with hu
  have discarded : discardBatchHeld id (abortUnqueued id b.lane s) = u := by
    have list : (abortUnqueued id b.lane s).held.filter (fun h => decide (h.batch = id)) = [e] := held
    rw [discardBatchHeld, list, List.foldl_cons, List.foldl_nil, discardHeld, mine, hu]
    exact freeRecord_of_sheet? live
  have nothing (d : Fin 16) : noneQueuedAt id u d := by
    refine noneQueuedAt_of_fewer (queued d) rfl fun g q hq => ⟨q, ?_, rfl⟩
    rw [hu, freedOf_sheet?] at hq
    split at hq
    · cases hq
    · exact hq
  have rest : abortRest id (abortUnqueued id b.lane s) = { u with freeIndex := u.freeIndex + 1 } := by
    rw [abortRest, discarded, abortEntries_of_none nothing]
  have batch : ({ u with freeIndex := u.freeIndex + 1 } : State).batch? id = some (counts { b with state := .aborted }) := by
    have marked := batch?_abortUnqueued (s := unlisted) found b.lane
    refine (State.batch?_modBatch_same (abortUnqueued id b.lane unlisted) id counts (fun _ => by rfl)).trans ?_
    rw [marked]
    rfl
  have out : id ∉ (({ u with freeIndex := u.freeIndex + 1 } : State).lane b.lane).batchQueue := by
    change id ∉ ((abortUnqueued id b.lane unlisted).lane b.lane).batchQueue
    rw [lane_abortUnqueued]
    exact once.not_mem_erase
  have own := State.id_of_batch? found
  rw [rest, interior_testAbort_ends batch rfl out pending]
  change (reportedOf _ .aborted u).interior = _
  have freedFirst : reportedOf (counts { b with state := .aborted }) .aborted u =
      freedOf r (reportedOf (counts { b with state := .aborted }) .aborted
        ((abortUnqueued id b.lane unlisted).modBatch id counts)) := rfl
  rw [freedFirst, reportedOf_modBatch (b := counts { b with state := .aborted }) own _ _ (fun _ => by rfl),
    reportedOf_abortUnqueued (b := counts { b with state := .aborted }) own]
  rfl

end

/-! ### Entries removed from a queue (R140, R166, R177) -/

/-- What the removal of entries from destination `d`'s queue leaves alone. -/
structure RemovalFrame (d : Fin 16) (s t : State) : Prop where
  parts : t = { s with
    sheets := t.sheets, batches := t.batches, dests := t.dests, free := t.free, reserved := t.reserved
    allocated := t.allocated, directory := t.directory }
  dests : ∀ y, y ≠ d → t.dest y = s.dest y
  dest : { t.dest d with undelivered := (s.dest d).undelivered } = s.dest d
  sheets : ∀ g r, t.sheet? g = some r → ∃ q, s.sheet? g = some q ∧ r = { q with pendingDests := r.pendingDests }

theorem RemovalFrame.refl (d : Fin 16) (s : State) : RemovalFrame d s s :=
  ⟨rfl, fun _ _ => rfl, rfl, fun _ r h => ⟨r, h, rfl⟩⟩

theorem RemovalFrame.trans {d : Fin 16} {s t u : State} (h : RemovalFrame d s t) (k : RemovalFrame d t u) :
    RemovalFrame d s u where
  parts := by
    have step := k.parts
    rw [h.parts] at step
    exact step
  dests y hy := (k.dests y hy).trans (h.dests y hy)
  dest := by
    have step := congrArg (fun x : Dest => { x with undelivered := (s.dest d).undelivered }) k.dest
    exact step.trans h.dest
  sheets g r hr := by
    obtain ⟨q, hq, rq⟩ := k.sheets g r hr
    obtain ⟨p, hp, qp⟩ := h.sheets g q hq
    exact ⟨p, hp, by rw [rq, qp]⟩

section
variable {s : State} {e : DeliveryEntry} {r : Sheet} (d : Fin 16) (live : s.sheet? e.sheet = some r)
include live

/-- R177: an entry of a live sheet leaves its queue undelivered. -/
theorem removeUndelivered_of_live : removeUndelivered d s e =
    (let lowered := ((s.modDest d (fun x => { x with undelivered := addSat x.undelivered 1 })).modSheet e.sheet
        (fun q => { q with pendingDests := q.pendingDests - 1 })).modBatch r.batch
          (fun c => { c with deliveriesPending := c.deliveriesPending - 1 })
     if r.pendingDests - 1 = 0 ∧ r.state ≠ .held then freeRecord e.sheet lowered else lowered) := by
  have kept : (s.modDest d (fun x => { x with undelivered := addSat x.undelivered 1 })).sheet? e.sheet = some r := live
  unfold removeUndelivered lowerPending
  simp only [kept]

theorem sheet?_removeUndelivered (g : Tag) : (removeUndelivered d s e).sheet? g =
    if g = e.sheet then if r.pendingDests - 1 = 0 ∧ r.state ≠ .held then none
      else some { r with pendingDests := r.pendingDests - 1 }
    else s.sheet? g := by
  have lowered (g : Tag) : (((s.modDest d (fun x => { x with undelivered := addSat x.undelivered 1 })).modSheet e.sheet
      (fun q => { q with pendingDests := q.pendingDests - 1 })).modBatch r.batch
        (fun c => { c with deliveriesPending := c.deliveriesPending - 1 })).sheet? g =
      if g = e.sheet then some { r with pendingDests := r.pendingDests - 1 } else s.sheet? g := by
    rw [State.sheet?_modBatch]
    split
    next same =>
      rw [same, State.sheet?_modSheet_same _ _ _ (fun _ => by rfl)]
      exact congrArg (Option.map _) live
    next other => exact State.sheet?_modSheet_other _ _ (fun _ => by rfl) other
  rw [removeUndelivered_of_live d live]
  dsimp only
  split
  · rw [sheet?_freeRecord, lowered]
    split <;> rfl
  · exact lowered g

theorem batches_removeUndelivered : (removeUndelivered d s e).batches =
    (s.modBatch r.batch (fun c => { c with deliveriesPending := c.deliveriesPending - 1 })).batches := by
  rw [removeUndelivered_of_live d live]
  dsimp only
  split
  · exact (parts_freeRecord _ _).2.2.2
  · rfl

theorem dests_removeUndelivered : (removeUndelivered d s e).dests =
    (s.modDest d (fun x => { x with undelivered := addSat x.undelivered 1 })).dests := by
  rw [removeUndelivered_of_live d live]
  dsimp only
  split
  · unfold freeRecord
    split <;> rfl
  · rfl

theorem dest_removeUndelivered (y : Fin 16) : (removeUndelivered d s e).dest y =
    if y = d then { s.dest d with undelivered := addSat (s.dest d).undelivered 1 } else s.dest y := by
  have same : (removeUndelivered d s e).dest y =
      (s.modDest d (fun x => { x with undelivered := addSat x.undelivered 1 })).dest y := by
    unfold State.dest
    rw [dests_removeUndelivered d live]
  rw [same, dest_modDest]
  split
  next here => rw [here]
  next => rfl

theorem removalFrame_removeUndelivered : RemovalFrame d s (removeUndelivered d s e) where
  parts := by
    rw [removeUndelivered_of_live d live]
    dsimp only
    split
    · unfold freeRecord
      split <;> rfl
    · rfl
  dests y hy := by rw [dest_removeUndelivered d live, if_neg hy]
  dest := by rw [dest_removeUndelivered d live, if_pos rfl]
  sheets g q hq := by
    rw [sheet?_removeUndelivered d live] at hq
    split at hq
    next same =>
      split at hq
      · cases hq
      · exact ⟨r, by rw [same, live], by rw [← Option.some.inj hq]⟩
    next => exact ⟨q, hq, rfl⟩

end

theorem entriesOf_cons (g : Tag) (e : DeliveryEntry) (rest : List DeliveryEntry) :
    entriesOf g (e :: rest) = entriesOf g rest + if e.sheet = g then 1 else 0 := by
  simp [entriesOf, List.countP_cons]

theorem entriesOf_pos {e : DeliveryEntry} {es : List DeliveryEntry} (h : e ∈ es) : 0 < entriesOf e.sheet es :=
  List.countP_pos_iff.mpr ⟨e, h, decide_eq_true rfl⟩

/-- R140: the entries behind the first are counted as pending once it is removed. -/
theorem countedPending_tail {s : State} {d : Fin 16} {e : DeliveryEntry} {rest : List DeliveryEntry}
    (counted : countedPending s (e :: rest)) : countedPending (removeUndelivered d s e) rest := by
  obtain ⟨r, live, pending⟩ := counted e List.mem_cons_self
  intro y hy
  obtain ⟨q, found, most⟩ := counted y (List.mem_cons_of_mem e hy)
  rw [entriesOf_cons] at most pending
  rw [sheet?_removeUndelivered d live]
  by_cases same : y.sheet = e.sheet
  · rw [same] at found most ⊢
    rw [if_pos rfl] at most ⊢
    obtain rfl := Option.some.inj (live.symm.trans found)
    have more := entriesOf_pos hy
    rw [same] at more
    rw [if_neg (by omega)]
    exact ⟨_, rfl, by dsimp only; omega⟩
  · rw [if_neg same]
    rw [if_neg (Ne.symm same)] at most
    exact ⟨q, found, most⟩

/-- A sheet without a record gets none. -/
theorem RemovalFrame.absent {d : Fin 16} {s t : State} (h : RemovalFrame d s t) {g : Tag} (nothing : s.sheet? g = none) :
    t.sheet? g = none := by
  cases live : t.sheet? g with
  | none => rfl
  | some r =>
    obtain ⟨q, found, -⟩ := h.sheets g r live
    rw [nothing] at found
    cases found

/-- R124, R177: what the removal of one entry, then of the others, takes from the pending counts. -/
theorem sheetsLose_cons {s t : State} {d : Fin 16} {e : DeliveryEntry} {rest : List DeliveryEntry}
    (counted : countedPending s (e :: rest)) (frame : RemovalFrame d (removeUndelivered d s e) t)
    (lose : sheetsLose rest (removeUndelivered d s e) t) : sheetsLose (e :: rest) s t := by
  obtain ⟨r, live, pending⟩ := counted e List.mem_cons_self
  rw [entriesOf_cons, if_pos rfl] at pending
  intro g q found
  rw [entriesOf_cons]
  have step := sheet?_removeUndelivered d live g
  by_cases same : g = e.sheet
  · subst same
    obtain rfl := Option.some.inj (live.symm.trans found)
    rw [if_pos rfl] at step ⊢
    by_cases freed : r.pendingDests - 1 = 0 ∧ r.state ≠ .held
    · rw [if_pos freed] at step
      rw [frame.absent step, if_pos ⟨by omega, by omega, freed.2⟩]
    · rw [if_neg freed] at step
      rw [lose _ _ step]
      dsimp only
      by_cases last : entriesOf e.sheet rest + 1 = r.pendingDests ∧ r.state ≠ .held
      · have more : r.pendingDests - 1 ≠ 0 := fun gone => freed ⟨gone, last.2⟩
        have all := last.1
        rw [if_pos (show 0 < entriesOf e.sheet rest ∧ entriesOf e.sheet rest = r.pendingDests - 1 ∧ r.state ≠ .held from
          ⟨by omega, by omega, last.2⟩), if_pos ⟨by omega, last.1, last.2⟩]
      · rw [if_neg (by rintro ⟨more, all, held⟩; exact last ⟨by omega, held⟩), if_neg (fun h => last h.2), Nat.sub_sub,
          Nat.add_comm 1]
  · rw [if_neg same] at step
    rw [if_neg (Ne.symm same), Nat.add_zero]
    exact lose g q (step.trans found)

/-- A bounded count of one more and then `n` more is the bounded count of all of them. -/
theorem min_add_min (u k n top : Nat) : min (min (u + k) top + n) top = min (u + k + n) top := by omega

/-- R140, R177: all that the removal of a batch's entries does. -/
theorem foldl_removeUndelivered {id : Nat} (d : Fin 16) (removed : List DeliveryEntry) {s : State} {b : Batch}
    (counted : countedPending s removed) (mine : ∀ e ∈ removed, entryBatch s e = some id) (found : s.batch? id = some b) :
    let t := removed.foldl (removeUndelivered d) s
    RemovalFrame d s t ∧ sheetsLose removed s t ∧
      t.batch? id = some { b with deliveriesPending := b.deliveriesPending - removed.length } ∧
      (∀ k, k ≠ id → t.batch? k = s.batch? k) ∧
      (t.dest d).undelivered = (if removed = [] then (s.dest d).undelivered
        else min ((s.dest d).undelivered + removed.length) 65535) := by
  induction removed generalizing s b with
  | nil =>
    refine ⟨.refl d s, fun g r hr => ?_, found, fun _ _ => rfl, rfl⟩
    rw [if_neg (by rintro ⟨nothing, -⟩; exact absurd nothing (Nat.lt_irrefl 0))]
    exact hr
  | cons e rest ih =>
    obtain ⟨r, live, pending⟩ := counted e List.mem_cons_self
    have own : r.batch = id := by
      have first := mine e List.mem_cons_self
      rw [entryBatch, live] at first
      exact Option.some.inj first
    have step := removalFrame_removeUndelivered d live
    have behind : ∀ y ∈ rest, entryBatch (removeUndelivered d s e) y = some id := by
      intro y hy
      obtain ⟨q, kept, -⟩ := countedPending_tail (d := d) counted y hy
      obtain ⟨p, before, same⟩ := step.sheets _ q kept
      have was := mine y (List.mem_cons_of_mem e hy)
      rw [entryBatch, before] at was
      rw [entryBatch, kept, same]
      exact was
    have batches (k : Nat) : (removeUndelivered d s e).batch? k =
        (s.modBatch id (fun c => { c with deliveriesPending := c.deliveriesPending - 1 })).batch? k := by
      unfold State.batch?
      rw [batches_removeUndelivered d live, own]
    have batch : (removeUndelivered d s e).batch? id = some { b with deliveriesPending := b.deliveriesPending - 1 } := by
      rw [batches, State.batch?_modBatch_same _ _ _ (fun _ => by rfl), found]
      rfl
    obtain ⟨frame, lose, left, others, undelivered⟩ := ih (countedPending_tail counted) behind batch
    refine ⟨step.trans frame, sheetsLose_cons counted frame lose, ?_, fun k hk => ?_, ?_⟩
    · rw [List.foldl_cons, left, List.length_cons, Nat.sub_sub, Nat.add_comm 1]
    · rw [List.foldl_cons, others k hk, batches, State.batch?_modBatch_other _ _ (fun _ => by rfl) hk]
    · rw [List.foldl_cons, undelivered, dest_removeUndelivered d live, if_pos rfl, if_neg (List.cons_ne_nil e rest)]
      dsimp only [addSat]
      split
      next empty => simp only [empty, List.length_singleton]
      next => rw [List.length_cons, min_add_min, Nat.add_assoc, Nat.add_comm 1]

/-! ### One destination's queue (R177) -/

/-- The entries of a destination's queue that are kept. -/
def keptEntries (id : Nat) (s : State) (d : Fin 16) : List DeliveryEntry :=
  (if headInProgress s d then (s.dest d).queue.take 1 else []) ++
    (waitingEntries s d).filter (fun e => decide (entryBatch s e ≠ some id))

/-- What the abort of batch `id`, record `b`, does through destination `x`'s queue alone (R140, R177). -/
structure AbortedAt (x : Fin 16) (id : Nat) (b : Batch) (s t : State) : Prop where
  parts : t = { s with
    sheets := t.sheets, batches := t.batches, dests := t.dests, free := t.free, reserved := t.reserved
    allocated := t.allocated, directory := t.directory }
  dests : ∀ y, y ≠ x → t.dest y = s.dest y
  dest : { t.dest x with queue := (s.dest x).queue, undelivered := (s.dest x).undelivered } = s.dest x
  queue : (t.dest x).queue = keptEntries id s x
  undelivered : (t.dest x).undelivered = (if abortedEntries id s x = [] then (s.dest x).undelivered
    else min ((s.dest x).undelivered + (abortedEntries id s x).length) 65535)
  sheets : ∀ g r, t.sheet? g = some r → ∃ q, s.sheet? g = some q ∧ r = { q with pendingDests := r.pendingDests }
  lose : sheetsLose (abortedEntries id s x) s t
  batch : t.batch? id = some { b with deliveriesPending := b.deliveriesPending - (abortedEntries id s x).length }
  batches : ∀ k, k ≠ id → t.batch? k = s.batch? k

section
variable {s : State} {id : Nat} {b : Batch} {x : Fin 16} (found : s.batch? id = some b)
  (counted : countedPending s (abortedEntries id s x))
include found counted

/-- R177: destination `x`'s queue without the batch's entries. -/
theorem abortedAt_abortDest : AbortedAt x id b s (abortDest id s x) := by
  set queued := s.modDest x (fun y => { y with queue := keptEntries id s x }) with hqueued
  obtain ⟨frame, lose, batch, others, undelivered⟩ := foldl_removeUndelivered (s := queued) (id := id) (b := b) x
    (abortedEntries id s x) counted (fun e he => of_decide_eq_true (List.mem_filter.mp he).2) found
  have own : queued.dest x = { s.dest x with queue := keptEntries id s x } := State.dest_modDest_same _ _ _
  have left : { (abortDest id s x).dest x with undelivered := (s.dest x).undelivered } =
      { s.dest x with queue := keptEntries id s x } := by
    have kept := frame.dest
    rw [own] at kept
    exact kept
  refine ⟨frame.parts, fun y hy => (frame.dests y hy).trans (State.dest_modDest_other _ _ hy), ?_, ?_, ?_, frame.sheets,
    lose, batch, others⟩
  · exact congrArg (fun y : Dest => { y with queue := (s.dest x).queue }) left
  · exact congrArg Dest.queue left
  · rw [own] at undelivered
    exact undelivered

/-- R177: the queues of the other destinations hold nothing of the batch. -/
theorem foldl_abortDest_one (others : ∀ y, y ≠ x → noneQueuedAt id s y) :
    allDests.foldl (abortDest id) s = abortDest id s x := by
  have listed : x ∈ allDests := (show ∀ y : Fin 16, y ∈ allDests by decide) x
  obtain ⟨before, behind, parted⟩ := List.append_of_mem listed
  have once : (before ++ x :: behind).Nodup := by rw [← parted]; decide
  have notBefore : ∀ y ∈ before, y ≠ x := fun y hy same =>
    (List.nodup_append.mp once).2.2 y hy x List.mem_cons_self same
  have notBehind : ∀ y ∈ behind, y ≠ x := fun y hy same =>
    (List.nodup_cons.mp (List.nodup_append.mp once).2.1).1 (same ▸ hy)
  have aborted := abortedAt_abortDest found counted
  rw [parted, List.foldl_append, List.foldl_cons, foldl_abortDest_of_none fun y hy => others y (notBefore y hy)]
  refine foldl_abortDest_of_none fun y hy => ?_
  refine noneQueuedAt_of_fewer (others y (notBehind y hy)) (by rw [aborted.dests y (notBehind y hy)]) fun g r hr => ?_
  obtain ⟨q, hq, same⟩ := aborted.sheets g r hr
  exact ⟨q, hq, by rw [same]⟩

/-- R117, R177: with no lane waiting for room the removal is all. -/
theorem abortEntries_one (others : ∀ y, y ≠ x → noneQueuedAt id s y) (idle : ∀ l, cursorWait s l = []) :
    abortEntries id s = { abortDest id s x with freeIndex := s.freeIndex + 1 } := by
  have aborted := abortedAt_abortDest found counted
  have lanes : (abortDest id s x).lanes = s.lanes := by rw [aborted.parts]
  have still (l : Fin 8) : cursorWait (abortDest id s x) l = [] := by
    have before := idle l
    unfold cursorWait at before ⊢
    rw [State.lane_eq_of_lanes lanes l]
    split at before
    next => rfl
    next g rest order =>
      cases live : (abortDest id s x).sheet? g with
      | none => rfl
      | some r =>
        obtain ⟨q, was, same⟩ := aborted.sheets g r live
        rw [was] at before
        rw [same]
        exact before
  have index : (abortDest id s x).freeIndex = s.freeIndex := by rw [aborted.parts]
  rw [abortEntries, foldl_abortDest_one found counted others, retryWaiting_of_none fun l => by simp [waitsOn, still],
    index]

end

/-- R147: a reported batch has no record any more. -/
theorem batch?_reportedOf (b : Batch) (final : FinalState) (s : State) (k : Nat) :
    (reportedOf b final s).batch? k = if k = b.id then none else s.batch? k := by
  change (s.batches.filter (fun c => decide (c.id ≠ b.id))).find? (fun c => decide (c.id = k)) = _
  rw [List.find?_filter]
  split
  next same =>
    subst same
    exact List.find?_eq_none.mpr fun c _ => by simp
  next other =>
    refine congrArg (fun p => List.find? p s.batches) (funext fun c => ?_)
    by_cases here : c.id = k
    · simp [here, other]
    · simp [here]

/-- Queues, settings and counts of a destination are those of any state with one interior, up to the credit. -/
theorem dest_of_interior {t u : State} (same : t.interior = u.interior) (d : Fin 16) :
    { t.dest d with credit := 0 } = { u.dest d with credit := 0 } := by
  rw [← dest_interior, ← dest_interior, same]

section
variable {s t : State} {id : Nat} {b : Batch} {x : Fin 16} (found : s.batch? id = some b)
  (once : (s.lane b.lane).batchQueue.Nodup) (held : ∀ h ∈ s.held, h.batch ≠ id)
  (others : ∀ y, y ≠ x → noneQueuedAt id s y) (idle : ∀ l, cursorWait s l = [])
  (counted : countedPending s (abortedEntries id s x))
include found once held others idle counted

/-- R137, R177: what is left of the batch when its entries in one queue have been removed. -/
theorem interior_abort_removes :
    let w := abortDest id (abortUnqueued id b.lane s) x
    AbortedAt x id { b with state := .aborted } (abortUnqueued id b.lane s) w ∧
      (testAbort id (abortRest id (abortUnqueued id b.lane s))).interior =
        (if b.deliveriesPending ≤ (abortedEntries id s x).length then
          reportedOf { b with state := .aborted, deliveriesPending := 0 } .aborted w else w).interior := by
  intro w
  have live := batch?_abortUnqueued found b.lane
  have removed : AbortedAt x id { b with state := .aborted } (abortUnqueued id b.lane s) w :=
    abortedAt_abortDest live counted
  have lane : w.lane b.lane = (abortUnqueued id b.lane s).lane b.lane := by rw [removed.parts]; rfl
  have waits (l : Fin 8) : cursorWait (abortUnqueued id b.lane s) l = [] := by
    rw [← idle l]
    have order : ((abortUnqueued id b.lane s).lane l).settleOrder = (s.lane l).settleOrder := by
      by_cases own : l = b.lane
      · rw [own, lane_abortUnqueued]
      · exact congrArg Lane.settleOrder (State.lane_modLane_other _ _ own)
    unfold cursorWait
    rw [order]
    rfl
  have rest : abortRest id (abortUnqueued id b.lane s) = { w with freeIndex := s.freeIndex + 1 } := by
    rw [abortRest, discardBatchHeld_of_none (by exact held), abortEntries_one live counted others waits]
    rfl
  refine ⟨removed, ?_⟩
  rw [rest]
  have batch := removed.batch
  change w.batch? id = some { b with
    state := .aborted, deliveriesPending := b.deliveriesPending - (abortedEntries id s x).length } at batch
  have out : id ∉ (w.lane b.lane).batchQueue := by
    rw [lane, lane_abortUnqueued]
    exact once.not_mem_erase
  have same : ({ w with freeIndex := s.freeIndex + 1 } : State).interior = w.interior := rfl
  rw [interior_testAbort_congr same id]
  by_cases all : b.deliveriesPending ≤ (abortedEntries id s x).length
  · rw [if_pos all, interior_testAbort_ends batch rfl out (Nat.sub_eq_zero_of_le all), Nat.sub_eq_zero_of_le all]
  · rw [if_neg all, interior_testAbort batch, if_neg]
    rintro ⟨-, -, nothing⟩
    exact all (Nat.le_of_sub_eq_zero nothing)

/-- R137, R140, R177: all that the abort does to destination, sheets and batches. -/
theorem abort_removes_entries (most : (abortedEntries id s x).length ≤ b.deliveriesPending)
    (left : t.interior = (testAbort id (abortRest id (abortUnqueued id b.lane s))).interior) :
    (t.dest x).queue = keptEntries id s x ∧
    (t.dest x).undelivered = (if abortedEntries id s x = [] then (s.dest x).undelivered
      else min ((s.dest x).undelivered + (abortedEntries id s x).length) 65535) ∧
    { t.dest x with
      queue := (s.dest x).queue, credit := (s.dest x).credit, undelivered := (s.dest x).undelivered } = s.dest x ∧
    (∀ y : Fin 16, y ≠ x → { t.dest y with credit := (s.dest y).credit } = s.dest y) ∧
    sheetsLose (abortedEntries id s x) s t ∧ (∀ k, k ≠ id → t.batch? k = s.batch? k) ∧
    (if b.deliveriesPending = (abortedEntries id s x).length then
      t.batch? id = none ∧ t.lastReport = some ⟨{ b with state := .aborted, deliveriesPending := 0 }, .aborted⟩ ∧
        t.flag (.device .batchReport) = true
    else
      t.batch? id = some { b with
          state := .aborted, deliveriesPending := b.deliveriesPending - (abortedEntries id s x).length } ∧
        t.lastReport = s.lastReport) ∧
    t.interior = ({ s with
      lanes := (s.modLane b.lane (fun y => { y with batchQueue := y.batchQueue.erase id })).lanes, sheets := t.sheets
      batches := t.batches, dests := t.dests, flags := t.flags, free := t.free, reserved := t.reserved
      allocated := t.allocated, directory := t.directory, lastReport := t.lastReport } : State).interior := by
  obtain ⟨removed, ends⟩ := interior_abort_removes found once held others idle counted
  replace left := left.trans ends
  set w := abortDest id (abortUnqueued id b.lane s) x with hw
  set v := if b.deliveriesPending ≤ (abortedEntries id s x).length then
    reportedOf { b with state := .aborted, deliveriesPending := 0 } .aborted w else w with hv
  have dests (y : Fin 16) : v.dest y = w.dest y := by rw [hv]; split <;> rfl
  have sheets (g : Tag) : v.sheet? g = w.sheet? g := by rw [hv]; split <;> rfl
  have destX := dest_of_interior left x
  rw [dests] at destX
  have own : b.id = id := State.id_of_batch? found
  refine ⟨?_, ?_, ?_, fun y hy => ?_, fun g r hr => ?_, fun k hk => ?_, ?_, ?_⟩
  · exact (congrArg Dest.queue destX).trans removed.queue
  · exact (congrArg Dest.undelivered destX).trans removed.undelivered
  · have same := congrArg (fun z : Dest => { z with
      queue := (s.dest x).queue, credit := (s.dest x).credit, undelivered := (s.dest x).undelivered }) destX
    exact same.trans (congrArg (fun z : Dest => { z with credit := (s.dest x).credit }) removed.dest)
  · have destY := dest_of_interior left y
    rw [dests, removed.dests y hy] at destY
    exact congrArg (fun z : Dest => { z with credit := (s.dest y).credit }) destY
  · rw [sheet?_of_interior left, sheets]
    exact removed.lose g r hr
  · have kept : v.batch? k = w.batch? k := by
      rw [hv]
      split
      · rw [batch?_reportedOf, if_neg (by rwa [own])]
      · rfl
    rw [batch?_of_interior left, kept, removed.batches k hk]
    exact State.batch?_modBatch_other _ _ (fun _ => by rfl) hk
  · by_cases all : b.deliveriesPending = (abortedEntries id s x).length
    · rw [if_pos (by omega)] at hv
      rw [if_pos all, batch?_of_interior left, eq_of_interior State.lastReport (fun _ => rfl) left,
        flag_of_interior left (by simp [noticeLostFlag]), hv, batch?_reportedOf, if_pos own.symm]
      exact ⟨rfl, rfl, State.flag_setFlag_same _ _ _⟩
    · rw [if_neg (by omega)] at hv
      rw [if_neg all, batch?_of_interior left, eq_of_interior State.lastReport (fun _ => rfl) left, hv]
      refine ⟨removed.batch, ?_⟩
      rw [removed.parts]
      rfl
  · refine interior_eq_patched (fun z => { s with
      lanes := (s.modLane b.lane (fun y => { y with batchQueue := y.batchQueue.erase id })).lanes, sheets := z.sheets
      batches := z.batches, dests := z.dests, flags := z.flags, free := z.free, reserved := z.reserved
      allocated := z.allocated, directory := z.directory, lastReport := z.lastReport })
      (fun z => by simp [State.interior]) left ?_
    have parts := removed.parts
    rw [hv]
    split
    · rw [parts]
      rfl
    · rw [parts]
      rfl

end

/-! ### The active batch (R136, R138) -/

/-- The lane of an active batch that is aborted (R42, R136). -/
def Lane.abortDraining (x : Lane) : Lane :=
  if x.state = .spinup ∨ x.state = .feeding ∨ x.state = .halted then
    { x with state := .draining, haltReason := .none, spinTarget := none, spinRemaining := none, drainCause := .abort }
  else { x with drainCause := .abort }

/-- The batch is ABORTED and its lane drains, the picking sheet freed. -/
def abortDrained (id : Nat) (l : Fin 8) (s : State) : State :=
  ((freePicking l s).modBatch id (fun c => { c with state := .aborted })).modLane l Lane.abortDraining

theorem abortActive_eq (id : Nat) (l : Fin 8) (s : State) : abortActive id l s = poke l (abortDrained id l s) := by
  unfold abortActive abortDrained
  refine congrArg (poke l) (State.modLane_congr _ l ?_)
  rw [State.lane_modBatch]
  unfold Lane.abortDraining
  cases state : ((freePicking l s).lane l).state <;> simp [Lane.enterDraining, Lane.stopSpin, state]

/-- The settling of an active batch's lane leaves its lists. -/
theorem Lane.abortDraining_lists (x : Lane) :
    x.abortDraining.path = x.path ∧ x.abortDraining.settleOrder = x.settleOrder ∧
      x.abortDraining.batchQueue = x.batchQueue ∧ x.abortDraining.picking = x.picking ∧
      x.abortDraining.drainCause = .abort := by
  unfold abortDraining
  split <;> exact ⟨rfl, rfl, rfl, rfl, rfl⟩

theorem Lane.abortDraining_state {x : Lane} (attributing : x.state.attributing = true) :
    x.abortDraining.state = .draining := by
  unfold abortDraining
  cases state : x.state <;> simp_all [LaneState.attributing]

/-- R111, R136: the sheet that is dropped and the lane that drains do not touch each other. -/
theorem dropped_abortDraining {s : State} {id : Nat} (l : Fin 8) (r : Sheet) {u : State}
    (hu : u = (s.modBatch id (fun c => { c with state := .aborted })).modLane l Lane.abortDraining)
    (images : imagesComplete u r = imagesComplete s r) :
    dropped l r u = ((dropped l r s).modLane l Lane.abortDraining).modBatch id (fun c => { c with state := .aborted }) := by
  unfold dropped
  rw [images]
  subst hu
  set f : Lane → Lane := fun x => { x with
    settleOrder := x.settleOrder.erase r.tag
    sampleDue := if x.gateHolder = some r.tag then none else x.sampleDue
    acc := if x.gateHolder = some r.tag then .empty else x.acc
    toHead := if x.linkUp = true ∧ imagesComplete s r = false then x.toHead ++ [withdrawFrame r.tag] else x.toHead }
  have commutes (x : Lane) : f x.abortDraining = (f x).abortDraining := by
    unfold Lane.abortDraining
    by_cases drains : x.state = .spinup ∨ x.state = .feeding ∨ x.state = .halted
    · rw [if_pos drains, if_pos (by exact drains)]
    · rw [if_neg drains, if_neg (by exact drains)]
  calc _ = (((freedOf r s).modLane l Lane.abortDraining).modLane l f).modBatch id
        (fun c => { c with state := .aborted }) := rfl
    _ = _ := by
      rw [State.modLane_modLane, State.modLane_modLane]
      exact congrArg (fun v : State => v.modBatch id (fun c => { c with state := .aborted }))
        (State.modLane_congr _ l (commutes _))

/-- R137: while the lane has paper in its path the batch stays. -/
theorem interior_abort_stays {s : State} {id : Nat} {b : Batch} {l : Fin 8} (found : s.batch? id = some b)
    (own : b.lane = l) (queued : id ∈ (s.lane l).batchQueue) (path : (s.lane l).path ≠ []) (held : ∀ h ∈ s.held, h.batch ≠ id)
    (entries : ∀ d, noneQueuedAt id s d) :
    (testAbort id (drainTest l (abortRest id s))).interior = s.interior := by
  subst own
  have inside : s.inLaneQueue b = true := by
    rw [State.inLaneQueue, State.id_of_batch? found]
    exact decide_eq_true queued
  have busy : (({ s with freeIndex := s.freeIndex + 1 } : State).lane b.lane).drained = false := drained_of_path path
  have same : ({ s with freeIndex := s.freeIndex + 1 } : State).interior = s.interior := rfl
  rw [abortRest_of_none held entries, drainTest_of_not_drained busy, interior_testAbort_congr same, interior_testAbort found,
    if_neg (by simp [inside])]

section
variable {s : State} {id : Nat} {b : Batch} (found : s.batch? id = some b) (held : ∀ h ∈ s.held, h.batch ≠ id)
  (queued : ∀ d, noneQueuedAt id s d)
include found held queued

/-- R136: a lane with paper in its path and nothing unsettled drains. -/
theorem abortActive_drains (picking : (s.lane b.lane).picking = none) (order : (s.lane b.lane).settleOrder = [])
    (path : (s.lane b.lane).path ≠ []) (head : (s.lane b.lane).batchQueue.head? = some id) :
    (testAbort id (drainTest b.lane (abortRest id (abortActive id b.lane s)))).interior =
      ((s.modBatch id (fun c => { c with state := .aborted })).modLane b.lane Lane.abortDraining).interior := by
  set u := (s.modBatch id (fun c => { c with state := .aborted })).modLane b.lane Lane.abortDraining with hu
  have lane : u.lane b.lane = (s.lane b.lane).abortDraining := State.lane_modLane_same _ _ _
  obtain ⟨samePath, sameOrder, sameQueue, -⟩ := Lane.abortDraining_lists (s.lane b.lane)
  have drained : abortDrained id b.lane s = u := by rw [abortDrained, freePicking_of_none _ _ picking]
  have batch : u.batch? id = some { b with state := .aborted } := by
    rw [hu, State.batch?_modLane, State.batch?_modBatch_same _ _ _ (fun _ => by rfl), found]
    rfl
  rw [abortActive_eq, drained, poke_of_empty (by rw [lane, sameOrder, order])]
  exact interior_abort_stays batch rfl (by rw [lane, sameQueue]; exact List.mem_of_mem_head? head)
    (by rwa [lane, samePath]) held queued

/-- R136, R138: a picking sheet is freed, one unsettled sheet settled DISCARDED. -/
theorem abortActive_discards {p g : Tag} {q r : Sheet} (picking : (s.lane b.lane).picking = some p)
    (pick : s.sheet? p = some q) (other : p ≠ g) (order : (s.lane b.lane).settleOrder = [g])
    (live : s.sheet? g = some r) (own : r.batch = id) (path : (s.lane b.lane).path ≠ [])
    (head : (s.lane b.lane).batchQueue.head? = some id) :
    (testAbort id (drainTest b.lane (abortRest id (abortActive id b.lane s)))).interior =
      (((dropped b.lane r ((freedOf q s).modLane b.lane (fun x => { x with picking := none, pickWindow := none }))).modBatch
        id (fun c => { c with
          state := .aborted, settled := min (c.settled + 1) 65535,
          discarded := min (c.discarded + 1) 65535 })).modLane b.lane Lane.abortDraining).interior := by
  subst own
  set freed := (freedOf q s).modLane b.lane (fun x => { x with picking := none, pickWindow := none }) with hfreed
  set aborted := (freed.modBatch r.batch (fun c => { c with state := .aborted })).modLane b.lane Lane.abortDraining
    with haborted
  have freeing : freePicking b.lane s = freed := by simp only [freePicking, picking, freeRecord_of_sheet? pick, hfreed]
  have drained : abortDrained r.batch b.lane s = aborted := by rw [abortDrained, freeing]
  have unpicked : freed.lane b.lane = { s.lane b.lane with picking := none, pickWindow := none } :=
    State.lane_modLane_same _ _ _
  have lane : aborted.lane b.lane = (freed.lane b.lane).abortDraining := State.lane_modLane_same _ _ _
  obtain ⟨samePath, sameOrder, sameQueue, -⟩ := Lane.abortDraining_lists (freed.lane b.lane)
  have left : (aborted.lane b.lane).settleOrder = [g] := by rw [lane, sameOrder, unpicked, order]
  have sheets (h : Tag) : aborted.sheet? h = if h = p then none else s.sheet? h := by
    have read := freedOf_sheet? q s h
    rwa [State.tag_of_sheet? pick] at read
  have cursor : aborted.sheet? g = some r := by rw [sheets, if_neg other.symm, live]
  have batch : aborted.batch? r.batch = some { b with state := .aborted } := by
    rw [haborted, State.batch?_modLane, State.batch?_modBatch_same _ _ _ (fun _ => by rfl)]
    exact congrArg (Option.map _) found
  have aborting : batchAborting aborted r = true := by
    rw [batchAborting, State.batchOf, batch]
    rfl
  have settled : poke b.lane aborted = (dropped b.lane r aborted).modBatch r.batch (fun c => { c with
      settled := min (c.settled + 1) 65535, discarded := min (c.discarded + 1) 65535 }) := by
    rw [poke_of_single left, if_pos (cursorReady_of_dropped cursor (.inr (.inl aborting))),
      settleCursor_discards b.lane cursor (.inr aborting)]
  have images : imagesComplete aborted r = imagesComplete freed r := by
    have sides := batchOf_modBatch_of_kept freed r.batch r.batch Batch.sides (f := fun c => { c with state := .aborted })
      (fun _ => rfl) (fun _ => rfl)
    change (match (aborted.batchOf r.batch).sides with | .simplex => _ | .duplex => _) = _
    rw [show (aborted.batchOf r.batch).sides = _ from sides]
    rfl
  have result : poke b.lane aborted = ((dropped b.lane r freed).modBatch r.batch (fun c => { c with
      state := .aborted, settled := min (c.settled + 1) 65535,
      discarded := min (c.discarded + 1) 65535 })).modLane b.lane Lane.abortDraining := by
    rw [settled, dropped_abortDraining b.lane r haborted images, State.modBatch_modBatch _ _ _ _ (fun _ => by rfl)]
    rfl
  rw [abortActive_eq, drained, result]
  have ends := lane_dropped b.lane r freed
  set last := ((dropped b.lane r freed).modBatch r.batch (fun c => { c with
    state := .aborted, settled := min (c.settled + 1) 65535,
    discarded := min (c.discarded + 1) 65535 })).modLane b.lane Lane.abortDraining with hlast
  have lastLane : last.lane b.lane = ((dropped b.lane r freed).lane b.lane).abortDraining := State.lane_modLane_same _ _ _
  obtain ⟨lastPath, -, lastQueue, -⟩ := Lane.abortDraining_lists ((dropped b.lane r freed).lane b.lane)
  have lastBatch : last.batch? r.batch = some { b with
      state := .aborted, settled := min (b.settled + 1) 65535, discarded := min (b.discarded + 1) 65535 } := by
    rw [hlast, State.batch?_modLane, State.batch?_modBatch_same _ _ _ (fun _ => by rfl)]
    exact congrArg (Option.map _) found
  refine interior_abort_stays lastBatch rfl ?_ ?_ held fun d => ?_
  · rw [lastLane, lastQueue, ends, unpicked]
    exact List.mem_of_mem_head? head
  · rw [lastLane, lastPath, ends, unpicked]
    exact path
  · refine noneQueuedAt_of_fewer (queued d) rfl fun h y hy => ⟨y, ?_, rfl⟩
    have dropping := (sheet?_dropped b.lane r freed h).symm.trans hy
    split at dropping
    · cases dropping
    · have freeing := (freedOf_sheet? q s h).symm.trans dropping
      split at freeing
      · cases freeing
      · exact freeing

/-- R43, R137: a lane with nothing left in it completes its drain. -/
theorem abortActive_completes {rest : List Nat} (attributing : (s.lane b.lane).state.attributing = true)
    (picking : (s.lane b.lane).picking = none) (path : (s.lane b.lane).path = [])
    (order : (s.lane b.lane).settleOrder = []) (queue : (s.lane b.lane).batchQueue = id :: rest) (once : id ∉ rest) :
    let emptied := s.modLane b.lane (fun x => { x with
      state := .idle, haltReason := if x.state = .draining then x.haltReason else .none, spinTarget := none
      spinRemaining := none, idleRemaining := idleMs x.idleCode, drainCause := .none, batchQueue := rest })
    (testAbort id (drainTest b.lane (abortRest id (abortActive id b.lane s)))).interior =
      (if b.deliveriesPending = 0 then reportedOf { b with state := .aborted } .aborted emptied
        else emptied.modBatch id (fun c => { c with state := .aborted })).interior := by
  intro emptied
  set u := (s.modBatch id (fun c => { c with state := .aborted })).modLane b.lane Lane.abortDraining with hu
  have lane : u.lane b.lane = (s.lane b.lane).abortDraining := State.lane_modLane_same _ _ _
  obtain ⟨samePath, sameOrder, sameQueue, samePicking, cause⟩ := Lane.abortDraining_lists (s.lane b.lane)
  have drained : abortDrained id b.lane s = u := by rw [abortDrained, freePicking_of_none _ _ picking]
  have batch : u.batch? id = some { b with state := .aborted } := by
    rw [hu, State.batch?_modLane, State.batch?_modBatch_same _ _ _ (fun _ => by rfl), found]
    rfl
  have active : activeWith u b.lane id rest { b with state := .aborted } :=
    ⟨by rw [lane, sameQueue, queue], once, batch, rfl, .inr (.inr rfl), fun _ => rfl⟩
  have completes : (u.lane b.lane).drained = true := by
    rw [drained_iff, lane, samePicking, samePath, sameOrder]
    exact ⟨Lane.abortDraining_state attributing, picking, path, order⟩
  have left : (u.modLane b.lane Lane.rested).modLane b.lane (fun x => { x with batchQueue := rest }) =
      emptied.modBatch id (fun c => { c with state := .aborted }) := by
    have drainedLane : Lane.rested (s.lane b.lane).abortDraining = { s.lane b.lane with
        state := .idle, haltReason := if (s.lane b.lane).state = .draining then (s.lane b.lane).haltReason else .none
        spinTarget := none, spinRemaining := none, idleRemaining := idleMs (s.lane b.lane).idleCode
        drainCause := .none } := by
      unfold Lane.abortDraining Lane.rested
      cases state : (s.lane b.lane).state <;> simp_all [LaneState.attributing]
    calc _ = (((s.modLane b.lane Lane.abortDraining).modLane b.lane Lane.rested).modLane b.lane
          (fun x => { x with batchQueue := rest })).modBatch id (fun c => { c with state := .aborted }) := rfl
      _ = _ := by
        rw [State.modLane_modLane, State.modLane_modLane]
        exact congrArg (fun v : State => v.modBatch id (fun c => { c with state := .aborted }))
          (State.modLane_congr s b.lane (congrArg (fun x : Lane => { x with batchQueue := rest }) drainedLane))
  have own : b.id = id := State.id_of_batch? found
  have done : (drainTest b.lane u).interior = (if b.deliveriesPending = 0 then
      reportedOf { b with state := .aborted } .aborted emptied
        else emptied.modBatch id (fun c => { c with state := .aborted })).interior := by
    have batchOf : (u.modLane b.lane Lane.rested).batchOf id = { b with state := .aborted } := by
      rw [State.batchOf_modLane, State.batchOf, batch]
      rfl
    rw [interior_drainTest_of_drained active completes, drainDone, lane, cause, departed, batchOf]
    dsimp only [leftLane]
    rw [left]
    split
    · rw [reportedOf_modBatch (b := { b with state := .aborted }) own _ _ (fun _ => by rfl)]
    · rfl
  have same : ({ u with freeIndex := u.freeIndex + 1 } : State).interior = u.interior := rfl
  rw [abortActive_eq, drained, poke_of_empty (by rw [lane, sameOrder, order]),
    abortRest_of_none (s := u) held queued, interior_testAbort_congr ((interior_drainTest_congr same b.lane).trans done)]
  split
  next =>
    have gone : (reportedOf { b with state := .aborted } .aborted emptied).batch? id = none := by
      rw [batch?_reportedOf, if_pos own.symm]
    simp only [testAbort, gone]
  next pends =>
    have kept : (emptied.modBatch id (fun c => { c with state := .aborted })).batch? id =
        some { b with state := .aborted } :=
      (State.batch?_modBatch_same _ _ _ (fun _ => by rfl)).trans (congrArg (Option.map _) found)
    rw [interior_testAbort kept, if_neg fun h => pends h.2.2]

end

/-! ### BATCH_ABORT -/

theorem waitingEntries_eq (s : State) (x : Fin 16) : waitingEntries s x =
    if isOf x (s.port (s.dest x).port).current = true ∨ isOf x (s.port (s.dest x).port).suspended = true then
      (s.dest x).queue.drop 1 else (s.dest x).queue :=
  if_congr (by simp [headInProgress]) rfl rfl

/-- Settles O28: what the batch's held sheets and entries and its lane each leave of the abort. -/
theorem batchAbortAbortsBatch : Obligations.BatchAbortAbortsBatch := by
  intro s d id b waits length named nonzero found unqueued draining noneHeld noneQueued active
  have body : withLength 2 (withId batchAbort) d.params s.dequeued = batchAbort id d.params s.dequeued := by
    unfold withLength withId
    rw [if_pos length, named, if_neg nonzero]
  have same : s.dequeued.interior = s.interior := rfl
  have inactive (state : b.state = .queued ∨ b.state = .ended) :
      ∃ t, exec .batchAbort s = .next t ∧ answered d .ok [] s t ∧
        t.interior = (testAbort id (abortRest id (abortUnqueued id b.lane s.dequeued))).interior := by
    refine runDirective_keeps waits (body.trans (batchAbort_inactive (s := s.dequeued) found d.params state)) ?_
    refine .trans ?_ (.trans (keepsReplies_abortRest id _) (keepsReplies_testAbort id _))
    exact ⟨rfl, rfl, rfl, rfl⟩
  have activated (state : b.state = .feeding ∨ b.state = .draining) :
      ∃ t, exec .batchAbort s = .next t ∧ answered d .ok [] s t ∧ t.interior =
        (testAbort id (drainTest b.lane (abortRest id (abortActive id b.lane s.dequeued)))).interior := by
    refine runDirective_keeps waits (body.trans (batchAbort_active (s := s.dequeued) found d.params state)) ?_
    exact .trans (keepsReplies_abortActive id b.lane _) (.trans (keepsReplies_abortRest id _)
      (.trans (keepsReplies_drainTest b.lane _) (keepsReplies_testAbort id _)))
  refine ⟨fun held queued state pending once => ?_, fun e r queued state pending once held live => ?_,
    fun x held state once others idle => ?_, fun held queued run picking order => ?_,
    fun p q g r held queued run picking pick other order live own => ?_,
    fun rest held queued state attributing picking path order queue once => ?_⟩
  · obtain ⟨t, next, reply, left⟩ := inactive state
    refine ⟨t, next, reply, (left.trans (abort_ends_at_once (s := s.dequeued) found once pending held queued)).trans ?_⟩
    exact interior_reportedOf_congr (interior_modLane_congr same b.lane _) _ _
  · obtain ⟨t, next, reply, left⟩ := inactive state
    refine ⟨t, next, reply,
      (left.trans (abort_discards_held (s := s.dequeued) found once pending queued held live)).trans ?_⟩
    refine interior_reportedOf_congr (interior_update_congr (freedOf r) (fun _ => rfl)
      (interior_modLane_congr ?_ b.lane _)) _ _
    exact interior_update_congr (fun u => { u with held := u.held.filter (fun h => decide (h.tag ≠ e.tag)) })
      (fun _ => rfl) same
  · intro q inDelivery head behind removed counted most
    obtain ⟨t, next, reply, left⟩ := inactive state
    have waiting : waitingEntries s x = behind := waitingEntries_eq s x
    have mine : abortedEntries id s.dequeued x = removed := congrArg (List.filter _) waiting
    have kept : keptEntries id s.dequeued x = head ++ behind.filter (fun e => decide (entryBatch s e ≠ some id)) :=
      congrArg₂ (· ++ ·) (if_congr (by simp [headInProgress]; rfl) rfl rfl) (congrArg (List.filter _) waiting)
    have all := abort_removes_entries (s := s.dequeued) found once held others idle (by rw [mine]; exact counted)
      (by rw [mine]; exact most) left
    rw [mine, kept] at all
    exact ⟨t, next, reply, all⟩
  · obtain ⟨t, next, reply, left⟩ := activated run.1
    obtain ⟨-, -, path, head⟩ := run
    refine ⟨t, next, reply,
      (left.trans (abortActive_drains (s := s.dequeued) found held queued picking order path head)).trans ?_⟩
    exact interior_modLane_congr (interior_modBatch_congr same id _) b.lane _
  · obtain ⟨t, next, reply, left⟩ := activated run.1
    obtain ⟨-, -, path, head⟩ := run
    refine ⟨t, next, reply, (left.trans (abortActive_discards (s := s.dequeued) found held queued picking pick other order
      live own path head)).trans ?_⟩
    refine interior_modLane_congr (interior_modBatch_congr (interior_update_congr (dropped b.lane r) (fun _ => rfl)
      (interior_modLane_congr ?_ b.lane _)) id _) b.lane _
    exact interior_update_congr (freedOf q) (fun _ => rfl) same
  · obtain ⟨t, next, reply, left⟩ := activated state
    refine ⟨t, next, reply, (left.trans (abortActive_completes (s := s.dequeued) found held queued attributing picking path
      order queue once)).trans ?_⟩
    have laneIdle := interior_modLane_congr same b.lane (fun x => { x with
      state := .idle, haltReason := if x.state = .draining then x.haltReason else .none, spinTarget := none
      spinRemaining := none, idleRemaining := idleMs x.idleCode, drainCause := .none, batchQueue := rest })
    split
    · exact interior_reportedOf_congr laneIdle _ _
    · exact interior_modBatch_congr laneIdle id _

end Sys2Proof.Machine
end

section
/-!
PROOF. The shared tables (R32, R33, R98, R142): the records of a list directive, and what PROFILE_LOAD, STORE_SET and
SEPARATOR_LOAD store.
-/

namespace Sys2Proof.Machine

/-! ### The records of a list directive (chapter 11) -/

section
variable {ps : List Byte} {n j k : Nat} (i : Nat)

/-- A field inside record `i` is read where it stands among the parameters. -/
theorem rd_recordAt (inside : j + k ≤ n) : rd (recordAt ps n i) j k = rd ps (1 + n * i + j) k := by
  have bytes : ((recordAt ps n i).drop j).take k = (ps.drop (1 + n * i + j)).take k := by
    rw [recordAt, List.drop_take, List.drop_drop, List.take_take, Nat.min_eq_left (by omega)]
  rw [rd, rd, bytes]

theorem rdFlag_recordAt (inside : j + 1 ≤ n) : rdFlag (recordAt ps n i) j = rdFlag ps (1 + n * i + j) := by
  rw [rdFlag, rdFlag, rd_recordAt i inside]

end

theorem any_records (ps : List Byte) (n : Nat) (p : List Byte → Bool) :
    (records ps n).any p = (List.range (rd ps 0 1)).any (fun i => p (recordAt ps n i)) := List.any_map

theorem all_records (ps : List Byte) (n : Nat) (p : List Byte → Bool) :
    (records ps n).all p = (List.range (rd ps 0 1)).all (fun i => p (recordAt ps n i)) := List.all_map

/-- Every record stored as `step` says is the fold of `step` over the record numbers. -/
theorem foldl_records {ps : List Byte} {n : Nat} {store : State → List Byte → State} {step : State → Nat → State}
    (h : ∀ u i, i < rd ps 0 1 → store u (recordAt ps n i) = step u i) (s : State) :
    (records ps n).foldl store s = (List.range (rd ps 0 1)).foldl step s := by
  rw [records, List.foldl_map]
  exact List.foldl_ext _ _ s fun u i hi => h u i (List.mem_range.mp hi)

theorem listFits_iff (ps : List Byte) (n max : Nat) :
    listFits ps n max = true ↔ 1 ≤ rd ps 0 1 ∧ rd ps 0 1 ≤ max ∧ ps.length = 1 + n * rd ps 0 1 := by
  simp [listFits, and_assoc]

theorem listFits_eq_false {ps : List Byte} {n max : Nat}
    (h : rd ps 0 1 = 0 ∨ max < rd ps 0 1 ∨ ps.length ≠ 1 + n * rd ps 0 1) : listFits ps n max = false := by
  rw [Bool.eq_false_iff, Ne, listFits_iff]
  rintro ⟨low, high, fits⟩
  rcases h with h | h | h
  · omega
  · omega
  · exact h fits

/-- R130: a batch in FEEDING or DRAINING is in use. -/
theorem Batch.inUse_eq_false (b : Batch) : b.inUse = false ↔ b.state ≠ .feeding ∧ b.state ≠ .draining := by
  simp [Batch.inUse]

/-! ### PROFILE_LOAD (R32, R33) -/

/-- The profile that record `i` of a PROFILE_LOAD stores (R33). -/
def loadedProfile (ps : List Byte) (i : Nat) : Profile :=
  Profile.mk (rdFlag ps (2 + 15 * i)) (max 1 (rd ps (1 + 15 * i + 2) 2 % 4096)) (max 1 (rd ps (1 + 15 * i + 2) 2 % 4096))
    (max 257 (rd ps (1 + 15 * i + 6) 2 % 1024)) (max 1 (rd ps (1 + 15 * i + 8) 1)) (min 31 (rd ps (1 + 15 * i + 9) 1))
    (min 9999 (rd ps (1 + 15 * i + 10) 2)) (min 999 (rd ps (1 + 15 * i + 12) 2)) (rdFlag ps (15 + 15 * i))

theorem carriedProfile_recordAt (ps : List Byte) (i : Nat) : carriedProfile (recordAt ps 15 i) =
    Profile.mk (rdFlag ps (2 + 15 * i)) (rd ps (1 + 15 * i + 2) 2 % 4096) (rd ps (1 + 15 * i + 2) 2 % 4096)
      (rd ps (1 + 15 * i + 6) 2 % 1024) (rd ps (1 + 15 * i + 8) 1) (rd ps (1 + 15 * i + 9) 1)
      (rd ps (1 + 15 * i + 10) 2) (rd ps (1 + 15 * i + 12) 2) (rdFlag ps (15 + 15 * i)) := by
  simp only [carriedProfile, rd_recordAt, rdFlag_recordAt, Nat.reduceAdd, Nat.reduceLeDiff]
  rw [show 1 + 15 * i + 1 = 2 + 15 * i by omega, show 1 + 15 * i + 14 = 15 + 15 * i by omega]

theorem clamp_recordAt (ps : List Byte) (i : Nat) : (carriedProfile (recordAt ps 15 i)).clamp = loadedProfile ps i := by
  rw [carriedProfile_recordAt]
  rfl

/-- R33: whether a value of the profile lies outside its range. -/
theorem needsClamp_iff (p : Profile) : p.needsClamp = true ↔ p.b0 = 0 ∨ p.threshold < 257 ∨ p.runLength = 0 ∨
    31 < p.guardE ∨ 9999 < p.nominal ∨ 999 < p.tolerance := by
  unfold Profile.needsClamp Profile.clamp
  rw [decide_eq_true_iff, Ne, Profile.mk.injEq]
  dsimp only
  simp only [true_and, and_true]
  omega

theorem storeProfile_recordAt {ps : List Byte} {i : Nat} (index : rd ps (1 + 15 * i + 0) 1 ≤ 15) (u : State) :
    storeProfile u (recordAt ps 15 i) =
      u.modProfile (Fin.ofNat 16 (rd ps (1 + 15 * i + 0) 1)) (fun _ => loadedProfile ps i) := by
  have named : sixteenOf (rd ps (1 + 15 * i + 0) 1) = some (Fin.ofNat 16 (rd ps (1 + 15 * i + 0) 1)) :=
    sixteenOf_val (Nat.mod_eq_of_lt (by omega)).symm
  rw [storeProfile, rd_recordAt i (by omega), named, clamp_recordAt]

/-- R32: whether record `i` names a profile in use. -/
theorem profileInUse_recordAt (s : State) (ps : List Byte) (i : Nat) : profileInUse s (recordAt ps 15 i) = true ↔
    ¬ ∀ b ∈ s.batches, b.profile.val = rd ps (1 + 15 * i + 0) 1 → b.state ≠ .feeding ∧ b.state ≠ .draining := by
  simp only [profileInUse, rd_recordAt i (show 0 + 1 ≤ 15 by omega), List.any_eq_true, Bool.and_eq_true,
    decide_eq_true_iff, not_forall, exists_prop, ← Batch.inUse_eq_false, Bool.not_eq_false]
  exact ⟨fun ⟨b, listed, used, named⟩ => ⟨b, listed, named, used⟩, fun ⟨b, listed, named, used⟩ => ⟨b, listed, used, named⟩⟩

/-- Each step that the interior takes alike keeps states with one interior so. -/
theorem interior_foldl_congr {α : Type} {f : State → α → State}
    (hf : ∀ u v x, u.interior = v.interior → (f u x).interior = (f v x).interior) (xs : List α) {s t : State}
    (h : s.interior = t.interior) : (xs.foldl f s).interior = (xs.foldl f t).interior := by
  induction xs generalizing s t with
  | nil => exact h
  | cons x rest ih => exact ih (hf s t x h)

section
variable {ps : List Byte} {s : State} (fits : listFits ps 15 16 = true)
include fits

theorem profileLoad_range (h : ∃ i, i < rd ps 0 1 ∧ 15 < rd ps (1 + 15 * i + 0) 1) : profileLoad ps s = refuse .range s := by
  obtain ⟨i, listed, above⟩ := h
  have outside : (records ps 15).any (fun r => decide (15 < rd r 0 1)) = true := by
    rw [any_records, List.any_eq_true]
    exact ⟨i, List.mem_range.mpr listed, by rw [rd_recordAt i (by omega)]; exact decide_eq_true above⟩
  unfold profileLoad
  rw [if_neg (by rw [fits]; exact Bool.noConfusion)]
  exact if_pos outside

theorem profileLoad_inRange (h : ∀ i, i < rd ps 0 1 → rd ps (1 + 15 * i + 0) 1 ≤ 15) : profileLoad ps s =
    if (records ps 15).any (profileInUse s) then refuse .inUse s
    else acceptClamped ((records ps 15).any (fun r => (carriedProfile r).needsClamp)) ((records ps 15).foldl storeProfile s) := by
  have inside : ¬ (records ps 15).any (fun r => decide (15 < rd r 0 1)) = true := by
    rw [any_records, List.any_eq_true]
    rintro ⟨i, listed, above⟩
    rw [rd_recordAt i (by omega), decide_eq_true_iff] at above
    have := h i (List.mem_range.mp listed)
    omega
  unfold profileLoad
  rw [if_neg (by rw [fits]; exact Bool.noConfusion)]
  exact if_neg inside

end

theorem keepsReplies_storeProfile (u : State) (rec : List Byte) : KeepsReplies u (storeProfile u rec) := by
  unfold storeProfile
  split <;> exact ⟨rfl, rfl, rfl, rfl⟩

theorem interior_modProfile_congr {s t : State} (h : s.interior = t.interior) (i : Fin 16) (p : Profile) :
    (s.modProfile i (fun _ => p)).interior = (t.modProfile i (fun _ => p)).interior :=
  interior_update_congr (fun u => u.modProfile i (fun _ => p)) (fun _ => rfl) h

/-! ### STORE_SET (R98) -/

theorem keepsReplies_storeSet (ps : List Byte) (s : State) : KeepsReplies s (storeSet ps s).state := by
  unfold storeSet acceptClamped
  dsimp only
  split
  · refine .trans ?_ (keepsReplies_raise _ _)
    exact ⟨rfl, rfl, rfl, rfl⟩
  · exact ⟨rfl, rfl, rfl, rfl⟩

/-! ### SEPARATOR_LOAD (R142) -/

/-- The pattern that record `i` of a SEPARATOR_LOAD stores. -/
def loadedSeparator (ps : List Byte) (i : Nat) : Separator :=
  Separator.mk (rdFlag ps (2 + 12 * i)) (BitVec.ofNat 32 (rd ps (1 + 12 * i + 2) 4))
    (BitVec.ofNat 32 (rd ps (1 + 12 * i + 6) 4)) (if rd ps (1 + 12 * i + 10) 1 = 0 then .docBreak else .batchBreak)
    (rdFlag ps (12 + 12 * i))

theorem SeparatorAction.ofCode_of_le {n : Nat} (h : n ≤ 1) :
    SeparatorAction.ofCode n = some (if n = 0 then .docBreak else .batchBreak) := by
  interval_cases n <;> rfl

theorem SeparatorAction.ofCode_isSome (n : Nat) : (SeparatorAction.ofCode n).isSome = true ↔ n ≤ 1 := by
  constructor
  · intro h
    unfold SeparatorAction.ofCode at h
    split at h
    · exact Nat.zero_le 1
    · exact Nat.le_refl 1
    · exact absurd h Bool.false_ne_true
  · intro h
    rw [SeparatorAction.ofCode_of_le h]
    rfl

theorem separatorInRange_recordAt (ps : List Byte) (i : Nat) : separatorInRange (recordAt ps 12 i) = true ↔
    rd ps (1 + 12 * i + 0) 1 ≤ 7 ∧ rd ps (1 + 12 * i + 10) 1 ≤ 1 := by
  rw [separatorInRange, rd_recordAt i (by omega), rd_recordAt i (by omega), Bool.and_eq_true, decide_eq_true_iff,
    SeparatorAction.ofCode_isSome, Nat.lt_succ_iff]

theorem separatorInUse_recordAt (s : State) (ps : List Byte) (i : Nat) : separatorInUse s (recordAt ps 12 i) = true ↔
    ¬ ∀ b ∈ s.batches, b.mask.getLsbD (rd ps (1 + 12 * i + 0) 1) = true → b.state ≠ .feeding ∧ b.state ≠ .draining := by
  simp only [separatorInUse, rd_recordAt i (show 0 + 1 ≤ 12 by omega), List.any_eq_true, Bool.and_eq_true,
    not_forall, exists_prop, ← Batch.inUse_eq_false, Bool.not_eq_false]
  exact ⟨fun ⟨b, listed, used, named⟩ => ⟨b, listed, named, used⟩, fun ⟨b, listed, named, used⟩ => ⟨b, listed, used, named⟩⟩

theorem carriedSeparator_recordAt {ps : List Byte} {i : Nat} (action : rd ps (1 + 12 * i + 10) 1 ≤ 1) :
    carriedSeparator (recordAt ps 12 i) = loadedSeparator ps i := by
  simp only [carriedSeparator, rd_recordAt, rdFlag_recordAt, Nat.reduceAdd, Nat.reduceLeDiff,
    SeparatorAction.ofCode_of_le action, Option.getD_some]
  rw [show 1 + 12 * i + 1 = 2 + 12 * i by omega, show 1 + 12 * i + 11 = 12 + 12 * i by omega]
  rfl

theorem storeSeparator_recordAt {ps : List Byte} {i : Nat}
    (good : rd ps (1 + 12 * i + 0) 1 ≤ 7 ∧ rd ps (1 + 12 * i + 10) 1 ≤ 1) (u : State) :
    storeSeparator u (recordAt ps 12 i) =
      { u with separators := u.separators.setIfInBounds (rd ps (1 + 12 * i + 0) 1) (loadedSeparator ps i) } := by
  obtain ⟨index, action⟩ := good
  have named : laneOf (rd ps (1 + 12 * i + 0) 1) = some ⟨rd ps (1 + 12 * i + 0) 1, by omega⟩ := laneOf_val rfl
  rw [storeSeparator, rd_recordAt i (by omega), named, carriedSeparator_recordAt action]
  have stored : u.separators.setIfInBounds (rd ps (1 + 12 * i + 0) 1) (loadedSeparator ps i) =
      u.separators.set (rd ps (1 + 12 * i + 0) 1) (loadedSeparator ps i) (by omega) := by
    ext j hj : 1
    rw [Vector.getElem_setIfInBounds, Vector.getElem_set]
  rw [stored]

/-- The patterns alone are stored. -/
theorem foldl_separators (entry : Nat → Separator) (index : Nat → Nat) (is : List Nat) (s : State) :
    is.foldl (fun u i => { u with separators := u.separators.setIfInBounds (index i) (entry i) }) s =
      { s with separators := is.foldl (fun v i => v.setIfInBounds (index i) (entry i)) s.separators } := by
  induction is generalizing s with
  | nil => rfl
  | cons i rest ih => rw [List.foldl_cons, ih, List.foldl_cons]

section
variable {ps : List Byte} {s : State} (fits : listFits ps 12 8 = true)
include fits

theorem separatorLoad_range
    (h : ∃ i, i < rd ps 0 1 ∧ ¬ (rd ps (1 + 12 * i + 0) 1 ≤ 7 ∧ rd ps (1 + 12 * i + 10) 1 ≤ 1)) :
    separatorLoad ps s = refuse .range s := by
  obtain ⟨i, listed, outside⟩ := h
  have bad : (records ps 12).all separatorInRange = false := by
    rw [all_records, Bool.eq_false_iff, Ne, List.all_eq_true]
    exact fun all => outside ((separatorInRange_recordAt ps i).mp (all i (List.mem_range.mpr listed)))
  unfold separatorLoad
  rw [if_neg (by rw [fits]; exact Bool.noConfusion)]
  exact if_pos bad

theorem separatorLoad_inRange
    (h : ∀ i, i < rd ps 0 1 → rd ps (1 + 12 * i + 0) 1 ≤ 7 ∧ rd ps (1 + 12 * i + 10) 1 ≤ 1) :
    separatorLoad ps s = if (records ps 12).any (separatorInUse s) then refuse .inUse s
      else accept ((records ps 12).foldl storeSeparator s) := by
  have good : (records ps 12).all separatorInRange = true := by
    rw [all_records, List.all_eq_true]
    exact fun i listed => (separatorInRange_recordAt ps i).mpr (h i (List.mem_range.mp listed))
  unfold separatorLoad
  rw [if_neg (by rw [fits]; exact Bool.noConfusion)]
  exact if_neg (by rw [good]; exact Bool.noConfusion)

end

theorem keepsReplies_storeSeparator (u : State) (rec : List Byte) : KeepsReplies u (storeSeparator u rec) := by
  unfold storeSeparator
  split <;> exact ⟨rfl, rfl, rfl, rfl⟩

/-- Settles O22: each load is its checks over the records, then the fold of its stores over the record numbers. -/
theorem sharedTablesStoreSettings : Obligations.SharedTablesStoreSettings := by
  intro s d count gives
  refine ⟨fun waits => ?_, fun waits length => ?_, fun waits => ?_⟩
  · intro field free changed entry
    refine ⟨fun misfit => runDirective_refuses waits (if_pos (listFits_eq_false misfit)), fun low high fit => ?_⟩
    have fits : listFits d.params 15 16 = true := (listFits_iff _ _ _).mpr ⟨low, high, fit⟩
    refine ⟨fun outside => runDirective_refuses waits (profileLoad_range fits outside), fun inside used => ?_,
      fun inside unused => ?_⟩
    · have body := profileLoad_inRange (s := s.dequeued) fits inside
      rw [if_pos] at body
      · exact runDirective_refuses waits body
      · obtain ⟨i, listed, used⟩ := used
        rw [any_records, List.any_eq_true]
        exact ⟨i, List.mem_range.mpr listed, (profileInUse_recordAt s.dequeued d.params i).mpr used⟩
    · have body := profileLoad_inRange (s := s.dequeued) fits inside
      rw [if_neg] at body
      · have stored := foldl_records (n := 15) (fun u i hi => storeProfile_recordAt (inside i hi) u) s.dequeued
        have clamped : (records d.params 15).any (fun r => (carriedProfile r).needsClamp) =
            (List.range count).any (fun i => decide (changed i)) := by
          rw [any_records]
          refine congrArg (List.any _) (funext fun i => ?_)
          rw [Bool.eq_iff_iff, needsClamp_iff, decide_eq_true_iff, carriedProfile_recordAt]
        rw [clamped] at body
        obtain ⟨t, next, reply, left⟩ := runDirective_keeps waits body (keepsReplies_foldl keepsReplies_storeProfile _ _)
        refine ⟨t, next, reply, left.trans ?_⟩
        rw [stored]
        exact interior_foldl_congr (f := fun u i =>
          u.modProfile (Fin.ofNat 16 (rd d.params (1 + 15 * i + 0) 1)) (fun _ => loadedProfile d.params i))
          (fun u v i h => interior_modProfile_congr h _ _) _ rfl
      · rw [any_records, List.any_eq_true]
        rintro ⟨i, listed, used⟩
        exact (profileInUse_recordAt s.dequeued d.params i).mp used (unused i (List.mem_range.mp listed))
  · have body : withLength 2 storeSet d.params s.dequeued = storeSet d.params s.dequeued := if_pos length
    have left : (storeSet d.params s.dequeued).state.interior = (if s.lowMark ≤ s.free ∧ s.free < min 4096 (rd d.params 0 2) then
          ({ s with lowMark := min 4096 (rd d.params 0 2) } : State).setFlag (.device .storeLow) true
        else { s with lowMark := min 4096 (rd d.params 0 2) }).interior := by
      unfold storeSet acceptClamped
      dsimp only
      split
      · exact interior_raise _ _
      · rfl
    obtain ⟨t, next, reply, same⟩ := runDirective_keeps waits (body.trans rfl) (keepsReplies_storeSet d.params s.dequeued)
    simp only [decide_eq_true_iff] at reply
    exact ⟨t, next, reply, same.trans left⟩
  · intro field good free entry
    refine ⟨fun misfit => runDirective_refuses waits (if_pos (listFits_eq_false misfit)), fun low high fit => ?_⟩
    have fits : listFits d.params 12 8 = true := (listFits_iff _ _ _).mpr ⟨low, high, fit⟩
    refine ⟨fun outside => runDirective_refuses waits (separatorLoad_range fits outside), fun inside used => ?_,
      fun inside unused => ?_⟩
    · have body := separatorLoad_inRange (s := s.dequeued) fits inside
      rw [if_pos] at body
      · exact runDirective_refuses waits body
      · obtain ⟨i, listed, used⟩ := used
        rw [any_records, List.any_eq_true]
        exact ⟨i, List.mem_range.mpr listed, (separatorInUse_recordAt s.dequeued d.params i).mpr used⟩
    · have body := separatorLoad_inRange (s := s.dequeued) fits inside
      rw [if_neg] at body
      · have stored := foldl_records (n := 12) (fun u i hi => storeSeparator_recordAt (inside i hi) u) s.dequeued
        rw [foldl_separators] at stored
        obtain ⟨t, next, reply, left⟩ := runDirective_keeps waits body (keepsReplies_foldl keepsReplies_storeSeparator _ _)
        refine ⟨t, next, reply, left.trans ?_⟩
        rw [stored]
        rfl
      · rw [any_records, List.any_eq_true]
        rintro ⟨i, listed, used⟩
        exact (separatorInUse_recordAt s.dequeued d.params i).mp used (unused i (List.mem_range.mp listed))

end Sys2Proof.Machine
end

section
/-!
PROOF. The reading directives (R197): the fields of their reply data, and each read's data in the order of R197.
-/

namespace Sys2Proof.Machine

/-! ### A read's answer (R184, R197) -/

/-- A directive that reads is answered with its data, and changes nothing. -/
theorem runDirective_reads {row : DirectiveRow} {d : Directive} {s : State} (h : waiting row d s)
    {body : List Byte → State → Executed} {data : List Byte}
    (hb : body d.params s.dequeued = answerData data s.dequeued) :
    ∃ t, (Host.Outcome.next (runDirective row body s) : Answer) = .next t ∧ t.interior = s.interior ∧
      answered d .ok data s t := by
  obtain ⟨t, next, reply, left⟩ := runDirective_keeps (u := s.dequeued) h hb (.refl _)
  exact ⟨t, next, left, reply⟩

theorem withLength_of_length {d : Directive} {n : Nat} (h : d.params.length = n) (body : List Byte → State → Executed)
    (s : State) : withLength n body d.params s = body d.params s := if_pos h

theorem withLength_zero {d : Directive} (h : d.params = []) (body : List Byte → State → Executed) (s : State) :
    withLength 0 body d.params s = body d.params s := withLength_of_length (by rw [h]; rfl) body s

theorem withId_of_nonzero {d : Directive} {n : Nat} (length : d.params.length = n) (nonzero : rd d.params 0 2 ≠ 0)
    {body : Nat → List Byte → State → Executed} {s : State} :
    withLength n (withId body) d.params s = body (rd d.params 0 2) d.params s := by
  rw [withLength_of_length length, withId, if_neg nonzero]

/-! ### Fields (R196, R197) -/

/-- R197: an absent countdown is all ones. -/
theorem countdownField_two (c : Option Nat) : countdownField 2 c = be 2 (c.getD 0xFFFF) := by
  cases c <;> rfl

theorem countdownField_four (c : Option Nat) : countdownField 4 c = be 4 (c.getD 0xFFFFFFFF) := by
  cases c <;> rfl

theorem captureField_eq (c : Option Tick) : captureField c = be 3 (c.elim 0 BitVec.toNat) := by
  cases c <;> rfl

theorem getD_map_zero {α : Type} (f : α → Nat) (c : Option α) : (c.map f).getD 0 = c.elim 0 f := by
  cases c <;> rfl

/-- R197: the places of a bit field, each worth its power of two. -/
theorem bitsToNat_eq_sum (bs : List Bool) (k : Nat) :
    2 ^ k * bitsToNat bs = ((bs.zipIdx k).map (fun y => if y.1 = true then 2 ^ y.2 else 0)).sum := by
  induction bs generalizing k with
  | nil => rfl
  | cons b rest ih =>
    rw [List.zipIdx_cons, List.map_cons, List.sum_cons, ← ih, bitsToNat, Nat.mul_add, ← Nat.mul_assoc, ← Nat.pow_succ]
    cases b <;> simp [flagByte]

theorem bitsToNat_places (bs : List Bool) :
    bitsToNat bs = ((bs.zipIdx 0).map (fun y => if y.1 = true then 2 ^ y.2 else 0)).sum := by
  rw [← bitsToNat_eq_sum, Nat.pow_zero, Nat.one_mul]

theorem bitsToNat_pair (a b : Bool) : bitsToNat [a, b] = flagByte a + 2 * flagByte b := by
  simp [bitsToNat]

theorem bitsToNat_triple (a b c : Bool) : bitsToNat [a, b, c] = flagByte a + 2 * flagByte b + 4 * flagByte c := by
  simp only [bitsToNat]
  omega

/-- The value of place `k` of a bit field. -/
def placeValue (k : Nat) (b : Bool) : Nat := if b then 2 ^ k else 0

/-- R126: the presence word. -/
theorem presence_eq (r : Sheet) : r.presence = placeValue 0 r.lead.isSome + placeValue 1 r.trail.isSome +
    placeValue 2 r.exitLead.isSome + placeValue 3 r.exitTrail.isSome + placeValue 4 r.samples.isSome +
    placeValue 5 r.patch.isSome + placeValue 6 r.separatorMatch.isSome + placeValue 7 (decide (r.queueWait ≠ [])) +
    placeValue 8 r.outcome.isSome + placeValue 9 r.kind.isSome + placeValue 10 r.document.isSome +
    placeValue 11 r.routeBank.isSome := by
  have waits : (!r.queueWait.isEmpty) = decide (r.queueWait ≠ []) := by cases r.queueWait <;> rfl
  rw [Sheet.presence, waits, bitsToNat_places]
  simp only [List.zipIdx_cons, List.zipIdx_nil, List.map_cons, List.map_nil, List.sum_cons, List.sum_nil, Nat.add_zero,
    Nat.zero_add, Nat.reduceAdd, Nat.add_assoc, placeValue]

theorem marks_eq (r : Sheet) : r.marks = placeValue 0 r.pastDivert + placeValue 1 r.divertDone +
    placeValue 2 r.imageTimeout + placeValue 3 r.frontLast + placeValue 4 r.backLast := by
  rw [Sheet.marks, bitsToNat_places]
  simp only [List.zipIdx_cons, List.zipIdx_nil, List.map_cons, List.map_nil, List.sum_cons, List.sum_nil, Nat.add_zero,
    Nat.zero_add, Nat.reduceAdd, Nat.add_assoc, placeValue]

theorem destBits_eq (ds : List (Fin 16)) :
    destBits ds = (allDests.map (fun x => placeValue x.val (decide (x ∈ ds)))).sum := by
  rw [destBits, bitsToNat_places]
  rfl

/-- A tag's number names the tag. -/
theorem tagOf_tagCode (g : Tag) : tagOf (tagCode g) = some g := by
  obtain ⟨lane, seq⟩ := g
  have small : lane.val * 4096 + seq.val < 32768 := by omega
  unfold tagOf tagCode
  rw [dif_pos small]
  refine congrArg some ?_
  congr 1
  · exact Fin.ext (by dsimp only; omega)
  · exact Fin.ext (by dsimp only; omega)

theorem portOfCode_portCode (p : Port) : portOfCode (portCode p) = some p := by cases p <;> rfl

theorem Bank.ofCode_code (b : Bank) : Bank.ofCode b.code = some b := by cases b <;> rfl

/-! ### SHEET_READ (R126) -/

theorem sheetRead_of_tag {ps : List Byte} {s : State} {r : Sheet} (named : rd ps 0 2 = tagCode r.tag)
    (live : s.sheet? r.tag = some r) : sheetRead ps s = answerData (sheetReport r) s := by
  unfold sheetRead
  rw [named, tagOf_tagCode]
  simp only [live]

/-! ### ROUTE_READ (R161) -/

/-- A stretch of a list, each element with its place. -/
theorem zipIdx_take_drop {α : Type} (xs : List α) (a : α) {first count : Nat} (h : first + count ≤ xs.length) :
    ((xs.drop first).take count).zipIdx first = (List.range' first count).map (fun i => (xs.getD i a, i)) := by
  refine List.ext_getElem (by simp; omega) fun i hi hj => ?_
  have inside : first + i < xs.length := by simp at hj; omega
  simp [List.getD_eq_getElem?_getD, List.getElem?_eq_getElem inside]

/-- R161: the stretch of the bank that the parameters name. -/
theorem routeRead_of_names {ps : List Byte} {s : State} {b : Bank} (named : rd ps 0 1 = b.code) (first : rd ps 1 1 ≤ 63)
    (low : 1 ≤ rd ps 2 1) (high : rd ps 2 1 ≤ 16) (fits : rd ps 1 1 + rd ps 2 1 ≤ 64) :
    routeRead ps s = answerData (be 1 s.activeBank.code ++ (List.range' (rd ps 1 1) (rd ps 2 1)).flatMap (fun i =>
      routeRecord s i ((s.bank b).toList.getD i .invalid))) s := by
  have inRange : ¬ (63 < rd ps 1 1 ∨ rd ps 2 1 = 0 ∨ 16 < rd ps 2 1 ∨ 64 < rd ps 1 1 + rd ps 2 1) := by omega
  unfold routeRead
  rw [named, Bank.ofCode_code]
  dsimp only
  rw [if_neg inRange, zipIdx_take_drop _ .invalid (by simpa using fits), List.flatMap_map]

theorem routeRecord_eq (s : State) (i : Nat) (e : RouteEntry) : routeRecord s i e =
    be 1 i ++ be 1 (flagByte e.valid) ++ be 1 e.classValue.toNat ++ be 1 e.classMask.toNat ++
      be 1 (flagByte e.front + 2 * flagByte e.back) ++
      be 1 (flagByte e.ordinary + 2 * flagByte e.separator + 4 * flagByte e.suspect) ++ be 1 e.dests.length ++
      (e.dests.flatMap (fun y => be 1 y.val) ++ fill s (10 * i + 7 + e.dests.length) 3).take 3 := by
  rw [routeRecord, bitsToNat_pair, bitsToNat_triple]

/-! ### DEST_READ (R179) -/

/-- R167: only the head of a queue is in delivery. -/
theorem headProgress_eq (s : State) (x : Fin 16) : headProgress s x =
    if isOf x (s.port (s.dest x).port).current = true then
      some (1, (s.port (s.dest x).port).current.elim 0 Delivery.progress)
    else if isOf x (s.port (s.dest x).port).suspended = true then
      some (2, (s.port (s.dest x).port).suspended.elim 0 Delivery.progress)
    else none := by
  unfold headProgress
  dsimp only
  cases (s.port (s.dest x).port).current with
  | none =>
    cases (s.port (s.dest x).port).suspended with
    | none => rfl
    | some u => by_cases own : u.dest = x <;> simp [isOf, own]
  | some c =>
    cases (s.port (s.dest x).port).suspended with
    | none => by_cases own : c.dest = x <;> simp [isOf, own]
    | some u => by_cases own : c.dest = x <;> by_cases other : u.dest = x <;> simp [isOf, own, other]

theorem entryRecord_eq (s : State) (x : Fin 16) (i : Nat) (e : DeliveryEntry) : entryRecord s x i e =
    be 2 (tagCode e.sheet) ++ be 1 (flagByte e.front + 2 * flagByte e.back) ++ be 2 e.strips ++ be 1 e.kind.code ++
      (if i = 0 ∧ isOf x (s.port (s.dest x).port).current = true then
          be 1 1 ++ be 2 ((s.port (s.dest x).port).current.elim 0 Delivery.progress)
        else if i = 0 ∧ isOf x (s.port (s.dest x).port).suspended = true then
          be 1 2 ++ be 2 ((s.port (s.dest x).port).suspended.elim 0 Delivery.progress)
        else be 1 0 ++ fill s (2 * i) 2) := by
  unfold entryRecord
  rw [bitsToNat_pair]
  congr 1
  by_cases head : i = 0
  · rw [if_pos head, headProgress_eq]
    simp only [head, true_and]
    by_cases current : isOf x (s.port (s.dest x).port).current = true
    · simp only [if_pos current]
    · by_cases suspended : isOf x (s.port (s.dest x).port).suspended = true
      · simp only [if_neg current, if_pos suspended]
      · simp only [if_neg current, if_neg suspended]
  · rw [if_neg head, if_neg fun h => head h.1, if_neg fun h => head h.1]

/-! ### LANE_READ (R66) -/

/-- What a picking sheet's retries are sent as, and what stands for those of an absent one. -/
def retriesField (s : State) (l : Fin 8) : Option Tag → List Byte
  | some _ => be 1 (pickingRetries s l)
  | none => fill s 0 1

theorem pickingField_eq (s : State) (l : Fin 8) :
    pickingField s l = tagField (s.lane l).picking ++ retriesField s l (s.lane l).picking := by
  unfold pickingField
  cases (s.lane l).picking <;> rfl

/-- LANE_READ's data as one list of fields. -/
theorem laneRead_eq (s : State) (l : Fin 8) (ps : List Byte) :
    let x := s.lane l
    let c := x.config
    let a := if x.acc.sheet.isSome then x.acc else .empty
    laneRead l ps s = answerData (
      be 1 x.state.code ++ be 1 (SpinTarget.code x.spinTarget) ++ be 1 x.drainCause.code ++
      be 1 x.haltReason.code ++ be 1 x.jamReason.code ++ be 1 (pickHeld s l).code ++
      be 2 ((s.activeBatch l).getD 0) ++ tagField x.picking ++ retriesField s l x.picking ++
      be 1 (openSheets s l) ++ tagField x.gateHolder ++ tagField x.exitHolder ++ nextPickField s x.nextPick ++
      be 2 x.sequence.val ++
      be 1 c.prescale.toNat ++ be 3 c.gap ++ be 3 c.pickPulse ++ be 3 c.pickWindow ++ be 2 c.sampleInterval ++
      be 3 c.gateLimit ++ be 3 c.imageWindow ++ be 3 c.exitWindow ++ be 3 c.divertPulse ++ be 1 c.depth ++
      be 1 c.retryLimit ++ be 2 c.reserve ++ be 2 c.pitch ++
      be 3 x.counter.toNat ++ be 3 x.lastLead.toNat ++ be 3 x.lastTrail.toNat ++ be 3 x.lastExitLead.toNat ++
      be 3 x.lastExitTrail.toNat ++
      tagField a.sheet ++ be 2 a.m ++ be 2 a.n ++ be 2 a.run ++ be 2 a.longest ++ be 2 x.lastSample ++
      be 2 x.spinTime ++ be 1 x.idleCode ++ be 2 (x.spinRemaining.getD 0xFFFF) ++
      be 4 (x.idleRemaining.getD 0xFFFFFFFF) ++ be 1 (flagByte x.coverCondition) ++
      be 1 (bitsToNat (allLines.map (fun n => decide (x.level (x.line n) = .high)))) ++ be 1 (linkCode x.linkUp) ++
      be 2 x.orphans ++ be 2 x.malformed ++
      be 1 x.batchQueue.length ++
      x.batchQueue.flatMap (fun id => be 2 id ++ be 1 (s.batchOf id).state.code) ++
      be 1 x.path.length ++ x.path.flatMap (fun e => be 2 (tagCode e.tag) ++ be 1 (flagByte e.exited)) ++
      be 1 x.settleOrder.length ++ x.settleOrder.flatMap (fun g => be 2 (tagCode g))) s := by
  intro x c a
  unfold laneRead sequencerPart Lane.timerPart Lane.measurePart Lane.linePart listPart LaneConfig.bytes
  simp only [pickingField_eq, countdownField_two, countdownField_four, List.append_assoc, x, c, a]

/-! ### BATCH_READ (R139) -/

section
variable {s : State} {id : Nat} {b : Batch} (ps : List Byte)

theorem batchRead_live (live : s.batch? id = some b) :
    batchRead id ps s = answerData (be 1 1 ++ be 2 b.id ++ be 1 b.lane.val ++ be 1 b.routeClass.toNat ++
      be 1 b.profile.val ++ be 1 b.sides.code ++ be 2 b.expected ++ be 1 b.action.code ++ be 1 b.mask.toNat ++
      be 1 b.state.code ++ be 1 (flagByte (s.inLaneQueue b)) ++ be 2 b.fed ++
      be 2 b.settled ++ be 2 b.released ++ be 2 b.heldNow ++ be 2 b.holds ++ be 2 b.diverted ++ be 2 b.discarded ++
      be 2 b.gaps ++ be 2 b.deliveriesPending ++ be 2 b.document ++ be 2 b.page ++ be 2 b.documents ++
      be 1 (flagByte b.breakPending)) s := by
  have found : batchRead id ps s = answerData (be 1 1 ++ batchRecord s b) s := by
    unfold batchRead
    rw [live]
  refine found.trans ?_
  unfold batchRecord
  simp only [List.append_assoc]

theorem batchRead_reported {final : FinalState} (gone : s.batch? id = none) (last : s.lastReport = some ⟨b, final⟩)
    (own : b.id = id) :
    batchRead id ps s = answerData (be 1 0 ++ be 2 b.id ++ be 1 b.lane.val ++ be 1 b.routeClass.toNat ++
      be 1 b.profile.val ++ be 1 b.sides.code ++ be 2 b.expected ++ be 1 b.action.code ++ be 1 b.mask.toNat ++
      be 1 final.code ++ be 2 b.fed ++ be 2 b.settled ++ be 2 b.released ++ be 2 b.holds ++ be 2 b.diverted ++
      be 2 b.discarded ++ be 2 b.gaps ++ be 2 b.heldNow ++ be 2 b.deliveriesPending ++ be 2 b.documents ++
      be 2 b.document ++ be 2 b.page) s := by
  have found : batchRead id ps s = answerData (be 1 0 ++ Report.bytes ⟨b, final⟩) s := by
    unfold batchRead
    rw [gone, last]
    exact if_pos own
  refine found.trans ?_
  unfold Report.bytes
  simp only [List.append_assoc]

end

/-! ### The reads -/

/-- Settles O23: each read's body answers with its data, field by field that of R197. -/
theorem readsAnswerAndChangeNothing : Obligations.ReadsAnswerAndChangeNothing := by
  intro s d gives
  refine ⟨fun i waits named => ?_, fun waits empty => ?_, fun waits empty => ?_, fun i waits named => ?_,
    fun b waits length nonzero live => ?_, fun b final waits length nonzero gone last own => ?_,
    fun l waits named => ?_, fun l waits named => ?_, fun r waits length named live => ?_,
    fun bank waits named first low high fits => ?_, fun e waits named => ?_, fun p waits named => ?_,
    fun waits empty => ?_⟩
  · exact runDirective_reads waits (withSixteen_of_names named profileRead s.dequeued)
  · exact runDirective_reads waits (withLength_zero empty storeRead s.dequeued)
  · exact runDirective_reads waits (withLength_zero empty heldList s.dequeued)
  · refine runDirective_reads waits ((withLength_of_length named.1 separatorRead s.dequeued).trans ?_)
    unfold separatorRead
    rw [laneOf_val named.2]
    rfl
  · exact runDirective_reads waits ((withId_of_nonzero length nonzero).trans
      (batchRead_live (s := s.dequeued) d.params live))
  · exact runDirective_reads waits ((withId_of_nonzero length nonzero).trans
      (batchRead_reported (s := s.dequeued) d.params gone last own))
  · intro x c a
    exact runDirective_reads waits ((withLane_of_names named laneRead s.dequeued).trans
      (laneRead_eq s.dequeued l d.params))
  · exact runDirective_reads waits (withLane_of_names named linesRead s.dequeued)
  · intro present capture samples
    refine runDirective_reads waits ((withLength_of_length length sheetRead s.dequeued).trans ?_)
    refine (sheetRead_of_tag (s := s.dequeued) named live).trans ?_
    unfold sheetReport
    simp only [presence_eq, marks_eq, destBits_eq, captureField_eq, getD_map_zero, List.flatMap_append, List.append_assoc]
    rfl
  · intro entries
    refine runDirective_reads waits ((withLength_of_length named.1 routeRead s.dequeued).trans ?_)
    refine (routeRead_of_names (s := s.dequeued) named.2 first low high fits).trans ?_
    simp only [routeRecord_eq]
    cases bank <;> rfl
  · intro x q
    refine runDirective_reads waits ((withSixteen_of_names named destRead s.dequeued).trans ?_)
    unfold destRead
    simp only [entryRecord_eq]
    rfl
  · intro delivery
    refine runDirective_reads waits ((withLength_of_length named.1 portRead s.dequeued).trans ?_)
    unfold portRead
    rw [named.2, portOfCode_portCode]
    have record (k : Nat) (c : Option Delivery) : deliveryRecord s.dequeued k c = delivery k c := by cases c <;> rfl
    simp only [record]
    rfl
  · exact runDirective_reads waits (withLength_zero empty eventsRead s.dequeued)

end Sys2Proof.Machine
end

section
/-!
PROOF. What every command but a lead and a pick keeps: the capacities of tables, lists, queues and credit, each lane's
picking sheet, and the order of its unsettled sheets, which leave at the head alone (R53, R102, R105, R120, R128, R129,
R167, R170, R188). Said once for each shared operation.
-/

namespace Sys2Proof.Machine

/-! ### The relation -/

/-- A lane whose lists stay in their capacities (R53, R129), with the same picking sheet or none, and with sheets gone
from its settlement order at the head alone (R105). -/
structure Lane.Keeps (x y : Lane) : Prop where
  path : y.path.length ≤ max x.path.length 128
  queue : y.batchQueue.length ≤ max x.batchQueue.length 4
  picking : y.picking = x.picking ∨ y.picking = none
  order : y.settleOrder <:+ x.settleOrder

/-- A destination whose queue and credit stay in their ranges (R167, R170). -/
structure Dest.Keeps (x y : Dest) : Prop where
  queue : y.queue.length ≤ max x.queue.length 48
  credit : y.credit ≤ max x.credit 4095

/-- From `s` to `t` nothing has passed its capacity that had not before, and no sheet has joined a lane's settlement order
or become a picking sheet. -/
structure Keeps (s t : State) : Prop where
  sheets : t.sheets.length ≤ max s.sheets.length 128
  held : t.held.length ≤ max s.held.length 48
  batches : t.batches.length ≤ max s.batches.length 16
  notices : t.notices.length ≤ max s.notices.length 16
  lanes : ∀ l, (s.lane l).Keeps (t.lane l)
  dests : ∀ d, (s.dest d).Keeps (t.dest d)

/-- What stays within what it was or a capacity does so in two steps. -/
theorem within_trans {a b c cap : Nat} (h : b ≤ max a cap) (k : c ≤ max b cap) : c ≤ max a cap :=
  k.trans (max_le h (le_max_right _ _))

theorem Lane.Keeps.refl (x : Lane) : x.Keeps x :=
  ⟨le_max_left _ _, le_max_left _ _, .inl rfl, List.suffix_refl _⟩

theorem Lane.Keeps.trans {x y z : Lane} (h : x.Keeps y) (k : y.Keeps z) : x.Keeps z where
  path := within_trans h.path k.path
  queue := within_trans h.queue k.queue
  picking := by
    rcases k.picking with same | none
    · rw [same]
      exact h.picking
    · exact .inr none
  order := k.order.trans h.order

/-- The lists of a lane that `Lane.Keeps` speaks of. -/
def Lane.lists (x : Lane) : List PathEntry × List Nat × List Tag := (x.path, x.batchQueue, x.settleOrder)

/-- A lane with the same lists that has its picking sheet still, or none. -/
theorem Lane.Keeps.of_lists {x y : Lane} (lists : y.lists = x.lists)
    (picking : y.picking = x.picking ∨ y.picking = none) : x.Keeps y := by
  simp only [Lane.lists, Prod.mk.injEq] at lists
  obtain ⟨path, queue, order⟩ := lists
  exact ⟨path ▸ le_max_left _ _, queue ▸ le_max_left _ _, picking, order ▸ List.suffix_refl _⟩

/-- A lane with the same lists and picking sheet. -/
theorem Lane.Keeps.of_same {x y : Lane} (same : (y.lists, y.picking) = (x.lists, x.picking)) : x.Keeps y := by
  rw [Prod.mk.injEq] at same
  obtain ⟨lists, picking⟩ := same
  exact .of_lists lists (.inl picking)

theorem Dest.Keeps.refl (x : Dest) : x.Keeps x := ⟨le_max_left _ _, le_max_left _ _⟩

theorem Dest.Keeps.trans {x y z : Dest} (h : x.Keeps y) (k : y.Keeps z) : x.Keeps z :=
  ⟨within_trans h.queue k.queue, within_trans h.credit k.credit⟩

/-- A destination whose queue and credit have not grown. -/
theorem Dest.Keeps.of_le {x y : Dest} (queue : y.queue.length ≤ x.queue.length) (credit : y.credit ≤ x.credit) :
    x.Keeps y := ⟨le_max_of_le_left queue, le_max_of_le_left credit⟩

theorem Keeps.refl (s : State) : Keeps s s :=
  ⟨le_max_left _ _, le_max_left _ _, le_max_left _ _, le_max_left _ _, fun _ => .refl _, fun _ => .refl _⟩

theorem Keeps.trans {s t u : State} (h : Keeps s t) (k : Keeps t u) : Keeps s u where
  sheets := within_trans h.sheets k.sheets
  held := within_trans h.held k.held
  batches := within_trans h.batches k.batches
  notices := within_trans h.notices k.notices
  lanes l := (h.lanes l).trans (k.lanes l)
  dests d := (h.dests d).trans (k.dests d)

/-- An operation that keeps all this keeps what was kept before it. -/
theorem keeps_foldl {α : Type} {s t : State} {f : State → α → State} (step : ∀ u x, Keeps s u → Keeps s (f u x))
    (xs : List α) (h : Keeps s t) : Keeps s (xs.foldl f t) := by
  induction xs generalizing t with
  | nil => exact h
  | cons x rest ih => exact ih (step t x h)

/-- The parts that `Keeps` speaks of. -/
def State.lists (s : State) :
    Vector Lane 8 × List Sheet × List HeldEntry × List Batch × List Notice × Vector Dest 16 :=
  (s.lanes, s.sheets, s.held, s.batches, s.notices, s.dests)

/-! ### Updates of one part -/

section
variable {s t u : State}

/-- An update of other parts. -/
theorem keeps_congr (h : Keeps s t) (lists : u.lists = t.lists) : Keeps s u := by
  simp only [State.lists, Prod.mk.injEq] at lists
  obtain ⟨lanes, sheets, held, batches, notices, dests⟩ := lists
  refine ⟨sheets ▸ h.sheets, held ▸ h.held, batches ▸ h.batches, notices ▸ h.notices, fun l => ?_, fun d => ?_⟩
  · rw [State.lane_eq_of_lanes lanes l]
    exact h.lanes l
  · rw [show u.dest d = t.dest d by simp only [State.dest, dests]]
    exact h.dests d

variable (h : Keeps s t)
include h

theorem keeps_sheets {xs : List Sheet} (few : xs.length ≤ max t.sheets.length 128) :
    Keeps s { t with sheets := xs } := { h with sheets := within_trans h.sheets few }

theorem keeps_held {xs : List HeldEntry} (few : xs.length ≤ max t.held.length 48) :
    Keeps s { t with held := xs } := { h with held := within_trans h.held few }

theorem keeps_batches {xs : List Batch} (few : xs.length ≤ max t.batches.length 16) :
    Keeps s { t with batches := xs } := { h with batches := within_trans h.batches few }

theorem keeps_notices {xs : List Notice} (few : xs.length ≤ max t.notices.length 16) :
    Keeps s { t with notices := xs } := { h with notices := within_trans h.notices few }

theorem keeps_setLane {l : Fin 8} {y : Lane} (kept : (t.lane l).Keeps y) : Keeps s (t.setLane l y) :=
  { h with
    lanes := fun k => by
      refine (h.lanes k).trans ?_
      by_cases same : k = l
      · subst same
        rwa [State.lane_setLane_same]
      · rw [State.lane_setLane_other t y same]
        exact .refl _ }

theorem keeps_modLane {l : Fin 8} {f : Lane → Lane} (kept : (t.lane l).Keeps (f (t.lane l))) :
    Keeps s (t.modLane l f) := keeps_setLane h kept

theorem keeps_modDest {d : Fin 16} {f : Dest → Dest} (kept : (t.dest d).Keeps (f (t.dest d))) :
    Keeps s (t.modDest d f) :=
  { h with
    dests := fun k => by
      refine (h.dests k).trans ?_
      by_cases same : k = d
      · subst same
        rwa [State.dest_modDest_same]
      · rw [State.dest_modDest_other t f same]
        exact .refl _ }

theorem keeps_modSheet (g : Tag) (f : Sheet → Sheet) : Keeps s (t.modSheet g f) :=
  keeps_sheets h (by simp)

theorem keeps_modBatch (id : Nat) (f : Batch → Batch) : Keeps s (t.modBatch id f) :=
  keeps_batches h (by simp)

theorem keeps_modProfile (i : Fin 16) (f : Profile → Profile) : Keeps s (t.modProfile i f) := keeps_congr h (by rfl)

theorem keeps_modPort (p : Port) (f : PortState → PortState) : Keeps s (t.modPort p f) := by
  cases p <;> exact keeps_congr h (by rfl)

/-! ### Flags and notices (R186 to R190) -/

theorem keeps_formNotice (b : NoticeBody) : Keeps s (formNotice b t) := by
  unfold formNotice
  split
  · exact h
  · split
    · exact keeps_notices h (by rw [List.length_append, List.length_singleton]; omega)
    · unfold loseNotice
      split
      · exact keeps_congr h (by rfl)
      · dsimp only
        split <;> exact keeps_congr h (by rfl)

theorem keeps_raise (f : Flag) : Keeps s (raise f t) := by
  unfold raise
  split
  · exact h
  · dsimp only
    split
    · exact keeps_formNotice (keeps_congr h (by rfl)) _
    · exact keeps_congr h (by rfl)

theorem keeps_placePendingLost : Keeps s (placePendingLost t) := by
  unfold placePendingLost
  split
  · exact h
  next n _ =>
    split
    next room =>
      exact keeps_congr (keeps_notices (xs := t.notices ++ [n]) h
        (by rw [List.length_append, List.length_singleton]; omega)) (by rfl)
    · exact h

/-! ### The ports (R170 to R175) -/

theorem keeps_sendStrip (p : Port) (c : Delivery) : Keeps s (sendStrip p c t) := by
  unfold sendStrip
  split
  · exact h
  · exact keeps_modPort h p _

/-- R170: a started delivery takes from the credit. -/
theorem keeps_startDelivery (p : Port) (d : Fin 16) : Keeps s (startDelivery p d t) := by
  unfold startDelivery
  split
  · exact h
  next e _ _ =>
    exact keeps_sendStrip (keeps_modPort (keeps_modDest h (.of_le le_rfl (Nat.sub_le _ e.strips))) p _) p _

theorem keeps_chooseDelivery (p : Port) : Keeps s (chooseDelivery p t) := by
  unfold chooseDelivery
  dsimp only
  split
  · split
    · split
      · exact keeps_startDelivery (keeps_modPort h p _) p _
      · exact keeps_sendStrip h p _
    · exact keeps_sendStrip h p _
  · split
    · exact keeps_startDelivery h p _
    · split
      · exact keeps_sendStrip (keeps_modPort h p _) p _
      · split
        · exact keeps_startDelivery h p _
        · split
          · exact keeps_startDelivery h p _
          · split
            · exact keeps_startDelivery h p _
            · exact h

theorem keeps_boundary (p : Port) : Keeps s (boundary p t) := by
  unfold boundary
  dsimp only
  split
  · split
    · exact keeps_modPort h p _
    · split
      · exact keeps_modPort (keeps_placePendingLost
          (keeps_notices h (le_max_of_le_left (List.length_eraseP_le)))) p _
      · exact keeps_chooseDelivery h p
  · exact h

theorem keeps_kickPorts : Keeps s (kickPorts t) :=
  keeps_boundary (keeps_boundary (keeps_boundary h _) _) _

theorem keeps_pushReply (p : Port) (r : Reply) : Keeps s (pushReply p r t) := keeps_modPort h p _

/-! ### Records, batches and the lane -/

theorem keeps_freeRecord (g : Tag) : Keeps s (freeRecord g t) := by
  unfold freeRecord
  split
  · exact h
  · exact keeps_congr (keeps_sheets h (le_max_of_le_left (List.length_filter_le (fun q => decide (q.tag ≠ g)) _))) (by rfl)

theorem keeps_freePicking (l : Fin 8) : Keeps s (freePicking l t) := by
  unfold freePicking
  split
  · exact h
  · exact keeps_modLane (keeps_freeRecord h _) (.of_lists rfl (.inr rfl))

theorem keeps_sendHead (l : Fin 8) (frame : List Byte) : Keeps s (sendHead l frame t) := by
  unfold sendHead
  split
  · exact keeps_modLane h (.of_same rfl)
  · exact h

theorem keeps_lowerFree (n : Nat) : Keeps s (lowerFree n t) := by
  unfold lowerFree
  dsimp only
  split
  · exact keeps_raise (keeps_congr h (by rfl)) _
  · exact keeps_congr h (by rfl)

theorem keeps_returnReserve (g : Tag) : Keeps s (returnReserve g t) := by
  unfold returnReserve
  split
  · exact h
  · exact keeps_modSheet (keeps_congr h (by rfl)) g _

theorem keeps_fileStrip (src : BlockSource) (g : Tag) (side : Side) (last : Bool) (payload : List Byte) :
    Keeps s (fileStrip src g side last payload t) := by
  have taken : Keeps s (takeBlock src g t) := by
    cases src with
    | reserve => exact keeps_modSheet (keeps_congr h (by rfl)) g _
    | pool => exact keeps_lowerFree (keeps_congr h (by rfl)) 1
    | nowhere => exact h
  exact keeps_modSheet (keeps_congr taken (by rfl)) g _

theorem keeps_numberSheet (g : Tag) : Keeps s (numberSheet g t) := by
  unfold numberSheet
  split
  · exact h
  · exact keeps_modSheet (keeps_modBatch h _ _) g _

theorem keeps_finishBatch (final : FinalState) (id : Nat) : Keeps s (finishBatch final id t) := by
  unfold finishBatch
  split
  · exact h
  · have freed : Keeps s { t with batches := t.batches.filter (fun c => decide (c.id ≠ id)) } :=
      keeps_batches h (le_max_of_le_left (List.length_filter_le _ _))
    unfold handReport
    dsimp only
    split
    · exact keeps_formNotice (keeps_congr freed (by rfl)) _
    · exact keeps_congr freed (by rfl)

theorem keeps_testClosure (id : Nat) : Keeps s (testClosure id t) := by
  unfold testClosure
  split
  · exact h
  · split
    · exact keeps_finishBatch h _ id
    · exact h

theorem keeps_testAbort (id : Nat) : Keeps s (testAbort id t) := by
  unfold testAbort
  split
  · exact h
  · split
    · exact keeps_finishBatch h _ id
    · exact h

theorem keeps_testBatch (id : Nat) : Keeps s (testBatch id t) := keeps_testAbort (keeps_testClosure h id) id

theorem keeps_testBatches (ids : List Nat) : Keeps s (testBatches ids t) :=
  keeps_foldl (fun _ id k => keeps_testBatch k id) _ (keeps_congr h (by rfl))

theorem keeps_unqueued (l : Fin 8) (id : Nat) :
    Keeps s (t.modLane l (fun x => { x with batchQueue := x.batchQueue.erase id })) :=
  keeps_modLane h { Lane.Keeps.refl (t.lane l) with queue := le_max_of_le_left (List.length_erase_le) }

theorem keeps_batchLeaves (l : Fin 8) : Keeps s (batchLeaves l t) := by
  unfold batchLeaves
  have ready : Keeps s (t.modLane l (fun x => { x with drainCause := .none })) := keeps_modLane h (.of_same rfl)
  dsimp only
  split
  · exact ready
  · split
    · exact keeps_modBatch ready _ _
    · exact keeps_modBatch ready _ _
    · exact keeps_testClosure (keeps_raise (keeps_unqueued (keeps_modBatch ready _ _) l _) _) _
    · exact keeps_testAbort (keeps_unqueued ready l _) _

theorem keeps_drainTest (l : Fin 8) : Keeps s (drainTest l t) := by
  unfold drainTest
  split
  · exact keeps_batchLeaves (keeps_modLane h (.of_same rfl)) l
  · exact h

theorem keeps_halt (l : Fin 8) (why : HaltReason) : Keeps s (halt l why t) := by
  unfold halt
  split
  · exact keeps_raise (keeps_modLane h (.of_same rfl)) _
  · exact h

theorem keeps_endFeeding (l : Fin 8) : Keeps s (endFeeding l t) := by
  unfold endFeeding
  dsimp only
  split
  · refine keeps_setLane h ?_
    split <;> exact .of_same rfl
  · refine keeps_setLane (keeps_modBatch h _ _) ?_
    split <;> exact .of_same rfl

end

end Sys2Proof.Machine
end

section
/-!
PROOF. What settlement, the feed sequencer, edges and the ports' frames keep of capacities, picking sheets and settlement
orders.
-/

namespace Sys2Proof.Machine

/-! ### Settlement (R105, R109 to R118) -/

theorem erase_suffix_of_head {g : Tag} {xs : List Tag} (head : xs.head? = some g) : xs.erase g <:+ xs := by
  obtain ⟨rest, rfl⟩ := List.head?_eq_some_iff.mp head
  rw [List.erase_cons_head]
  exact List.suffix_cons g rest

/-- R116: a sheet has at most one entry for a destination. -/
theorem deliveryEntries_nodup {s : State} {r : Sheet} {kind : Kind} {es : List (Fin 16 × DeliveryEntry)}
    (listed : deliveryEntries s r kind = some es) : (es.map Prod.fst).Nodup := by
  unfold deliveryEntries at listed
  split at listed
  next f b _ _ =>
    cases listed
    have named : ∀ d x, x ∈ (entryFor r kind f b d).map Prod.fst → x = d := fun d x => by
      unfold entryFor
      dsimp only
      split
      · rintro ⟨⟩
        rfl
      · simp
    rw [List.map_filterMap]
    exact List.Nodup.filterMap (fun d e x hd he => (named d x hd).symm.trans (named e x he)) (by decide)
  · cases listed

theorem fullDests_eq_nil_iff (s : State) (es : List (Fin 16 × DeliveryEntry)) :
    fullDests s es = [] ↔ ∀ e ∈ es, (s.dest e.1).queue.length < 48 := by
  unfold fullDests
  rw [List.filter_eq_nil_iff, List.forall_mem_map]
  simp only [decide_eq_true_eq, Nat.not_le]
  rfl

section
variable {s t : State} {l : Fin 8} {g : Tag}

theorem keeps_appendEntries {es : List (Fin 16 × DeliveryEntry)} (h : Keeps s t) (once : (es.map Prod.fst).Nodup)
    (room : fullDests t es = []) : Keeps s (es.foldl appendEntry t) := by
  rw [fullDests_eq_nil_iff] at room
  induction es generalizing t with
  | nil => exact h
  | cons e rest ih =>
    rw [List.map_cons, List.nodup_cons] at once
    obtain ⟨new, once⟩ := once
    have joined : Keeps s (t.modDest e.1 (fun x => { x with queue := x.queue ++ [e.2] })) := by
      refine keeps_modDest h ⟨?_, le_max_left _ _⟩
      have := room e (List.mem_cons_self ..)
      rw [List.length_append, List.length_singleton]
      omega
    refine ih ?_ once fun x hx => ?_
    · unfold appendEntry
      dsimp only
      split
      · exact keeps_raise joined _
      · exact joined
    · have other : x.1 ≠ e.1 := fun same => new (same ▸ List.mem_map_of_mem (f := Prod.fst) hx)
      rw [dest_appendEntry, if_neg other]
      exact room x (List.mem_cons_of_mem _ hx)

theorem keeps_deliver {es : List (Fin 16 × DeliveryEntry)} (h : Keeps s t) (g : Tag) (kind : Kind)
    (once : (es.map Prod.fst).Nodup) (room : fullDests t es = []) : Keeps s (deliver g kind es t) := by
  unfold deliver
  split
  · exact h
  · exact keeps_modBatch (keeps_modSheet (keeps_appendEntries h once room) g _) _ _

theorem keeps_freeIfIdle (h : Keeps s t) (g : Tag) (es : List (Fin 16 × DeliveryEntry)) :
    Keeps s (freeIfIdle g es t) := by
  unfold freeIfIdle
  split
  · exact keeps_freeRecord h g
  · exact h

theorem keeps_applyMatch (h : Keeps s t) (l : Fin 8) (g : Tag) (i : Fin 8) : Keeps s (applyMatch l g i t) := by
  unfold applyMatch
  split
  · exact h
  next r _ =>
    have marked : Keeps s ((t.modSheet g (fun q => { q with separatorMatch := some i })).modBatch r.batch
        (fun b => { b with breakPending := true })) := keeps_modBatch (keeps_modSheet h g _) _ _
    dsimp only
    split
    · exact marked
    · exact keeps_endFeeding marked l

/-- R105: the cursor sheet leaves at the head. -/
theorem keeps_erased (h : Keeps s t) (head : (t.lane l).settleOrder.head? = some g) :
    Keeps s (t.modLane l (fun x => { x with settleOrder := x.settleOrder.erase g })) :=
  keeps_modLane h { Lane.Keeps.refl (t.lane l) with order := erase_suffix_of_head head }

theorem keeps_leaveOrder (h : Keeps s t) (head : (t.lane l).settleOrder.head? = some g) :
    Keeps s (leaveOrder l g t) := by
  unfold leaveOrder
  refine keeps_modSheet (keeps_returnReserve (keeps_modLane h ?_) g) g _
  exact { Lane.Keeps.refl (t.lane l) with order := erase_suffix_of_head head }

theorem keeps_dropSheet (h : Keeps s t) (head : (t.lane l).settleOrder.head? = some g) (count : Batch → Batch) :
    Keeps s (dropSheet count l g t) := by
  unfold dropSheet
  split
  · exact keeps_erased h head
  next r _ =>
    have counted : Keeps s ((leaveOrder l g t).modBatch r.batch (fun b =>
        count { b with settled := addSat b.settled 1 })) := keeps_modBatch (keeps_leaveOrder h head) _ _
    dsimp only
    split
    · exact keeps_freeRecord counted g
    · exact keeps_freeRecord (keeps_sendHead counted l _) g

theorem held_leaveOrder (l : Fin 8) (g : Tag) (s : State) : (leaveOrder l g s).held = s.held := by
  unfold leaveOrder returnReserve
  dsimp only
  split <;> rfl

theorem dests_leaveOrder (l : Fin 8) (g : Tag) (s : State) : (leaveOrder l g s).dests = s.dests := by
  unfold leaveOrder returnReserve
  dsimp only
  split <;> rfl

theorem held_numberSheet (g : Tag) (s : State) : (numberSheet g s).held = s.held := by
  unfold numberSheet
  split <;> rfl

/-- R113, R114, R120: a held sheet is listed while the list has room. -/
theorem keeps_settleHeld (h : Keeps s t) (head : (t.lane l).settleOrder.head? = some g) :
    Keeps s (settleHeld l g t) := by
  unfold settleHeld
  split
  · refine keeps_raise (keeps_dropSheet (keeps_numberSheet h g) ?_ _) _
    rw [(cursorFrame_numberSheet l g t).order]
    exact head
  next room =>
    split
    · exact h
    next r _ =>
      have written := keeps_modSheet (keeps_numberSheet (keeps_modBatch (keeps_leaveOrder h head) r.batch (fun b =>
        { b with settled := addSat b.settled 1, heldNow := addSat b.heldNow 1, holds := addSat b.holds 1 })) g) g
        (fun q => { q with state := .held, outcome := some .held })
      refine keeps_halt (keeps_raise (keeps_held written ?_) _) l _
      have same : (numberSheet g ((leaveOrder l g t).modBatch r.batch (fun b =>
          { b with settled := addSat b.settled 1, heldNow := addSat b.heldNow 1, holds := addSat b.holds 1 }))).held =
          t.held := by rw [held_numberSheet, State.modBatch_held, held_leaveOrder]
      rw [State.modSheet_held, same, List.length_append, List.length_singleton]
      unfold heldCapacity at room
      omega

theorem keeps_settleReleased (h : Keeps s t) (head : (t.lane l).settleOrder.head? = some g) (id : Nat) (kind : Kind)
    (sep : Option (Fin 8)) {es : List (Fin 16 × DeliveryEntry)} (once : (es.map Prod.fst).Nodup)
    (room : fullDests t es = []) : Keeps s (settleReleased l g id kind sep es t) := by
  have still : fullDests (leaveOrder l g t) es = [] := by
    rw [fullDests_eq_nil_iff] at room ⊢
    simpa only [State.dest, dests_leaveOrder] using room
  have counted : Keeps s (countReleased id (deliver g kind es (leaveOrder l g t))) :=
    keeps_modBatch (keeps_deliver (keeps_leaveOrder h head) g kind once still) id _
  unfold settleReleased
  dsimp only
  split
  · exact keeps_freeIfIdle (keeps_applyMatch counted l g _) g es
  · exact keeps_freeIfIdle (keeps_numberSheet counted g) g es

theorem keeps_settleSeparator (h : Keeps s t) (head : (t.lane l).settleOrder.head? = some g) (id : Nat) (i : Fin 8) :
    Keeps s (settleSeparator l g id i t) :=
  keeps_freeRecord (keeps_applyMatch (keeps_modBatch (keeps_leaveOrder h head) id _) l g i) g

/-- R117, R118, R167: entries are placed only while every queue of the route has room. -/
theorem keeps_routeSheet (h : Keeps s t) {r : Sheet} (head : (t.lane l).settleOrder.head? = some r.tag)
    (sep : Option (Fin 8)) : Keeps s (routeSheet l r sep t) := by
  unfold routeSheet
  dsimp only
  split
  · exact keeps_settleHeld (keeps_modSheet h _ _) head
  next es listed =>
    split
    next room => exact keeps_settleReleased h head _ _ _ (deliveryEntries_nodup listed) room
    · exact keeps_modSheet h _ _

theorem keeps_decideOutcome (h : Keeps s t) {r : Sheet} (head : (t.lane l).settleOrder.head? = some r.tag) :
    Keeps s (decideOutcome l r t) := by
  unfold decideOutcome
  split
  · exact keeps_dropSheet h head _
  · split
    · exact keeps_dropSheet h head _
    · split
      · exact keeps_settleHeld h head
      · split
        · split
          · exact keeps_routeSheet h head _
          · exact keeps_settleSeparator h head _ _
        · exact keeps_routeSheet h head _

theorem keeps_settleCursor (h : Keeps s t) (head : (t.lane l).settleOrder.head? = some g) :
    Keeps s (settleCursor l g t) := by
  unfold settleCursor
  split
  · exact keeps_erased h head
  next r found =>
    have tag : r.tag = g := State.tag_of_sheet? found
    exact keeps_decideOutcome (r := { r with state := .ready }) (keeps_modSheet h g _)
      (head.trans (congrArg some tag.symm))

/-! ### The lane's cursor and what follows an event (R43, R105, R117) -/

theorem keeps_poke (h : Keeps s t) (l : Fin 8) : Keeps s (poke l t) :=
  settleLoop_keeps (Keeps s) (fun _ _ k head => keeps_settleCursor k head) _ h

theorem keeps_pokeLane (h : Keeps s t) (l : Fin 8) : Keeps s (pokeLane l t) := keeps_drainTest (keeps_poke h l) l

theorem keeps_settleLane (h : Keeps s t) (l : Fin 8) : Keeps s (settleLane l t) := by
  refine keeps_drainTest ?_ l
  unfold examine
  split
  · exact keeps_poke h l
  · exact h

theorem keeps_addIncomplete (h : Keeps s t) (g : Tag) : Keeps s (addIncomplete g t) := by
  unfold addIncomplete
  split
  · exact h
  · split
    · exact h
    · dsimp only
      split
      · exact keeps_pokeLane (keeps_modSheet h g _) _
      · exact keeps_modSheet h g _

theorem keeps_retryWaiting (h : Keeps s t) (ds : List (Fin 16)) : Keeps s (retryWaiting ds t) :=
  keeps_foldl (fun _ l k => keeps_pokeLane k l) _ (keeps_congr h (by rfl))

theorem keeps_discardHeld (h : Keeps s t) (e : HeldEntry) : Keeps s (discardHeld e t) :=
  keeps_freeRecord (keeps_modBatch (keeps_held h (le_max_of_le_left (List.length_filter_le _ _))) _ _) _

theorem keeps_discardBatchHeld (h : Keeps s t) (id : Nat) : Keeps s (discardBatchHeld id t) :=
  keeps_foldl (fun _ e k => keeps_discardHeld k e) _ h

theorem keeps_lowerPending (h : Keeps s t) (g : Tag) : Keeps s (lowerPending g t) := by
  unfold lowerPending
  split
  · exact h
  next r _ =>
    have lowered : Keeps s ((t.modSheet g (fun q => { q with pendingDests := q.pendingDests - 1 })).modBatch r.batch
        (fun b => { b with deliveriesPending := b.deliveriesPending - 1 })) := keeps_modBatch (keeps_modSheet h g _) _ _
    dsimp only
    split
    · exact keeps_freeRecord lowered g
    · exact lowered

theorem keeps_removeUndelivered (h : Keeps s t) (d : Fin 16) (e : DeliveryEntry) :
    Keeps s (removeUndelivered d t e) := keeps_lowerPending (keeps_modDest h (.of_le le_rfl le_rfl)) _

theorem keeps_afterDrop (h : Keeps s t) (d : Fin 16) (ids : List Nat) : Keeps s (afterDrop d ids t) :=
  keeps_testBatches (keeps_retryWaiting (keeps_raise h _) _) ids

/-! ### The feed sequencer (R41, R49, R54) -/

theorem keeps_jamHolder (h : Keeps s t) (l : Fin 8) : Keeps s (jamHolder l t) := by
  unfold jamHolder
  split
  · exact h
  · exact keeps_modSheet h _ _

theorem keeps_jam (h : Keeps s t) (l : Fin 8) (why : JamReason) : Keeps s (jam l why t) := by
  unfold jam
  split
  · refine keeps_pokeLane (keeps_modLane (keeps_jamHolder (keeps_freePicking
      (keeps_raise (keeps_modLane h (.of_same rfl)) _) l) l) ?_) l
    exact { Lane.Keeps.refl _ with path := by simp [Lane.jamPath] }
  · exact h

theorem keeps_doubleFeedCheck (h : Keeps s t) (l : Fin 8) (g : Tag) : Keeps s (doubleFeedCheck l g t) := by
  unfold doubleFeedCheck
  split
  · exact h
  · split
    · dsimp only
      split
      · exact keeps_halt (keeps_raise h _) l _
      · exact keeps_raise h _
    · exact h

theorem keeps_feedingWindow (h : Keeps s t) (l : Fin 8) : Keeps s (feedingWindow l t) := by
  unfold feedingWindow
  have freed := keeps_freePicking h l
  dsimp only
  split
  · split
    · split
      · exact keeps_drainTest (keeps_endFeeding freed l) l
      · exact keeps_halt freed l _
    · split
      · exact keeps_drainTest (keeps_endFeeding freed l) l
      · exact keeps_halt freed l _
  · split
    · split
      · exact h
      · exact keeps_modLane (keeps_modSheet h _ _) (.of_same rfl)
    · exact keeps_halt (keeps_raise freed _) l _

/-! ### Edges and the lane link -/

theorem length_armExitWindow (g : Tag) (v : Tick) (es : List PathEntry) :
    (armExitWindow g v es).length = es.length := by
  induction es with
  | nil => rfl
  | cons e rest ih =>
    unfold armExitWindow
    split <;> simp [ih]

theorem length_markExited (es : List PathEntry) : (markExited es).length = es.length := by
  induction es with
  | nil => rfl
  | cons e rest ih =>
    unfold markExited
    split <;> simp [ih]

theorem keeps_trailComputation (h : Keeps s t) (l : Fin 8) (r : Sheet) (cap : Tick) :
    Keeps s (trailComputation l r cap t) := by
  unfold trailComputation
  dsimp only
  exact keeps_modLane (keeps_modProfile (keeps_modSheet h _ _) _ _) (.of_same rfl)

theorem keeps_attributeTrail (h : Keeps s t) (l : Fin 8) (g : Tag) : Keeps s (attributeTrail l g t) := by
  have taken : Keeps s (t.modLane l (Lane.takeTrail g)) :=
    keeps_modLane h { Lane.Keeps.refl _ with path := by simp [Lane.takeTrail, length_armExitWindow] }
  unfold attributeTrail
  dsimp only
  split
  · exact taken
  · split
    · exact keeps_settleLane (keeps_doubleFeedCheck (keeps_modSheet (keeps_trailComputation taken l _ _) g _) l g) l
    · exact keeps_modSheet taken g _

theorem keeps_attributeExitLead (h : Keeps s t) (l : Fin 8) : Keeps s (attributeExitLead l t) := by
  unfold attributeExitLead
  dsimp only
  split
  · exact keeps_jam h l _
  next e _ =>
    have marked := keeps_modSheet (keeps_modLane (l := l)
      (f := fun y => { y with path := markExited y.path, exitHolder := some e.tag }) h
      { Lane.Keeps.refl (t.lane l) with path := by simp [length_markExited] }) e.tag
      (fun q => { q with exitLead := some (t.lane l).counter })
    unfold divertSheet
    dsimp only
    split
    · exact marked
    · split
      · exact keeps_modSheet marked _ _
      · split
        · exact keeps_settleLane (keeps_modLane (keeps_modSheet marked _ _) (.of_same rfl)) l
        · exact marked

theorem keeps_attributeExitTrail (h : Keeps s t) (l : Fin 8) (g : Tag) : Keeps s (attributeExitTrail l g t) := by
  refine keeps_drainTest (keeps_modLane (keeps_modSheet h g _) ?_) l
  exact { Lane.Keeps.refl _ with path := le_max_of_le_left List.length_eraseP_le }

theorem keeps_coverOpened (h : Keeps s t) (l : Fin 8) : Keeps s (coverOpened l t) := by
  unfold coverOpened
  split
  · exact keeps_jam h l _
  · exact keeps_jam h l _
  · exact keeps_jam h l _
  · exact keeps_jam h l _
  · exact keeps_raise (keeps_modLane h (.of_same rfl)) _
  · exact h
  · exact h
  · exact h

theorem keeps_laneFrameArrives (h : Keeps s t) (l : Fin 8) (frame : List Byte) :
    Keeps s (laneFrameArrives l frame t) := by
  unfold laneFrameArrives
  split
  next side _ last payload _ =>
    refine keeps_kickPorts ?_
    unfold takeStrip
    split
    · exact keeps_raise (keeps_modLane h (.of_same rfl)) _
    next r _ =>
      split
      · split
        · exact keeps_addIncomplete h _
        next src _ =>
          have filed := keeps_fileStrip h (blockSource t r) r.tag side last payload
          dsimp only
          split
          · exact keeps_settleLane filed l
          · exact filed
      · exact keeps_addIncomplete h _
  · unfold takePatch
    split
    · exact h
    · exact keeps_modSheet h _ _
  · exact keeps_modLane h (.of_same rfl)

/-! ### Archive frames (R166, R169, R171, R176, R183) -/

theorem keeps_endCurrent (h : Keeps s t) (p : Port) (d : Fin 16) : Keeps s (endCurrent p d t) :=
  keeps_modPort (keeps_modDest h (.of_le (by simp) le_rfl)) p _

theorem keeps_deliveryEnd (h : Keeps s t) (p : Port) (c : Delivery) : Keeps s (deliveryEnd p c t) := by
  have ended := keeps_retryWaiting (keeps_lowerPending (keeps_endCurrent h p c.dest) c.entry.sheet) [c.dest]
  unfold deliveryEnd testEntryBatch
  split
  · exact ended
  · exact keeps_testBatch ended _

theorem keeps_frameEnds (h : Keeps s t) (p : Port) : Keeps s (frameEnds p t) := by
  have quiet : Keeps s (t.modPort p (fun q => { q with tx := none })) := keeps_modPort h p _
  unfold frameEnds
  dsimp only
  split
  · unfold stripSent
    split
    · exact keeps_deliveryEnd quiet p _
    · split
      · exact keeps_afterDrop (keeps_removeUndelivered (keeps_endCurrent quiet p _) _ _) _ _
      · exact keeps_modPort quiet p _
  · exact quiet

/-- R169: credit stays within 4095. -/
theorem keeps_stationFrameArrives (h : Keeps s t) (p : Port) (frame : List Byte) :
    Keeps s (stationFrameArrives p frame t) := by
  unfold stationFrameArrives
  split
  · split
    · refine keeps_kickPorts ?_
      unfold offerDirective
      split
      · split
        · exact keeps_congr h (by rfl)
        · exact keeps_pushReply h _ _
      · exact keeps_modPort h _ _
    · refine keeps_kickPorts ?_
      unfold takeCredit
      split
      · split
        · exact h
        · exact keeps_modDest h ⟨le_max_left _ _, le_max_of_le_right (min_le_left _ _)⟩
      · exact h
    · exact h
  · exact h

end

end Sys2Proof.Machine
end

section
/-!
PROOF. What the directives keep of capacities, picking sheets and settlement orders.
-/

namespace Sys2Proof.Machine

/-! ### The directives (R184) -/

theorem keeps_refuse (r : Result) (u : State) : Keeps u (refuse r u).state := .refl u

theorem keeps_accept {u v : State} (h : Keeps u v) : Keeps u (accept v).state := h

theorem keeps_acceptClamped {u v : State} (clamped : Bool) (h : Keeps u v) :
    Keeps u (acceptClamped clamped v).state := h

theorem keeps_answerData {u v : State} (data : List Byte) (h : Keeps u v) : Keeps u (answerData data v).state := h

/-- A directive keeps what its body keeps. -/
theorem keeps_runDirective {row : DirectiveRow} {body : List Byte → State → Executed}
    (kept : ∀ ps u, Keeps u (body ps u).state) (s : State) : Keeps s (runDirective row body s) := by
  unfold runDirective takeDirective
  split
  · exact .refl s
  next d u taken =>
    have rest : Keeps s u := by
      split at taken
      · cases taken
      · split at taken
        · cases taken
          exact keeps_congr (.refl s) (by rfl)
        · cases taken
    exact keeps_kickPorts (keeps_pushReply (keeps_congr (rest.trans (kept d.params u)) (by rfl)) _ _)

section
variable {n : Nat} {body : List Byte → State → Executed} {laneBody : Fin 8 → List Byte → State → Executed}
  {sixteenBody : Fin 16 → List Byte → State → Executed} {heldBody : HeldEntry → State → Executed}
  {idBody : Nat → List Byte → State → Executed}

theorem keeps_withLength (kept : ∀ ps u, Keeps u (body ps u).state) (ps : List Byte) (u : State) :
    Keeps u (withLength n body ps u).state := by
  unfold withLength
  split
  · exact kept ps u
  · exact .refl u

theorem keeps_withLane (kept : ∀ l ps u, Keeps u (laneBody l ps u).state) (ps : List Byte) (u : State) :
    Keeps u (withLane laneBody ps u).state := by
  unfold withLane
  split
  · exact .refl u
  · exact kept _ ps u

theorem keeps_withSixteen (kept : ∀ i ps u, Keeps u (sixteenBody i ps u).state) (ps : List Byte) (u : State) :
    Keeps u (withSixteen sixteenBody ps u).state := by
  unfold withSixteen
  split
  · exact .refl u
  · exact kept _ ps u

theorem keeps_withHeld (kept : ∀ e u, Keeps u (heldBody e u).state) (ps : List Byte) (u : State) :
    Keeps u (withHeld n heldBody ps u).state := by
  unfold withHeld
  split
  · exact .refl u
  · split
    · exact .refl u
    · split
      · exact .refl u
      · exact kept _ u

theorem keeps_withId (kept : ∀ id ps u, Keeps u (idBody id ps u).state) (ps : List Byte) (u : State) :
    Keeps u (withId idBody ps u).state := by
  unfold withId
  split
  · exact .refl u
  · exact kept _ ps u

end

section
variable (l : Fin 8) (d : Fin 16) (id : Nat) (e : HeldEntry) (pins : BitVec 8) (ps : List Byte) (u : State)

theorem keeps_laneSet : Keeps u (laneSet l ps u).state := by
  unfold laneSet
  split
  · exact keeps_refuse _ u
  · dsimp only
    split
    · exact keeps_refuse _ u
    · exact keeps_acceptClamped _ (keeps_modLane (.refl u) (.of_same rfl))

theorem keeps_laneStart : Keeps u (laneStart l ps u).state := by
  unfold laneStart
  dsimp only
  repeat' split
  all_goals try exact keeps_refuse _ u
  refine keeps_accept (keeps_modLane (keeps_modBatch (.refl u) _ _) ?_)
  split <;> exact .of_same rfl

theorem keeps_lanePause : Keeps u (lanePause l ps u).state := by
  unfold lanePause
  split
  · dsimp only [accept]
    split
    · exact keeps_drainTest (keeps_modLane (.refl u) (.of_same rfl)) l
    · exact keeps_drainTest (keeps_modLane (keeps_modBatch (.refl u) _ _) (.of_same rfl)) l
  · exact keeps_refuse _ u

theorem keeps_laneResume : Keeps u (laneResume l ps u).state := by
  unfold laneResume
  dsimp only
  split
  · exact keeps_refuse _ u
  · split
    · exact keeps_refuse _ u
    · split
      · exact keeps_refuse _ u
      · split
        · exact keeps_refuse _ u
        · split
          · exact keeps_accept (keeps_modLane (.refl u) (.of_same rfl))
          · exact keeps_accept (keeps_drainTest (keeps_modLane (.refl u) (.of_same rfl)) l)

/-- R64: the sheets of the order are discarded from its head. -/
theorem keeps_discardOrder {s : State} (h : Keeps s u) : Keeps s (discardOrder l u) := by
  have each : ∀ (xs : List Tag) (v : State), Keeps s v → (v.lane l).settleOrder = xs →
      Keeps s (xs.foldl (fun acc g => settleDiscarded l g acc) v) := by
    intro xs
    induction xs with
    | nil => exact fun _ k _ => k
    | cons g rest ih =>
      intro v k order
      refine ih _ (keeps_dropSheet k (by rw [order]; rfl) _) ?_
      unfold settleDiscarded
      rw [(leaves_dropSheet l g v _).order, order, List.erase_cons_head]
  exact each _ u h rfl

/-- R64: a cleared lane's lists are empty. -/
theorem Lane.keeps_cleared (x : Lane) :
    x.Keeps { x.clearPath.enterIdle with haltReason := .none, jamReason := .none } :=
  ⟨Nat.zero_le _, le_max_left _ _, .inl rfl, List.nil_suffix⟩

theorem keeps_laneClear : Keeps u (laneClear l ps u).state := by
  unfold laneClear
  dsimp only
  split
  · exact keeps_refuse _ u
  · split
    · exact keeps_refuse _ u
    · exact keeps_accept (keeps_batchLeaves
        (keeps_modLane (keeps_discardOrder l _ (keeps_freePicking (.refl u) l)) (Lane.keeps_cleared _)) l)

theorem keeps_laneManualEnter : Keeps u (laneManualEnter l ps u).state := by
  unfold laneManualEnter
  split
  · exact keeps_refuse _ u
  · split
    · exact keeps_refuse _ u
    · exact keeps_accept (keeps_modLane (.refl u)
        { Lane.Keeps.refl (u.lane l) with path := by simp [Lane.disarmed, Lane.clearDriveLatches] })

theorem keeps_laneManualLeave : Keeps u (laneManualLeave l ps u).state := by
  unfold laneManualLeave
  split
  · exact keeps_refuse _ u
  · exact keeps_accept (keeps_modLane (.refl u) (.of_same rfl))

theorem keeps_linesMap : Keeps u (linesMap pins l ps u).state := by
  have mapped : Keeps u (u.modLane l (Lane.remap pins ps)) := keeps_modLane (.refl u) (.of_same rfl)
  unfold linesMap
  split
  · exact keeps_refuse _ u
  · split
    · exact keeps_refuse _ u
    · dsimp only [accept]
      split
      · exact keeps_raise mapped _
      · exact mapped

theorem keeps_applyLineSetting {s : State} (h : Keeps s u) (x : LineSetting) :
    Keeps s (applyLineSetting pins l u x) := by
  unfold applyLineSetting
  split
  · exact h
  next n _ =>
    have set : Keeps s (u.setLane l ((u.lane l).setLine n (((u.lane l).line n).set pins n.val x))) :=
      keeps_setLane h (.of_same rfl)
    dsimp only
    split
    · exact keeps_raise set _
    · exact set

theorem keeps_linesSet : Keeps u (linesSet pins ps u).state := by
  unfold linesSet
  dsimp only
  repeat' split
  all_goals try exact keeps_refuse _ u
  exact keeps_accept (keeps_foldl (fun v x k => keeps_applyLineSetting _ pins v k x) _ (.refl u))

theorem keeps_lanePowerOff : Keeps u (lanePowerOff l ps u).state := by
  unfold lanePowerOff
  split
  · exact keeps_refuse _ u
  · split
    · exact keeps_refuse _ u
    · exact keeps_accept (keeps_modLane (.refl u) (.of_same rfl))

theorem keeps_lanePowerIdle : Keeps u (lanePowerIdle l ps u).state := by
  unfold lanePowerIdle
  dsimp only
  split
  · split
    · exact keeps_refuse _ u
    · split
      · exact keeps_refuse _ u
      · exact keeps_accept (keeps_modLane (.refl u) (.of_same rfl))
  · exact keeps_accept (keeps_modLane (.refl u) (.of_same rfl))
  all_goals exact keeps_refuse _ u

theorem keeps_lanePowerSet : Keeps u (lanePowerSet l ps u).state :=
  keeps_acceptClamped _ (keeps_modLane (.refl u) (.of_same rfl))

theorem keeps_lanePowerStandby : Keeps u (lanePowerStandby l ps u).state := by
  unfold lanePowerStandby
  dsimp only
  split
  · exact keeps_accept (keeps_modLane (.refl u) (.of_same rfl))
  · split
    · exact keeps_accept (keeps_batchLeaves (keeps_modLane (.refl u) (.of_same rfl)) l)
    · exact keeps_refuse _ u
  all_goals exact keeps_refuse _ u

theorem keeps_profileLoad : Keeps u (profileLoad ps u).state := by
  unfold profileLoad
  dsimp only
  split
  · exact keeps_refuse _ u
  · split
    · exact keeps_refuse _ u
    · split
      · exact keeps_refuse _ u
      · refine keeps_acceptClamped _ (keeps_foldl (fun v x k => ?_) _ (.refl u))
        unfold storeProfile
        split
        · exact k
        · exact keeps_modProfile k _ _

theorem keeps_storeSet : Keeps u (storeSet ps u).state := by
  unfold storeSet
  dsimp only [acceptClamped]
  split
  · exact keeps_raise (keeps_congr (.refl u) (by rfl)) _
  · exact keeps_congr (.refl u) (by rfl)

theorem keeps_separatorLoad : Keeps u (separatorLoad ps u).state := by
  unfold separatorLoad
  dsimp only
  split
  · exact keeps_refuse _ u
  · split
    · exact keeps_refuse _ u
    · split
      · exact keeps_refuse _ u
      · refine keeps_accept (keeps_foldl (fun v x k => ?_) _ (.refl u))
        unfold storeSeparator
        split
        · exact k
        · exact keeps_congr k (by rfl)

theorem keeps_separatorRead : Keeps u (separatorRead ps u).state := by
  unfold separatorRead
  split
  · exact keeps_refuse _ u
  · exact keeps_answerData _ (.refl u)

/-- R121: a held sheet is released only while every queue of its route has room. -/
theorem keeps_resolveRelease (kind : Kind) (sep : Option (Fin 8)) : Keeps u (resolveRelease e kind sep u).state := by
  unfold resolveRelease
  split
  · exact keeps_refuse _ u
  · split
    · exact keeps_refuse _ u
    next es listed =>
      split
      · exact keeps_refuse _ u
      next room =>
        have unlisted : Keeps u ({ u with held := u.held.filter (fun h => decide (h.tag ≠ e.tag)) }.modBatch e.batch
            (fun b => { b with heldNow := b.heldNow - 1, released := addSat b.released 1 })) :=
          keeps_modBatch (keeps_held (.refl u) (le_max_of_le_left (List.length_filter_le _ _))) _ _
        exact keeps_accept (keeps_testBatch (keeps_freeIfIdle (keeps_modSheet (keeps_deliver unlisted e.tag kind
          (deliveryEntries_nodup listed) (not_not.mp room)) _ _) _ _) _)

theorem keeps_resolveDiscard : Keeps u (resolveDiscard e u).state :=
  keeps_accept (keeps_testBatch (keeps_discardHeld (.refl u) e) _)

theorem keeps_sheetRead : Keeps u (sheetRead ps u).state := by
  unfold sheetRead
  split
  · exact keeps_refuse _ u
  · split
    · exact keeps_refuse _ u
    · exact keeps_answerData _ (.refl u)

/-- R128, R129, R134: a batch is opened only while the table and its lane's queue have room. -/
theorem keeps_batchOpen : Keeps u (batchOpen ps u).state := by
  unfold batchOpen
  split
  · exact keeps_refuse _ u
  next b _ =>
    split
    · exact keeps_refuse _ u
    · split
      · exact keeps_refuse _ u
      · split
        · exact keeps_refuse _ u
        next room =>
          obtain ⟨table, queue⟩ := not_or.mp room
          refine keeps_accept (keeps_modLane (keeps_batches (.refl u) ?_)
            { Lane.Keeps.refl (u.lane b.lane) with queue := ?_ })
          · rw [List.length_append, List.length_singleton]
            omega
          · change ((u.lane b.lane).batchQueue ++ [b.id]).length ≤ max (u.lane b.lane).batchQueue.length 4
            rw [List.length_append, List.length_singleton]
            omega

theorem keeps_batchClose : Keeps u (batchClose id ps u).state := by
  unfold batchClose
  split
  · exact keeps_refuse _ u
  · split
    · exact keeps_refuse _ u
    · split
      · exact keeps_refuse _ u
      · exact keeps_accept (keeps_testClosure (keeps_discardBatchHeld (.refl u) id) id)

/-- R177: an abort takes entries from a queue. -/
theorem keeps_abortDest {s : State} (h : Keeps s u) : Keeps s (abortDest id u d) := by
  unfold abortDest
  refine keeps_foldl (fun v x k => keeps_removeUndelivered k d x) _ (keeps_modDest h (.of_le ?_ le_rfl))
  dsimp only
  unfold waitingEntries
  rw [List.length_append]
  have few := List.length_filter_le (fun x => decide (entryBatch u x ≠ some id))
    (if headInProgress u d then (u.dest d).queue.drop 1 else (u.dest d).queue)
  split at few
  · rw [List.length_drop] at few
    rw [if_pos ‹_›, if_pos ‹_›, List.length_take]
    omega
  · rw [if_neg ‹_›, if_neg ‹_›, List.length_nil]
    omega

theorem keeps_abortRest {s : State} (h : Keeps s u) : Keeps s (abortRest id u) :=
  keeps_retryWaiting (keeps_foldl (fun v x k => keeps_abortDest x id v k) _ (keeps_discardBatchHeld h id)) _

theorem keeps_abortActive {s : State} (h : Keeps s u) : Keeps s (abortActive id l u) := by
  refine keeps_poke (keeps_modLane (keeps_modBatch (keeps_freePicking h l) _ _) ?_) l
  generalize State.lane _ l = x
  dsimp only
  split <;> exact .of_same rfl

theorem keeps_batchAbort : Keeps u (batchAbort id ps u).state := by
  unfold batchAbort
  split
  · exact keeps_refuse _ u
  next b _ =>
    have active := keeps_abortRest id _ (keeps_abortActive b.lane id u (.refl u))
    have waiting := fun k => keeps_abortRest id _ (keeps_unqueued (keeps_modBatch (.refl u) id
      (fun c => { c with state := .aborted })) k id)
    split
    · exact keeps_refuse _ u
    · exact keeps_accept (keeps_testAbort (keeps_drainTest active _) id)
    · exact keeps_accept (keeps_testAbort (keeps_drainTest active _) id)
    · exact keeps_accept (keeps_testAbort (waiting _) id)
    · exact keeps_accept (keeps_testAbort (waiting _) id)

theorem keeps_batchRead : Keeps u (batchRead id ps u).state := by
  unfold batchRead
  split
  · exact keeps_answerData _ (.refl u)
  · split
    · exact keeps_answerData _ (.refl u)
    · exact keeps_refuse _ u
  · exact keeps_refuse _ u

theorem keeps_loadEntries (rs : List (List Byte)) (n : Nat) : Keeps u (loadEntries rs n u).2.2 := by
  induction rs generalizing n u with
  | nil => exact .refl u
  | cons r rest ih =>
    unfold loadEntries
    split
    · exact .refl u
    · refine Keeps.trans ?_ (ih _ _)
      unfold writeShadow
      split <;> exact keeps_congr (.refl u) (by rfl)

theorem keeps_routeLoad : Keeps u (routeLoad ps u).state := by
  have loaded := keeps_loadEntries u (records ps 10) 0
  unfold routeLoad
  split
  · exact keeps_refuse _ u
  · split
    next h =>
      rw [h] at loaded
      exact loaded
    next h =>
      rw [h] at loaded
      exact loaded

theorem keeps_routeRead : Keeps u (routeRead ps u).state := by
  unfold routeRead
  split
  · exact keeps_refuse _ u
  · dsimp only
    split
    · exact keeps_refuse _ u
    · exact keeps_answerData _ (.refl u)

theorem keeps_destSet : Keeps u (destSet d ps u).state := by
  unfold destSet
  split
  · exact keeps_refuse _ u
  · split
    · dsimp only
      split
      · exact keeps_refuse _ u
      · split
        · exact keeps_refuse _ u
        · exact keeps_acceptClamped _ (keeps_modDest (.refl u) (.of_le le_rfl le_rfl))
    · exact keeps_refuse _ u

theorem keeps_destEnable : Keeps u (destEnable d ps u).state := by
  unfold destEnable
  split
  · exact keeps_refuse _ u
  · split
    · exact keeps_refuse _ u
    · exact keeps_accept (keeps_modDest (.refl u) (.of_le le_rfl (Nat.zero_le _)))

/-- R166: a disable takes entries from the queue. -/
theorem keeps_closeDest : Keeps u (closeDest d u) := by
  refine keeps_foldl (fun v x k => keeps_removeUndelivered k d x) _
    (keeps_modDest (keeps_modPort (.refl u) _ _) (.of_le ?_ (Nat.zero_le _)))
  rw [show (u.modPort (u.dest d).port (PortState.dropDeliveries d (finishing u d))).dest d = u.dest d by
    simp only [State.dest, State.modPort_dests]]
  dsimp only
  split
  · exact List.length_take_le' _ _
  · exact Nat.zero_le _

theorem keeps_destDisable : Keeps u (destDisable d ps u).state := by
  unfold destDisable
  split
  · exact keeps_refuse _ u
  · dsimp only [accept]
    split
    · exact keeps_closeDest d u
    · exact keeps_afterDrop (keeps_closeDest d u) d _

theorem keeps_portRead : Keeps u (portRead ps u).state := by
  unfold portRead
  split
  · exact keeps_refuse _ u
  · exact keeps_answerData _ (.refl u)

theorem keeps_reportSet : Keeps u (reportSet ps u).state := by
  unfold reportSet
  split
  · exact keeps_refuse _ u
  · dsimp only
    split
    · exact keeps_refuse _ u
    · exact keeps_accept (keeps_congr (.refl u) (by simp only [State.lists]))

theorem keeps_clearFlags {s : State} (h : Keeps s u) (named : FlagSet) :
    Keeps s (clearFlags named u) := by
  unfold clearFlags
  exact keeps_congr h (by simp only [State.lists])

theorem keeps_eventsClear : Keeps u (eventsClear ps u).state :=
  keeps_answerData _ (keeps_clearFlags u (.refl u) _)

end
end Sys2Proof.Machine
end

section
/-!
PROOF. What every command but a lead and a pick keeps.
-/

namespace Sys2Proof.Machine

/-! ### The commands -/

/-- An emptied part holds nothing. -/
theorem keeps_of_empty {s t : State} (sheets : t.sheets = []) (held : t.held = []) (batches : t.batches = [])
    (notices : t.notices = [])
    (lanes : ∀ l, (t.lane l).path = [] ∧ (t.lane l).batchQueue = [] ∧ (t.lane l).picking = none ∧
      (t.lane l).settleOrder = [])
    (dests : ∀ d, (t.dest d).queue = [] ∧ (t.dest d).credit = 0) : Keeps s t where
  sheets := by simp [sheets]
  held := by simp [held]
  batches := by simp [batches]
  notices := by simp [notices]
  lanes l := by
    obtain ⟨path, queue, picking, order⟩ := lanes l
    exact ⟨by simp [path], by simp [queue], .inr picking, by rw [order]; exact List.nil_suffix⟩
  dests d := by
    obtain ⟨queue, credit⟩ := dests d
    exact ⟨by simp [queue], by simp [credit]⟩

theorem keeps_restartPart (s : State) : Keeps s (restartPart s) := by
  refine keeps_of_empty rfl rfl rfl rfl (fun l => ?_) (fun d => ?_)
  · have restarted : ∃ x : Lane, (restartPart s).lane l = x.restart := by
      simp only [restartPart, State.lane, Vector.getElem_map]
      exact ⟨_, rfl⟩
    obtain ⟨x, hx⟩ := restarted
    rw [hx]
    exact ⟨rfl, rfl, rfl, rfl⟩
  · have restarted : ∃ x : Dest, (restartPart s).dest d = x.restart := by
      simp only [restartPart, State.dest, Vector.getElem_map]
      exact ⟨_, rfl⟩
    obtain ⟨x, hx⟩ := restarted
    rw [hx]
    exact ⟨rfl, rfl⟩

/-- R193: RESTART empties the part, or is refused. -/
theorem keeps_restartFor {s t : State} (h : Keeps s t) (d : Directive) : Keeps s (restartFor d t) := by
  unfold restartFor
  split
  · exact keeps_modPort (keeps_foldl (fun _ x k => keeps_pushReply k _ _) _
      (keeps_congr (h.trans (keeps_restartPart t)) (by simp only [State.lists]))) _ _
  · exact keeps_pushReply h _ _

/-- R193: the restarted part takes the command's place among the rest. -/
theorem keeps_execRestart {s t : State} (run : exec .restart s = .next t) : Keeps s t := by
  cases run
  unfold takeDirective
  split
  · exact .refl s
  next d v taken =>
    have rest : Keeps s v := by
      split at taken
      · cases taken
      · split at taken
        · cases taken
          exact keeps_congr (.refl s) (by rfl)
        · cases taken
    have answered := keeps_restartFor rest d
    exact keeps_kickPorts (keeps_congr answered (by rfl))

theorem keeps_execPowerOn {pins : Vector (BitVec 8) 8} {straps links : BitVec 8} {la lb : Bool} {s t : State}
    (run : exec (.powerOn pins straps links la lb) s = .next t) : Keeps s t := by
  have empty : Keeps s (State.powerOn pins straps links la lb) := by
    refine keeps_of_empty rfl rfl rfl rfl (fun l => ?_) (fun d => ?_)
    · rw [lane_powerOn]
      exact ⟨rfl, rfl, rfl, rfl⟩
    · rw [show (State.powerOn pins straps links la lb).dest d = .powerOn by simp [State.dest, State.powerOn]]
      exact ⟨rfl, rfl⟩
  cases run
  exact keeps_congr empty (by rfl)

/-- R5, R71: an edge changes a line of its lane alone. -/
theorem edgeTo_frame {x y : Lane} {role : Role} {active : Bool} (edge : x.edgeTo role active = some y) :
    y = { x with lines := y.lines } := by
  unfold Lane.edgeTo at edge
  split at edge
  · cases edge
  · dsimp only at edge
    split at edge
    · cases edge
    · cases edge
      rfl

theorem keeps_edgeTo {x y : Lane} {role : Role} {active : Bool} (edge : x.edgeTo role active = some y) : x.Keeps y := by
  rw [edgeTo_frame edge]
  exact .of_same rfl

theorem keeps_of_next {s t u : State} (h : Keeps s u) (run : (Host.Outcome.next u : Answer) = .next t) : Keeps s t := by
  cases run
  exact h

theorem keeps_of_body {s t : State} {row : DirectiveRow} {body : List Byte → State → Executed}
    (kept : ∀ ps u, Keeps u (body ps u).state)
    (run : (Host.Outcome.next (runDirective row body s) : Answer) = .next t) : Keeps s t :=
  keeps_of_next (keeps_runDirective kept s) run

/-- Whatever the command but a lead or a pick, capacities, picking sheets and settlement orders are kept. -/
theorem keeps_exec {c : Instr} {s t : State} (noLead : ∀ l, c ≠ .lead l) (noPick : ∀ l, c ≠ .pick l)
    (run : exec c s = .next t) : Keeps s t := by
  have same : Keeps s s := .refl s
  cases c with
  | powerOn => exact keeps_execPowerOn run
  | directive => exact keeps_of_next (keeps_stationFrameArrives same _ _) run
  | credit => exact keeps_of_next (keeps_stationFrameArrives same _ _) run
  | discardedStationFrame => exact keeps_of_next (keeps_stationFrameArrives same _ _) run
  | unknown => exact keeps_of_body (fun _ u => keeps_refuse _ u) run
  | laneSet => exact keeps_of_body (keeps_withLength (keeps_withLane keeps_laneSet)) run
  | laneStart => exact keeps_of_body (keeps_withLength (keeps_withLane keeps_laneStart)) run
  | lanePause => exact keeps_of_body (keeps_withLength (keeps_withLane keeps_lanePause)) run
  | laneResume => exact keeps_of_body (keeps_withLength (keeps_withLane keeps_laneResume)) run
  | laneClear => exact keeps_of_body (keeps_withLength (keeps_withLane keeps_laneClear)) run
  | laneManualEnter => exact keeps_of_body (keeps_withLength (keeps_withLane keeps_laneManualEnter)) run
  | laneManualLeave => exact keeps_of_body (keeps_withLength (keeps_withLane keeps_laneManualLeave)) run
  | laneRead => exact keeps_of_body (keeps_withLength (keeps_withLane fun _ _ u => .refl u)) run
  | linesMap => exact keeps_of_body (keeps_withLength (keeps_withLane fun l => keeps_linesMap l _)) run
  | linesSet => exact keeps_of_body (keeps_linesSet _) run
  | linesRead => exact keeps_of_body (keeps_withLength (keeps_withLane fun _ _ u => .refl u)) run
  | lanePowerOff => exact keeps_of_body (keeps_withLength (keeps_withLane keeps_lanePowerOff)) run
  | lanePowerIdle => exact keeps_of_body (keeps_withLength (keeps_withLane keeps_lanePowerIdle)) run
  | lanePowerSet => exact keeps_of_body (keeps_withLength (keeps_withLane keeps_lanePowerSet)) run
  | lanePowerStandby => exact keeps_of_body (keeps_withLength (keeps_withLane keeps_lanePowerStandby)) run
  | profileLoad => exact keeps_of_body keeps_profileLoad run
  | profileRead => exact keeps_of_body (keeps_withLength (keeps_withSixteen fun _ _ u => .refl u)) run
  | storeSet => exact keeps_of_body (keeps_withLength keeps_storeSet) run
  | storeRead => exact keeps_of_body (keeps_withLength fun _ u => .refl u) run
  | resolveAccept =>
    exact keeps_of_body (keeps_withLength (keeps_withHeld fun e u => keeps_resolveRelease e u _ _)) run
  | resolveReview =>
    exact keeps_of_body (keeps_withLength (keeps_withHeld fun e u => keeps_resolveRelease e u _ _)) run
  | resolveDiscard => exact keeps_of_body (keeps_withLength (keeps_withHeld keeps_resolveDiscard)) run
  | heldList => exact keeps_of_body (keeps_withLength fun _ u => .refl u) run
  | sheetRead => exact keeps_of_body (keeps_withLength keeps_sheetRead) run
  | batchOpen => exact keeps_of_body (keeps_withLength keeps_batchOpen) run
  | batchClose => exact keeps_of_body (keeps_withLength (keeps_withId keeps_batchClose)) run
  | batchAbort => exact keeps_of_body (keeps_withLength (keeps_withId keeps_batchAbort)) run
  | batchRead => exact keeps_of_body (keeps_withLength (keeps_withId keeps_batchRead)) run
  | separatorLoad => exact keeps_of_body keeps_separatorLoad run
  | separatorRead => exact keeps_of_body (keeps_withLength keeps_separatorRead) run
  | routeLoad => exact keeps_of_body keeps_routeLoad run
  | routeSwap => exact keeps_of_body (keeps_withLength fun _ u => keeps_congr (.refl u) (by rfl)) run
  | routeRead => exact keeps_of_body (keeps_withLength keeps_routeRead) run
  | destSet => exact keeps_of_body (keeps_withLength (keeps_withSixteen keeps_destSet)) run
  | destEnable => exact keeps_of_body (keeps_withLength (keeps_withSixteen keeps_destEnable)) run
  | destDisable => exact keeps_of_body (keeps_withLength (keeps_withSixteen keeps_destDisable)) run
  | destRead => exact keeps_of_body (keeps_withLength (keeps_withSixteen fun _ _ u => .refl u)) run
  | portRead => exact keeps_of_body (keeps_withLength keeps_portRead) run
  | reportSet => exact keeps_of_body (keeps_withLength keeps_reportSet) run
  | eventsRead => exact keeps_of_body (keeps_withLength fun _ u => .refl u) run
  | eventsClear => exact keeps_of_body (keeps_withLength keeps_eventsClear) run
  | restart => exact keeps_execRestart run
  | nextPickExpiry =>
    refine keeps_of_next ?_ run
    split
    · exact keeps_modLane same (.of_same rfl)
    · exact same
  | pickPulseEnd =>
    refine keeps_of_next ?_ run
    split
    · exact keeps_modLane same (.of_same rfl)
    · exact same
  | pickWindowExpiry l =>
    refine keeps_of_next ?_ run
    have closed : Keeps s (s.modLane l (fun x => { x with pickWindow := none })) := keeps_modLane same (.of_same rfl)
    split
    · dsimp only
      split
      · exact keeps_kickPorts (keeps_feedingWindow closed l)
      · exact keeps_kickPorts (keeps_drainTest (keeps_freePicking closed l) l)
      · exact keeps_kickPorts (keeps_drainTest (keeps_freePicking closed l) l)
      all_goals exact closed
    · exact same
  | sampleExpiry =>
    refine keeps_of_next ?_ run
    split
    · exact keeps_modLane same (.of_same rfl)
    · exact same
  | gateLimitExpiry =>
    refine keeps_of_next ?_ run
    split
    · exact keeps_kickPorts (keeps_jam (keeps_modLane same (.of_same rfl)) _ _)
    · exact same
  | imageDeadlineExpiry g =>
    refine keeps_of_next ?_ run
    split
    · exact same
    · split
      · refine keeps_kickPorts (keeps_settleLane ?_ _)
        split
        · exact keeps_modSheet same g _
        · exact keeps_addIncomplete (keeps_modSheet same g _) g
      · exact same
  | exitWindowExpiry l =>
    refine keeps_of_next ?_ run
    split
    · exact keeps_kickPorts (keeps_jam (keeps_modLane same { Lane.Keeps.refl (s.lane l) with path := by simp }) _ _)
    · exact same
  | divertEnd =>
    refine keeps_of_next ?_ run
    split
    · exact keeps_modLane same (.of_same rfl)
    · exact same
  | endOfSpinup =>
    refine keeps_of_next ?_ run
    split
    · split
      · exact keeps_modLane same (.of_same rfl)
      · exact keeps_modLane same (.of_same rfl)
      · exact keeps_modLane same (.of_same rfl)
    · exact same
  | idleCountdownExpiry =>
    refine keeps_of_next ?_ run
    split
    · exact keeps_kickPorts (keeps_raise (keeps_modLane same (.of_same rfl)) _)
    · exact same
  | lead l => exact absurd rfl (noLead l)
  | trail l =>
    refine keeps_of_next ?_ run
    split
    · exact same
    next x edge =>
      have sensed : Keeps s (s.setLane l { x with lastTrail := x.counter }) :=
        keeps_setLane same ((keeps_edgeTo edge).trans (.of_same rfl))
      dsimp only
      split
      · exact sensed
      · split
        · exact keeps_kickPorts (keeps_attributeTrail sensed l _)
        · exact sensed
  | exitLead l =>
    refine keeps_of_next ?_ run
    split
    · exact same
    next x edge =>
      have sensed : Keeps s (s.setLane l { x with lastExitLead := x.counter }) :=
        keeps_setLane same ((keeps_edgeTo edge).trans (.of_same rfl))
      dsimp only
      split
      · exact keeps_kickPorts (keeps_attributeExitLead sensed l)
      · exact sensed
  | exitTrail l =>
    refine keeps_of_next ?_ run
    split
    · exact same
    next x edge =>
      have sensed : Keeps s (s.setLane l { x with lastExitTrail := x.counter }) :=
        keeps_setLane same ((keeps_edgeTo edge).trans (.of_same rfl))
      dsimp only
      split
      · exact sensed
      · split
        · exact keeps_kickPorts (keeps_attributeExitTrail sensed l _)
        · exact sensed
  | coverActive l =>
    refine keeps_of_next ?_ run
    split
    · exact same
    next x edge => exact keeps_kickPorts (keeps_coverOpened (keeps_setLane same (keeps_edgeTo edge)) l)
  | coverInactive =>
    refine keeps_of_next ?_ run
    split
    · exact same
    next x edge => exact keeps_setLane same (keeps_edgeTo edge)
  | trayEdge =>
    refine keeps_of_next ?_ run
    split
    · exact same
    next x edge => exact keeps_setLane same (keeps_edgeTo edge)
  | spareEdge =>
    refine keeps_of_next ?_ run
    split
    · split
      · exact keeps_setLane same (.of_same rfl)
      · exact keeps_kickPorts (keeps_raise (keeps_setLane same (.of_same (by rfl))) _)
    · exact same
  | linkStateChange => exact keeps_of_next (keeps_modLane same (.of_same rfl)) run
  | strip => exact keeps_of_next (keeps_laneFrameArrives same _ _) run
  | patch => exact keeps_of_next (keeps_laneFrameArrives same _ _) run
  | malformedFrame => exact keeps_of_next (keeps_laneFrameArrives same _ _) run
  | pick l => exact absurd rfl (noPick l)
  | settlement => exact keeps_of_next (keeps_kickPorts (keeps_settleLane same _)) run
  | queueWaitRetry =>
    refine keeps_of_next ?_ run
    split
    · exact same
    · exact keeps_kickPorts (keeps_pokeLane same _)
  | drainCompletion => exact keeps_of_next (keeps_kickPorts (keeps_drainTest same _)) run
  | batchClosure => exact keeps_of_next (keeps_kickPorts (keeps_testClosure same _)) run
  | endOfAbort => exact keeps_of_next (keeps_kickPorts (keeps_testAbort same _)) run
  | frameEnd =>
    refine keeps_of_next ?_ run
    split
    · exact keeps_kickPorts (keeps_boundary (keeps_frameEnds same _) _)
    · exact same
  | frameBoundary => exact keeps_of_next (keeps_kickPorts (keeps_boundary same _)) run
  | pendingLostNotice => exact keeps_of_next (keeps_kickPorts (keeps_placePendingLost same)) run
  | portLinkUp => exact keeps_of_next (keeps_kickPorts (keeps_boundary (keeps_modPort same _ _) _)) run
  | portLinkDown => exact keeps_of_next (keeps_kickPorts (keeps_frameEnds (keeps_modPort same _ _) _)) run

end Sys2Proof.Machine
end

section
/-!
PROOF. Leads and picks, which alone join a sheet to a settlement order or make one a picking sheet; then the capacities and
the order of settlement, whatever the command (R48, R51 to R53, R102, R105).
-/

namespace Sys2Proof.Machine

/-! ### What a lead or a pick adds -/

/-- The lane with sheet `g` at the tail of its settlement order (R51, R105). -/
def Lane.joined (g : Tag) (x : Lane) : Lane := { x with settleOrder := x.settleOrder ++ [g] }

/-- The lane with sheet `g` as its picking sheet (R48). -/
def Lane.picks (g : Tag) (x : Lane) : Lane := { x with picking := some g }

/-- What command `c` adds to state `u` on its way from `s`: nothing, or in a lead the lane's picking sheet or a new one under
a tag of the lane at the tail of the lane's settlement order, or in a pick a picking sheet under a tag of the lane. -/
inductive Joined (c : Instr) (s u : State) : State → Prop
  | nothing : Joined c s u u
  | order (l : Fin 8) (g : Tag) (lead : c = .lead l)
      (tag : (s.lane l).picking = some g ∨ ((s.lane l).picking = none ∧ g.lane = l)) :
      Joined c s u (u.modLane l (Lane.joined g))
  | picking (l : Fin 8) (g : Tag) (tag : g.lane = l) : Joined c s u (u.modLane l (Lane.picks g))

section
variable {s t u : State} {l : Fin 8}

/-- R102: a sheet record is created only while the table has room. -/
theorem keeps_createSheet (h : Keeps s t) (room : tableHasRoom t = true) (batch : Nat) (state : SheetState)
    (f : Findings) (n : Nat) : Keeps s (createSheet l batch state f n t) := by
  have few := of_decide_eq_true room
  unfold tableCapacity at few
  have entered : Keeps s { t with sheets := t.sheets ++ [Sheet.create (freshTag t l) batch state f n] } :=
    keeps_sheets h (by rw [List.length_append, List.length_singleton]; omega)
  have passed := keeps_modLane (l := l) (f := fun x => { x with sequence := (freshTag t l).seq + 1 }) entered (.of_same rfl)
  exact keeps_lowerFree (keeps_congr passed (by rfl)) n

theorem path_createSheet (batch : Nat) (state : SheetState) (f : Findings) (n : Nat) :
    ((createSheet l batch state f n t).lane l).path = (t.lane l).path := by
  rw [lane_of_interior (interior_createSheet l batch state f n t) l, recordAdded, State.lane_modLane_same]
  rfl

/-- R51, R53: a taken lead joins its sheet to the settlement order; the path order has room for it. -/
theorem takeLead_joins (h : Keeps s t) (room : (t.lane l).path.length < 128) (g : Tag) (id : Nat) :
    ∃ v, Keeps s v ∧ Keeps (v.modLane l (Lane.joined g)) (takeLead l g id t) := by
  let stamped := t.modSheet g (fun q => { q with lead := some (t.lane l).counter, state := .inGate })
  let i := (t.batchOf id).profile
  let v := stamped.modLane l (fun x =>
    { Lane.takeLead g i (t.profile i) x with settleOrder := x.settleOrder })
  have split : v.modLane l (Lane.joined g) = stamped.modLane l (Lane.takeLead g i (t.profile i)) :=
    State.modLane_modLane _ _ _ _
  refine ⟨v, keeps_modLane (keeps_modSheet h g _) { Lane.Keeps.refl (t.lane l) with path := ?_ }, ?_⟩
  · change ((t.lane l).path ++ [_]).length ≤ _
    rw [List.length_append, List.length_singleton]
    omega
  · rw [split]
    have fed := keeps_modBatch (keeps_sendHead
      (Keeps.refl (stamped.modLane l (Lane.takeLead g i (t.profile i)))) l (announceFrame g)) id
      (fun b => { b with fed := addSat b.fed 1 })
    unfold takeLead
    dsimp only
    split
    · exact keeps_endFeeding fed l
    · exact fed

/-- R6, R51 to R53: an attributed lead joins the picking sheet or a new one, or none. -/
theorem attributeLead_joins (h : Keeps s t) : Keeps s (attributeLead l t) ∨
    ∃ g v, ((t.lane l).picking = some g ∨ ((t.lane l).picking = none ∧ g.lane = l)) ∧ Keeps s v ∧
      Keeps (v.modLane l (Lane.joined g)) (attributeLead l t) := by
  unfold attributeLead
  dsimp only
  split
  · exact .inl (keeps_jam h l _)
  next room =>
    replace room : (t.lane l).path.length < 128 := Nat.lt_of_not_le room
    split
    next g picking =>
      obtain ⟨v, kept, rest⟩ := takeLead_joins
        (keeps_modLane h (l := l) (f := fun x => { x with picking := none, pickWindow := none }) (.of_lists rfl (.inr rfl)))
        (by rw [State.lane_modLane_same]; exact room) g ((t.sheet? g).elim 0 Sheet.batch)
      exact .inr ⟨g, v, .inl picking, kept, keeps_settleLane rest l⟩
    next picking =>
      unfold unexpectedLead
      split
      · exact .inl (keeps_jam h l _)
      next id _ =>
        split
        next free =>
          obtain ⟨v, kept, rest⟩ := takeLead_joins
            (keeps_createSheet h free id .inGate { Findings.empty with unexpected := true }
              (if reserveFits t l then (t.lane l).config.reserve else 0))
            (by rw [path_createSheet]; exact room) (freshTag t l) id
          exact .inr ⟨freshTag t l, v, .inr ⟨picking, rfl⟩, kept,
            keeps_settleLane (keeps_doubleFeedCheck rest l _) l⟩
        · exact .inl (keeps_halt h l _)

theorem exec_lead_joins (run : exec (.lead l) s = .next t) :
    ∃ u v, Keeps s u ∧ Joined (.lead l) s u v ∧ Keeps v t := by
  cases run
  split
  · exact ⟨s, s, .refl s, .nothing, .refl s⟩
  next x edge =>
    have captured : Keeps s (s.setLane l { x with lastLead := x.counter }) :=
      keeps_setLane (.refl s) ((keeps_edgeTo edge).trans (.of_same rfl))
    have picking : ((s.setLane l { x with lastLead := x.counter }).lane l).picking = (s.lane l).picking := by
      rw [State.lane_setLane_same, edgeTo_frame edge]
    dsimp only
    split
    · rcases attributeLead_joins (l := l) captured with kept | ⟨g, v, tag, kept, rest⟩
      · exact ⟨_, _, keeps_kickPorts kept, .nothing, .refl _⟩
      · rw [picking] at tag
        exact ⟨v, _, kept, .order l g rfl tag, keeps_kickPorts rest⟩
    · exact ⟨_, _, captured, .nothing, .refl _⟩

theorem exec_pick_joins (run : exec (.pick l) s = .next t) :
    ∃ u v, Keeps s u ∧ Joined (.pick l) s u v ∧ Keeps v t := by
  cases run
  split
  next can =>
    have room : tableHasRoom s = true := by
      unfold canPick at can
      simp only [Bool.and_eq_true] at can
      exact can.1.2
    unfold makePick
    split
    · exact ⟨s, s, .refl s, .nothing, keeps_kickPorts (.refl s)⟩
    next id _ =>
      refine ⟨(createSheet l id .picking .empty (s.lane l).config.reserve s).modLane l Lane.drivePick, _,
        keeps_modLane (keeps_createSheet (.refl s) room _ _ _ _) (.of_same rfl), .picking l (freshTag s l) rfl, ?_⟩
      rw [State.modLane_modLane]
      exact keeps_kickPorts (.refl _)
  · exact ⟨s, s, .refl s, .nothing, .refl s⟩

/-- Whatever the command, it keeps what `Keeps` says but for what a lead or a pick adds. -/
theorem exec_joins {c : Instr} (run : exec c s = .next t) : ∃ u v, Keeps s u ∧ Joined c s u v ∧ Keeps v t := by
  by_cases lead : ∃ l, c = .lead l
  · obtain ⟨l, rfl⟩ := lead
    exact exec_lead_joins run
  by_cases pick : ∃ l, c = .pick l
  · obtain ⟨l, rfl⟩ := pick
    exact exec_pick_joins run
  exact ⟨t, t, keeps_exec (not_exists.mp lead) (not_exists.mp pick) run, .nothing, .refl t⟩

/-- With no command waiting, the lists and the credits stay as they are (log 2). -/
theorem keeps_idle (s : State) : Keeps s (idle s) := by
  unfold idle
  split
  · have lists : ∀ l, (s.lane l).Keeps ((tick s).lane l) := fun l => by
      have ticked : ∀ x : Lane, x.Keeps x.tick := fun x => by
        unfold Lane.tick
        split <;> exact .of_same rfl
      rw [lane_tick]
      split
      · exact (ticked _).trans (.of_same rfl)
      · exact ticked _
    rw [tick_frame] at lists ⊢
    exact { Keeps.refl s with lanes := lists }
  · exact keeps_congr (.refl s) (by rfl)

/-! ### The capacities -/

theorem capacitiesHold_of_keeps (kept : Keeps s t) (h : capacitiesHold s) : capacitiesHold t := by
  obtain ⟨sheets, held, batches, notices, lanes⟩ := h
  refine ⟨kept.sheets.trans (max_le sheets le_rfl), kept.held.trans (max_le held le_rfl),
    kept.batches.trans (max_le batches le_rfl), kept.notices.trans (max_le notices le_rfl), fun l => ?_⟩
  obtain ⟨path, queue⟩ := lanes l
  exact ⟨(kept.lanes l).path.trans (max_le path le_rfl), (kept.lanes l).queue.trans (max_le queue le_rfl)⟩

theorem destsHold_of_keeps (kept : Keeps s t) (h : destsHold s) : destsHold t := fun d => by
  obtain ⟨queue, credit⟩ := h d
  exact ⟨(kept.dests d).queue.trans (max_le queue le_rfl), (kept.dests d).credit.trans (max_le credit le_rfl)⟩

/-- A change of a lane that leaves its path order and its batch queue. -/
theorem capacitiesHold_modLane {f : Lane → Lane} (path : (f (s.lane l)).path = (s.lane l).path)
    (queue : (f (s.lane l)).batchQueue = (s.lane l).batchQueue) (h : capacitiesHold s) :
    capacitiesHold (s.modLane l f) := by
  obtain ⟨sheets, held, batches, notices, lanes⟩ := h
  refine ⟨sheets, held, batches, notices, fun k => ?_⟩
  by_cases same : k = l
  · subst same
    rw [State.lane_modLane_same, path, queue]
    exact lanes k
  · rw [State.lane_modLane_other s f same]
    exact lanes k

theorem capacitiesHold_joined {c : Instr} {v : State} (joined : Joined c s u v) (h : capacitiesHold u) :
    capacitiesHold v := by
  cases joined with
  | nothing => exact h
  | order => exact capacitiesHold_modLane rfl rfl h
  | picking => exact capacitiesHold_modLane rfl rfl h

theorem destsHold_joined {c : Instr} {v : State} (joined : Joined c s u v) (h : destsHold u) : destsHold v := by
  cases joined <;> exact h

end

/-- What idling keeps and every command keeps, every step keeps. -/
theorem step_keeps {P : State → Prop} (rest : ∀ (s : State) (cs : List Instr), P s → P { s with pending := cs })
    (idles : ∀ s, P s → P (idle s)) (runs : ∀ c s t, P s → exec c s = .next t → P t) {s t : State} (h : P s)
    (run : step s = .next t) : P t := by
  unfold step at run
  split at run
  · cases run
    exact idles s h
  next c cs _ => exact runs c _ t (rest s cs h) run

/-- Settles O4: every operation is bounded where it adds, and the other operations shorten or keep what they change. -/
theorem stepKeepsCapacities : Obligations.StepKeepsCapacities := by
  refine ⟨fun s t => step_keeps (fun _ _ h => h) (fun s => capacitiesHold_of_keeps (keeps_idle s)) ?_,
    fun s t => step_keeps (fun _ _ h => h) (fun s => destsHold_of_keeps (keeps_idle s)) ?_⟩
  · intro c s t h run
    obtain ⟨u, v, before, joined, after⟩ := exec_joins run
    exact capacitiesHold_of_keeps after (capacitiesHold_joined joined (capacitiesHold_of_keeps before h))
  · intro c s t h run
    obtain ⟨u, v, before, joined, after⟩ := exec_joins run
    exact destsHold_of_keeps after (destsHold_joined joined (destsHold_of_keeps before h))

/-! ### The order of settlement (R105) -/

section
variable {s t u : State}

theorem picksOwnTags_of_keeps (kept : Keeps s t) (h : picksOwnTags s) : picksOwnTags t := by
  intro l g picking
  rcases (kept.lanes l).picking with same | none
  · exact h l g (same.symm.trans picking)
  · rw [none] at picking
    cases picking

theorem picksOwnTags_joined {c : Instr} {v : State} (joined : Joined c s u v) (h : picksOwnTags u) :
    picksOwnTags v := by
  cases joined with
  | nothing => exact h
  | order l g =>
    intro k f picking
    by_cases same : k = l
    · subst same
      rw [State.lane_modLane_same] at picking
      exact h k f picking
    · rw [State.lane_modLane_other u _ same] at picking
      exact h k f picking
  | picking l g tag =>
    intro k f picking
    by_cases same : k = l
    · subst same
      rw [State.lane_modLane_same] at picking
      cases picking
      exact tag
    · rw [State.lane_modLane_other u _ same] at picking
      exact h k f picking

/-- Sheets gone at the head alone, before and after one has joined at the tail: in all they left at the head, and the newest
is still at the tail unless every sheet has left. -/
theorem order_of_joined {xs ys zs : List Tag} {g : Tag} (before : ys <:+ xs) (after : zs <:+ ys ++ [g]) :
    ∃ k, zs = xs.drop k ++ [] ∨ zs = xs.drop k ++ [g] := by
  rcases List.suffix_concat_iff.mp after with empty | ⟨left, rfl, suffix⟩
  · exact ⟨xs.length, .inl (by simp [empty])⟩
  · exact ⟨_, .inr (congrArg (· ++ [g]) (List.suffix_iff_eq_drop.mp (suffix.trans before)))⟩

/-- R105: a lane's order, but for the lead that joins a sheet to it. -/
theorem order_of_keeps {l : Fin 8} (order : (t.lane l).settleOrder <:+ (s.lane l).settleOrder) (c : Instr) :
    ∃ (k : Nat) (newest : List Tag), newest.length ≤ 1 ∧ (newest ≠ [] → c = .lead l) ∧
      (∀ g ∈ newest, (s.lane l).picking = some g ∨ ((s.lane l).picking = none ∧ g.lane = l)) ∧
      (picksOwnTags s → ∀ g ∈ newest, g.lane = l) ∧
      (t.lane l).settleOrder = (s.lane l).settleOrder.drop k ++ newest :=
  ⟨_, [], Nat.zero_le _, fun h => absurd rfl h, by simp, by simp,
    (List.suffix_iff_eq_drop.mp order).trans (List.append_nil _).symm⟩

end

/-- Settles O52: between what it keeps, a command can join one sheet, in a lead of the lane. -/
theorem sheetsSettleInLeadOrder : Obligations.SheetsSettleInLeadOrder := by
  refine ⟨fun c s t l run => ?_, fun s t => step_keeps (fun _ _ h => h)
    (fun s => picksOwnTags_of_keeps (keeps_idle s)) fun c s t h run => ?_⟩
  · obtain ⟨u, v, before, joined, after⟩ := exec_joins run
    have left := (before.lanes l).order
    have stays := (after.lanes l).order
    cases joined with
    | nothing => exact order_of_keeps (stays.trans left) c
    | picking k g =>
      refine order_of_keeps (stays.trans ?_) c
      by_cases same : l = k
      · subst same
        rw [State.lane_modLane_same]
        exact left
      · rw [State.lane_modLane_other u _ same]
        exact left
    | order k g lead tag =>
      by_cases same : l = k
      · subst same
        rw [State.lane_modLane_same] at stays
        obtain ⟨n, none | newest⟩ := order_of_joined left stays
        · exact ⟨n, [], Nat.zero_le _, fun h => absurd rfl h, by simp, by simp, none⟩
        · refine ⟨n, [g], le_rfl, fun _ => lead, by simpa using tag, fun own => ?_, newest⟩
          rw [List.forall_mem_singleton]
          rcases tag with picking | ⟨-, fresh⟩
          · exact own l g picking
          · exact fresh
      · rw [State.lane_modLane_other u _ same] at stays
        exact order_of_keeps (stays.trans left) c
  · obtain ⟨u, v, before, joined, after⟩ := exec_joins run
    exact picksOwnTags_of_keeps after (picksOwnTags_joined joined (picksOwnTags_of_keeps before h))

end Sys2Proof.Machine
end

section
/-!
PROOF. LANE_START and LANE_MANUAL: the checks in their order, and what the lane and its batch become (R61, R65).
-/

namespace Sys2Proof.Machine

/-! ### Lane directives in general (R60, R184) -/

section
variable {row : DirectiveRow} {d : Directive} {s u : State} {k : Nat} {l : Fin 8}
  {body : Fin 8 → List Byte → State → Executed} {r : Result} {data : List Byte}

/-- A lane directive is answered with what its body gives. -/
theorem laneDirective_keeps (waits : waiting row d s) (named : names d k l.val)
    (gives : body l d.params s.dequeued = ⟨r, data, u⟩) (kept : KeepsReplies s.dequeued u) :
    ∃ t, (Host.Outcome.next (runDirective row (withLength k (withLane body)) s) : Answer) = .next t ∧
      answered d r data s t ∧ t.interior = u.interior :=
  runDirective_keeps waits ((withLane_of_names named body _).trans gives) kept

theorem laneDirective_refuses (waits : waiting row d s) (named : names d k l.val)
    (refuses : body l d.params s.dequeued = refuse r s.dequeued) :
    ∃ t, (Host.Outcome.next (runDirective row (withLength k (withLane body)) s) : Answer) = .next t ∧
      answered d r [] s t ∧ t.interior = s.interior :=
  runDirective_refuses waits ((withLane_of_names named body _).trans refuses)

end

/-! ### LANE_START (R61) -/

theorem LaneState.atRest_iff (x : LaneState) : x.atRest = true ↔ x = .off ∨ x = .idle := by
  cases x <;> simp [LaneState.atRest]

/-- R61, R130: a started lane, in SPINUP from OFF, in FEEDING from IDLE. -/
def Lane.started (x : Lane) : Lane :=
  if x.state = .off then
    { x with state := .spinup, spinTarget := some .feeding, spinRemaining := some x.spinTime,
             idleRemaining := none, drainCause := .none, haltReason := .none, nextPick := .passed }
  else
    { x with state := .feeding, idleRemaining := none, drainCause := .none, haltReason := .none, nextPick := .passed }

section
variable {l : Fin 8} {ps : List Byte} {u : State}

theorem laneStart_of_not_atRest (moving : (u.lane l).state.atRest = false) :
    laneStart l ps u = refuse .state u := by
  simp [laneStart, moving]

variable (rest : (u.lane l).state.atRest = true)
include rest

theorem laneStart_of_not_canFeed (unable : (u.lane l).canFeed = false) : laneStart l ps u = refuse .config u := by
  simp [laneStart, rest, unable]

variable (able : (u.lane l).canFeed = true)
include able

theorem laneStart_of_cover (cover : (u.lane l).coverCondition = true) : laneStart l ps u = refuse .interlock u := by
  simp [laneStart, rest, able, cover]

variable (closed : (u.lane l).coverCondition = false)
include closed

theorem laneStart_of_held (held : laneHeld u l = true) : laneStart l ps u = refuse .heldPending u := by
  simp [laneStart, rest, able, closed, held]

variable (none : laneHeld u l = false)
include none

theorem laneStart_of_no_batch (empty : (u.lane l).batchQueue = []) : laneStart l ps u = refuse .notFound u := by
  simp [laneStart, rest, able, closed, none, empty]

variable {id : Nat} {more : List Nat} (queue : (u.lane l).batchQueue = id :: more)
include queue

theorem laneStart_of_no_divert (divert : (u.batchOf id).action = .divert) (noLine : (u.lane l).hasRole .divert = false) :
    laneStart l ps u = refuse .config u := by
  simp [laneStart, rest, able, closed, none, queue, divert, noLine]

/-- R61: with every check passed the head batch feeds and the lane is started. -/
theorem laneStart_of_checked (can : (u.batchOf id).action ≠ .divert ∨ (u.lane l).hasRole .divert = true) :
    laneStart l ps u =
      accept ((u.modBatch id (fun b => { b with state := .feeding })).modLane l Lane.started) := by
  have passes : ¬ ((u.batchOf id).action = .divert ∧ (u.lane l).hasRole .divert = false) := by
    rintro ⟨divert, noLine⟩
    rcases can with other | line
    · exact other divert
    · rw [noLine] at line
      cases line
  simp only [laneStart, rest, able, closed, none, queue, passes]
  refine congrArg accept (State.modLane_congr _ l ?_)
  unfold Lane.started
  split <;> rfl

end

/-- Settles O15: the checks of LANE_START in their order. -/
theorem laneStartStartsHeadBatch : Obligations.LaneStartStartsHeadBatch := by
  intro s d l waits named
  refine ⟨fun notOff notIdle => ?_, fun resting => ?_⟩
  · refine laneDirective_refuses waits named (laneStart_of_not_atRest (Bool.eq_false_iff.mpr fun rest => ?_))
    exact ((LaneState.atRest_iff _).mp rest).elim notOff notIdle
  have rest : (s.dequeued.lane l).state.atRest = true := (LaneState.atRest_iff _).mpr resting
  refine ⟨fun unable => laneDirective_refuses waits named (laneStart_of_not_canFeed rest unable),
    fun able cover => laneDirective_refuses waits named (laneStart_of_cover rest able cover),
    fun able closed => ⟨fun held => laneDirective_refuses waits named (laneStart_of_held rest able closed held),
      fun none empty => laneDirective_refuses waits named (laneStart_of_no_batch rest able closed none empty),
      fun id more none queue => ⟨fun divert noLine =>
        laneDirective_refuses waits named (laneStart_of_no_divert rest able closed none queue divert noLine),
        fun can => ?_⟩⟩⟩
  obtain ⟨t, run, reply, left⟩ := laneDirective_keeps waits named
    (laneStart_of_checked rest able closed none queue can) ⟨rfl, rfl, rfl, rfl⟩
  exact ⟨t, run, reply, left⟩

/-! ### LANE_MANUAL (R65) -/

theorem NextPick.disarmed_eq (q : NextPick) : q.disarmed = match q with | .armed _ => .none | p => p := by
  cases q <;> rfl

section
variable {l : Fin 8} {ps : List Byte} {u : State}

/-- R65: ENTER from OFF. -/
theorem laneManualEnter_of_off (enters : rd ps 1 1 = 0) (off : (u.lane l).state = .off) :
    laneManualEnter l ps u = accept (u.modLane l (fun x => { x.clearDriveLatches.disarmed with state := .manual })) := by
  simp [laneManualEnter, enters, off]

/-- R65: LEAVE from MANUAL. -/
theorem laneManualLeave_of_manual (manual : (u.lane l).state = .manual) :
    laneManualLeave l ps u = accept (u.modLane l (fun x => { x.clearDriveLatches with
      state := .off, pickPulseEnd := none, pickDriven := false, divertEnd := none, divertDriven := false })) := by
  simp [laneManualLeave, manual]

end

/-- Settles O18: each form changes its lane alone. -/
theorem laneManualMovesBetweenOffAndManual : Obligations.LaneManualMovesBetweenOffAndManual := by
  intro s d l named
  refine ⟨fun waits enters off => ?_, fun waits manual => ?_⟩
  · obtain ⟨t, run, reply, left⟩ := laneDirective_keeps waits named
      (laneManualEnter_of_off (u := s.dequeued) enters off) ⟨rfl, rfl, rfl, rfl⟩
    refine ⟨t, run, reply, left.trans ?_⟩
    refine (interior_modLane_congr (s := s.dequeued) (t := s) rfl l _).trans
      (congrArg State.interior (State.modLane_congr s l ?_))
    unfold Lane.disarmed
    rw [NextPick.disarmed_eq]
    rfl
  · obtain ⟨t, run, reply, left⟩ := laneDirective_keeps waits named
      (laneManualLeave_of_manual (u := s.dequeued) manual) ⟨rfl, rfl, rfl, rfl⟩
    exact ⟨t, run, reply, left⟩

end Sys2Proof.Machine
end

section
/-!
PROOF. The completion of a drain, cause by cause (R43, R131, R132, R137), and LANE_PAUSE and LANE_RESUME, which can complete
one at once (R62, R63).
-/

namespace Sys2Proof.Machine

/-! ### A completed drain, cause by cause (R43, R131) -/

section
variable {s : State} {l : Fin 8} {id : Nat} {rest : List Nat} {b : Batch}

theorem drainTest_of_drained (drained : (s.lane l).drained = true) :
    drainTest l s = batchLeaves l (s.modLane l Lane.enterIdle) := by
  unfold drainTest
  rw [if_pos drained]

variable (queue : (s.lane l).batchQueue = id :: rest) (found : s.batch? id = some b)
  (active : b.state = .feeding ∨ b.state = .draining ∨ b.state = .aborted)
include queue found active

/-- R131: with cause PAUSE the batch waits in the queue again. -/
theorem drainTest_of_paused (drained : (s.lane l).drained = true) (cause : (s.lane l).drainCause = .pause) :
    drainTest l s = (s.modBatch id (fun c => { c with state := .queued })).modLane l Lane.rested := by
  have still : (s.modLane l Lane.enterIdle).activeBatch l = some id :=
    activeBatch_head (by rw [State.lane_modLane_same]; exact queue) found active
  have paused : ((s.modLane l Lane.enterIdle).lane l).drainCause = .pause := by
    rw [State.lane_modLane_same]
    exact cause
  rw [drainTest_of_drained drained]
  unfold batchLeaves
  simp only [still, paused, State.modLane_modLane]
  rfl

/-- R131, R132: with cause END the batch is ENDED and out of the queue, and closed where nothing of it is held or pending. -/
theorem interior_drainTest_of_fed (drained : (s.lane l).drained = true) (cause : (s.lane l).drainCause = .feedEnd) :
    (drainTest l s).interior =
      let out := s.modLane l (fun x => { x.rested with batchQueue := rest })
      (if b.heldNow = 0 ∧ b.deliveriesPending = 0 then
        reportedOf { b with state := .ended } .closed (out.setFlag (.lane l .batchEnd) true)
      else (out.modBatch id (fun c => { c with state := .ended })).setFlag (.lane l .batchEnd) true).interior := by
  have still : (s.modLane l Lane.enterIdle).activeBatch l = some id :=
    activeBatch_head (by rw [State.lane_modLane_same]; exact queue) found active
  have fed : ((s.modLane l Lane.enterIdle).lane l).drainCause = .feedEnd := by
    rw [State.lane_modLane_same]
    exact cause
  let out := s.modLane l (fun x => { x.rested with batchQueue := rest })
  let ended := (s.modBatch id (fun c => { c with state := .ended })).modLane l
    (fun x => { x.rested with batchQueue := rest })
  have unqueued : (((s.modLane l Lane.enterIdle).modLane l (fun x => { x with drainCause := .none })).modBatch id
      (fun c => { c with state := .ended })).modLane l (fun x => { x with batchQueue := x.batchQueue.erase id }) = ended := by
    rw [State.modLane_modLane]
    refine (State.modLane_modLane (s.modBatch id _) l _ _).trans (State.modLane_congr (s.modBatch id _) l ?_)
    simp only [Function.comp, State.lane_modBatch, Lane.rested, Lane.enterIdle, Lane.stopSpin, queue,
      List.erase_cons_head]
  have own : b.id = id := State.id_of_batch? found
  have flagged := interior_raise (.lane l .batchEnd) ended
  have batch : (raise (.lane l .batchEnd) ended).batch? id = some { b with state := .ended } := by
    rw [batch?_of_interior flagged, State.batch?_setFlag, State.batch?_modLane,
      State.batch?_modBatch_same _ _ _ (fun _ => by rfl), found]
    rfl
  rw [drainTest_of_drained drained]
  unfold batchLeaves
  simp only [still, fed, unqueued]
  rw [interior_testClosure batch]
  simp only [true_and]
  split
  · rw [interior_reportedOf_congr flagged]
    exact congrArg State.interior (reportedOf_modBatch (b := { b with state := .ended }) own
      .closed (out.setFlag (.lane l .batchEnd) true) (f := fun c => { c with state := .ended }) (fun _ => rfl))
  · exact flagged

end

/-- R131, R137: with cause ABORT the batch leaves the queue, and is ended where nothing of it is pending. -/
theorem interior_drainTest_of_aborted {s : State} {l : Fin 8} {id : Nat} {rest : List Nat} {b : Batch}
    (h : activeWith s l id rest b) (drained : (s.lane l).drained = true) (cause : (s.lane l).drainCause = .abort) :
    (drainTest l s).interior =
      let out := s.modLane l (fun x => { x.rested with batchQueue := rest })
      (if b.deliveriesPending = 0 then reportedOf b .aborted out else out).interior := by
  have batch : (s.modLane l Lane.rested).batchOf id = b := by
    obtain ⟨-, -, found, -⟩ := h
    rw [State.batchOf_modLane, State.batchOf, found]
    rfl
  rw [interior_drainTest_of_drained h drained, drainDone, cause]
  simp only [departed, leftLane, batch, State.modLane_modLane]
  rfl

/-- Settles O29: one lemma for each drain cause. -/
theorem drainCompletionMovesBatch : Obligations.DrainCompletionMovesBatch := by
  intro s l id rest b draining noPicking noPath noOrder queue found
  have drained : (s.lane l).drained = true := (drained_iff _).mpr ⟨draining, noPicking, noPath, noOrder⟩
  refine ⟨fun state cause => ⟨_, rfl, ?_⟩, fun state cause => ⟨_, rfl, ?_⟩, fun state cause own notBehind => ⟨_, rfl, ?_⟩⟩
  · rw [interior_kickPorts, drainTest_of_paused queue found (.inr (.inl state)) drained cause]
    rfl
  · rw [interior_kickPorts, interior_drainTest_of_fed queue found (.inr (.inl state)) drained cause]
    rfl
  · rw [interior_kickPorts, interior_drainTest_of_aborted
      ⟨queue, notBehind, found, own, .inr (.inr state), fun _ => state⟩ drained cause]
    rfl

/-! ### LANE_PAUSE (R42, R62) -/

theorem Lane.canPause_iff (x : Lane) : x.canPause = true ↔ x.drainCause = .none ∧
    (x.state = .feeding ∨ x.state = .halted ∨ (x.state = .spinup ∧ x.spinTarget = some .feeding)) := by
  unfold Lane.canPause
  cases x.state <;> simp

theorem Lane.nothingInProgress_iff (x : Lane) :
    x.nothingInProgress = true ↔ x.picking = none ∧ x.path = [] ∧ x.settleOrder = [] := by
  simp [Lane.nothingInProgress, and_assoc]

/-- R42, R62: a paused lane. -/
def Lane.paused (x : Lane) : Lane := { x.enterDraining with drainCause := .pause }

/-- A lane that has entered DRAINING completes its drain when nothing is left in it. -/
theorem Lane.drained_of_draining {x : Lane} (state : x.state = .draining) : x.drained = x.nothingInProgress := by
  simp [Lane.drained, Lane.nothingInProgress, state]

theorem Lane.nothingInProgress_enterDraining (x : Lane) :
    x.enterDraining.nothingInProgress = x.nothingInProgress := rfl

theorem Lane.nothingInProgress_paused (x : Lane) : x.paused.nothingInProgress = x.nothingInProgress := rfl

section
variable {u : State} {l : Fin 8} {ps : List Byte}

theorem lanePause_of_not_canPause (unable : (u.lane l).canPause = false) : lanePause l ps u = refuse .state u := by
  simp [lanePause, unable]

/-- The state after a pause, before the test for drain completion. -/
def pausing (l : Fin 8) (id : Nat) (u : State) : State :=
  (u.modBatch id (fun c => if c.state = .feeding then { c with state := .draining } else c)).modLane l Lane.paused

theorem lane_pausing (l : Fin 8) (id : Nat) (u : State) : (pausing l id u).lane l = (u.lane l).paused := by
  rw [pausing, State.lane_modLane_same, State.lane_modBatch]

theorem lanePause_of_canPause {id : Nat} (able : (u.lane l).canPause = true) (active : u.activeBatch l = some id) :
    lanePause l ps u = accept (drainTest l (pausing l id u)) := by
  simp only [lanePause, able, active]
  rfl

variable {id : Nat} {rest : List Nat} {b : Batch} (queue : (u.lane l).batchQueue = id :: rest)
  (found : u.batch? id = some b) (feeding : b.state = .feeding)
include queue found feeding

/-- R43, R62: the pause of an empty lane completes the drain at once. -/
theorem drainTest_pausing_of_empty (empty : (u.lane l).nothingInProgress = true) :
    drainTest l (pausing l id u) = (u.modBatch id (fun c => { c with state := .queued })).modLane l
      (fun x => { x.rested with haltReason := .none }) := by
  have drained : ((pausing l id u).lane l).drained = true := by
    rw [lane_pausing, Lane.drained_of_draining rfl, Lane.nothingInProgress_paused, empty]
  have draining : (pausing l id u).batch? id = some { b with state := .draining } := by
    rw [pausing, State.batch?_modLane, State.batch?_modBatch_same _ _ _ (fun c => by split <;> rfl), found]
    simp [feeding]
  rw [drainTest_of_paused (b := { b with state := .draining }) (by rw [lane_pausing]; exact queue) draining
    (.inr (.inl rfl)) drained (by rw [lane_pausing]; rfl)]
  have merged : (pausing l id u).modBatch id (fun c => { c with state := .queued }) =
      (u.modBatch id (fun c => { c with state := .queued })).modLane l Lane.paused := by
    change ((u.modBatch id _).modBatch id _).modLane l Lane.paused = _
    rw [State.modBatch_modBatch _ _ _ _ (fun c => by split <;> rfl)]
    congr 2
    funext c
    dsimp only [Function.comp]
    split <;> rfl
  rw [merged, State.modLane_modLane]
  rfl

end

/-- R62: an accepted pause. -/
theorem lanePause_answers {s : State} {d : Directive} {l : Fin 8} {id : Nat} (waits : waiting .lanePause d s)
    (named : names d 1 l.val) (able : (s.lane l).canPause = true) (active : s.activeBatch l = some id) :
    ∃ t, exec .lanePause s = .next t ∧ answered d .ok [] s t ∧ t.interior = (drainTest l (pausing l id s)).interior := by
  obtain ⟨t, run, reply, left⟩ := laneDirective_keeps waits named
    (lanePause_of_canPause (u := s.dequeued) able active)
    (.trans (t := pausing l id s.dequeued) ⟨rfl, rfl, rfl, rfl⟩ (keepsReplies_drainTest l _))
  exact ⟨t, run, reply, left.trans (interior_drainTest_congr (s := pausing l id s.dequeued) (t := pausing l id s) rfl l)⟩

/-! ### LANE_RESUME (R63) -/

section
variable {u : State} {l : Fin 8} {ps : List Byte}

theorem laneResume_of_not_halted (other : (u.lane l).state ≠ .halted) : laneResume l ps u = refuse .state u := by
  simp [laneResume, other]

variable (halted : (u.lane l).state = .halted)
include halted

theorem laneResume_of_not_canFeed (unable : (u.lane l).canFeed = false) : laneResume l ps u = refuse .config u := by
  simp [laneResume, halted, unable]

variable (able : (u.lane l).canFeed = true)
include able

theorem laneResume_of_cover (cover : (u.lane l).coverCondition = true) : laneResume l ps u = refuse .interlock u := by
  simp [laneResume, halted, able, cover]

variable (closed : (u.lane l).coverCondition = false)
include closed

theorem laneResume_of_held (held : laneHeld u l = true) : laneResume l ps u = refuse .heldPending u := by
  simp [laneResume, halted, able, closed, held]

variable (none : laneHeld u l = false)
include none

theorem laneResume_feeds (cause : (u.lane l).drainCause = .none) :
    laneResume l ps u = accept (u.modLane l (fun x => { x with state := .feeding, haltReason := .none })) := by
  simp [laneResume, halted, able, closed, none, cause]

theorem laneResume_drains (cause : (u.lane l).drainCause ≠ .none) :
    laneResume l ps u = accept (drainTest l (u.modLane l Lane.enterDraining)) := by
  simp [laneResume, halted, able, closed, none, cause]

end

/-- R63: a resumed lane that has a drain cause. -/
theorem laneResume_answers {s : State} {d : Directive} {l : Fin 8} (waits : waiting .laneResume d s)
    (named : names d 1 l.val) (halted : (s.lane l).state = .halted) (able : (s.lane l).canFeed = true)
    (closed : (s.lane l).coverCondition = false) (none : laneHeld s l = false) (cause : (s.lane l).drainCause ≠ .none) :
    ∃ t, exec .laneResume s = .next t ∧ answered d .ok [] s t ∧
      t.interior = (drainTest l (s.modLane l Lane.enterDraining)).interior := by
  obtain ⟨t, run, reply, left⟩ := laneDirective_keeps waits named
    (laneResume_drains (u := s.dequeued) halted able closed none cause)
    (.trans (t := s.dequeued.modLane l Lane.enterDraining) ⟨rfl, rfl, rfl, rfl⟩ (keepsReplies_drainTest l _))
  exact ⟨t, run, reply, left.trans (interior_drainTest_congr (s := s.dequeued.modLane l Lane.enterDraining)
    (t := s.modLane l Lane.enterDraining) rfl l)⟩

/-- R43: the drain of a resumed lane with nothing left in it is completed at once. -/
theorem interior_drainTest_of_resumed {s : State} {l : Fin 8} {id : Nat} {rest : List Nat} {b : Batch}
    (empty : (s.lane l).nothingInProgress = true) (h : activeWith s l id rest b) :
    (drainTest l (s.modLane l Lane.enterDraining)).interior =
      (drainDone l id rest (s.modLane l (fun x => { x with haltReason := .none }))).interior := by
  have lane : (s.modLane l Lane.enterDraining).lane l = (s.lane l).enterDraining := State.lane_modLane_same _ _ _
  have found : (s.modLane l Lane.enterDraining).batch? id = some b := by
    obtain ⟨-, -, found, -⟩ := h
    exact found
  have still : activeWith (s.modLane l Lane.enterDraining) l id rest b :=
    activeWith_of_kept h (by rw [lane]; rfl) (by rw [lane]; rfl) found rfl rfl
  have drained : ((s.modLane l Lane.enterDraining).lane l).drained = true := by
    rw [lane, Lane.drained_of_draining rfl, Lane.nothingInProgress_enterDraining, empty]
  rw [interior_drainTest_of_drained still drained]
  simp only [drainDone, State.modLane_modLane, State.lane_modLane_same]
  rfl

/-- Settles O16: the pause and the resumption, each with the drain that it can complete. -/
theorem lanePauseDrainsAndResumeFeeds : Obligations.LanePauseDrainsAndResumeFeeds := by
  refine ⟨fun s d l waits named => ⟨fun barred => ?_, fun id rest b noCause feeds queue found feeding => ?_⟩,
    fun s d l waits named => ⟨fun other => laneDirective_refuses waits named (laneResume_of_not_halted other),
      fun halted => ⟨fun unable => laneDirective_refuses waits named (laneResume_of_not_canFeed halted unable),
        fun able cover => laneDirective_refuses waits named (laneResume_of_cover halted able cover),
        fun able closed => ⟨fun held => laneDirective_refuses waits named (laneResume_of_held halted able closed held),
          fun none => ⟨fun noCause => ?_, fun cause busy => ?_, fun id rest b cause empty h => ?_⟩⟩⟩⟩⟩
  · refine laneDirective_refuses waits named (lanePause_of_not_canPause (Bool.eq_false_iff.mpr fun able => ?_))
    obtain ⟨noCause, feeds⟩ := (Lane.canPause_iff _).mp able
    rcases barred with cause | stays
    · exact cause noCause
    · exact stays feeds
  · obtain ⟨t, run, reply, left⟩ := lanePause_answers waits named ((Lane.canPause_iff _).mpr ⟨noCause, feeds⟩)
      (activeBatch_head queue found (.inl feeding))
    refine ⟨t, run, reply, ?_⟩
    split
    case isTrue empty =>
      rw [left, drainTest_pausing_of_empty queue found feeding empty]
      rfl
    case isFalse busy =>
      rw [left, drainTest_of_not_drained]
      · rfl
      · rw [lane_pausing, Lane.drained_of_draining rfl, Lane.nothingInProgress_paused]
        exact Bool.eq_false_iff.mpr busy
  · obtain ⟨t, run, reply, left⟩ := laneDirective_keeps waits named
      (laneResume_feeds (u := s.dequeued) halted able closed none noCause) ⟨rfl, rfl, rfl, rfl⟩
    exact ⟨t, run, reply, left⟩
  · obtain ⟨t, run, reply, left⟩ := laneResume_answers waits named halted able closed none cause
    refine ⟨t, run, reply, ?_⟩
    rw [left, drainTest_of_not_drained]
    · rfl
    · rw [State.lane_modLane_same, Lane.drained_of_draining rfl, Lane.nothingInProgress_enterDraining, busy]
  · obtain ⟨t, run, reply, left⟩ := laneResume_answers waits named halted able closed none cause
    exact ⟨t, run, reply, left.trans (interior_drainTest_of_resumed empty h)⟩

end Sys2Proof.Machine
end

section
/-!
PROOF. The expired pick window: repeated pick, halt, end of feeding, freed picking sheet (R40, R42, R43, R49, R50).
-/

namespace Sys2Proof.Machine

/-- The state with the window of lane `l` closed (R49). -/
def windowClosed (l : Fin 8) (s : State) : State := s.modLane l (fun x => { x with pickWindow := none })

/-- The state with sheet `r`, the picking sheet of lane `l`, freed (R49, R50). -/
def pickLost (l : Fin 8) (r : Sheet) (s : State) : State :=
  (freedOf r s).modLane l (fun x => { x with picking := none, pickWindow := none })

/-- R131: a change of a batch's state before it is ENDED does not matter. -/
theorem departed_feedEnd_modBatch {u : State} {l : Fin 8} {id : Nat} {rest : List Nat} {b : Batch}
    (found : u.batch? id = some b) (state : Batch → BatchState) :
    departed l id rest .feedEnd (u.modBatch id (fun c => { c with state := state c })) =
      departed l id rest .feedEnd u := by
  have after : (u.modBatch id (fun c => { c with state := state c })).batchOf id = { b with state := state b } := by
    rw [State.batchOf, State.batch?_modBatch_same u id _ (fun _ => by rfl), found]
    rfl
  have before : u.batchOf id = b := by
    rw [State.batchOf, found]
    rfl
  have ended : leftLane l id rest .feedEnd (u.modBatch id (fun c => { c with state := state c })) =
      leftLane l id rest .feedEnd u := by
    unfold leftLane
    dsimp only
    rw [State.modBatch_modBatch u id _ _ (fun _ => by rfl)]
    rfl
  simp only [departed, after, before, ended]

section
variable {s : State} {l : Fin 8} {g : Tag} {r : Sheet} {id : Nat}

theorem lane_pickLost : (pickLost l r s).lane l = { s.lane l with picking := none, pickWindow := none } :=
  State.lane_modLane_same _ _ _

theorem batch?_pickLost : (pickLost l r s).batch? id = s.batch? id := rfl

theorem activeBatch_pickLost : (pickLost l r s).activeBatch l = s.activeBatch l :=
  activeBatch_of_parts (by rw [lane_pickLost]) rfl

theorem freePicking_windowClosed (picking : (s.lane l).picking = some g) (found : s.sheet? g = some r) :
    freePicking l (windowClosed l s) = pickLost l r s := by
  have still : ((windowClosed l s).lane l).picking = some g := by
    rw [windowClosed, State.lane_modLane_same]
    exact picking
  have live : (windowClosed l s).sheet? g = some r := found
  unfold freePicking
  rw [still]
  dsimp only
  rw [freeRecord_of_sheet? live]
  exact State.modLane_modLane (freedOf r s) l (fun x => { x with pickWindow := none }) _

section
variable (expired : (s.lane l).pickWindow = some (s.lane l).counter)
include expired

/-- The due pick window of a FEEDING lane (R49). -/
theorem exec_pickWindow_feeding (feeding : (s.lane l).state = .feeding) :
    exec (.pickWindowExpiry l) s = .next (kickPorts (feedingWindow l (windowClosed l s))) := by
  have fires : due (s.lane l).counter (s.lane l).pickWindow = true := decide_eq_true expired
  simp only [exec, execPickWindowExpiry, fires, feeding]
  rfl

/-- The due pick window of a DRAINING or HALTED lane (R50). -/
theorem exec_pickWindow_other (picking : (s.lane l).picking = some g) (found : s.sheet? g = some r)
    (state : (s.lane l).state = .draining ∨ (s.lane l).state = .halted) :
    exec (.pickWindowExpiry l) s = .next (kickPorts (drainTest l (pickLost l r s))) := by
  have fires : due (s.lane l).counter (s.lane l).pickWindow = true := decide_eq_true expired
  rw [← freePicking_windowClosed picking found]
  rcases state with state | state <;>
    · simp only [exec, execPickWindowExpiry, fires, state]
      rfl

end

/-- R49: with the tray empty the picking sheet is freed, and feeding ends or the lane halts. -/
theorem feedingWindow_of_empty (picking : (s.lane l).picking = some g) (found : s.sheet? g = some r)
    (active : s.activeBatch l = some id) (empty : (s.lane l).trayEmpty = true) :
    feedingWindow l (windowClosed l s) =
      if (s.batchOf id).expected = 0 then drainTest l (endFeeding l (pickLost l r s))
      else halt l .stackShort (pickLost l r s) := by
  have lane : (windowClosed l s).lane l = { s.lane l with pickWindow := none } := State.lane_modLane_same _ _ _
  have still : (windowClosed l s).activeBatch l = some id :=
    (activeBatch_of_parts (s := windowClosed l s) (t := s) (by rw [lane]) rfl).trans active
  have batch : (windowClosed l s).batchOf id = s.batchOf id := rfl
  have tray : ((windowClosed l s).lane l).trayEmpty = true := by
    rw [lane]
    exact empty
  unfold feedingWindow
  simp only [tray, still, batch, freePicking_windowClosed picking found, if_true, decide_eq_true_eq]

/-- R49: with sheets in the tray the pick is repeated, or the sheet is freed and MISFEED flagged. -/
theorem feedingWindow_of_fed (picking : (s.lane l).picking = some g) (found : s.sheet? g = some r)
    (fed : (s.lane l).trayEmpty = false) :
    feedingWindow l (windowClosed l s) =
      if r.retries < (s.lane l).config.retryLimit then
        ((windowClosed l s).modSheet g (fun q => { q with retries := q.retries + 1 })).modLane l Lane.drivePick
      else halt l .misfeed (raise (.lane l .misfeed) (pickLost l r s)) := by
  have lane : (windowClosed l s).lane l = { s.lane l with pickWindow := none } := State.lane_modLane_same _ _ _
  have tray : ((windowClosed l s).lane l).trayEmpty = false := by
    rw [lane]
    exact fed
  have still : ((windowClosed l s).lane l).picking = some g := by
    rw [lane]
    exact picking
  have limit : ((windowClosed l s).lane l).config = (s.lane l).config := by rw [lane]
  have live : (windowClosed l s).sheet? g = some r := found
  have retries : pickingRetries (windowClosed l s) l = r.retries := by
    unfold pickingRetries
    rw [still]
    dsimp only
    rw [live]
    rfl
  unfold feedingWindow
  simp only [tray, still, limit, retries, freePicking_windowClosed picking found]
  rfl

/-- R42: the end of feeding of a FEEDING lane that has lost its picking sheet. -/
theorem endFeeding_pickLost (active : s.activeBatch l = some id) (feeding : (s.lane l).state = .feeding) :
    endFeeding l (pickLost l r s) =
      ((pickLost l r s).modBatch id (fun b => if b.state = .feeding then { b with state := .draining } else b)).modLane l
        (fun x => { x with
          state := .draining, haltReason := .none, spinTarget := none, spinRemaining := none,
          drainCause := if x.drainCause = .abort then .abort else .feedEnd }) := by
  rw [endFeeding_of_active (activeBatch_pickLost.trans active)]
  refine State.modLane_congr _ l ?_
  have state : (((pickLost l r s).modBatch id
      (fun b => if b.state = .feeding then { b with state := .draining } else b)).lane l).state = .feeding := by
    rw [State.lane_modBatch, lane_pickLost]
    exact feeding
  unfold Lane.fedOut
  rw [if_pos (.inr state)]

theorem activeWith_pickLost {rest : List Nat} {b : Batch} (h : activeWith s l id rest b) :
    activeWith (pickLost l r s) l id rest b := by
  have found : s.batch? id = some b := by
    obtain ⟨-, -, found, -⟩ := h
    exact found
  exact activeWith_of_kept h (by rw [lane_pickLost]) (by rw [lane_pickLost]) found rfl rfl

/-- A lane that has lost its picking sheet completes its drain when it is DRAINING and nothing else is in it. -/
theorem drained_pickLost_iff : ((pickLost l r s).lane l).drained = true ↔
    (s.lane l).state = .draining ∧ (s.lane l).path = [] ∧ (s.lane l).settleOrder = [] := by
  rw [lane_pickLost, drained_iff]
  simp

end

/-- R43: the end of feeding completes the drain of a lane with nothing left in it. -/
theorem interior_drainTest_endFeeding {s : State} {l : Fin 8} {r : Sheet} {id : Nat} {rest : List Nat} {b : Batch}
    (feeding : (s.lane l).state = .feeding) (noPath : (s.lane l).path = []) (noOrder : (s.lane l).settleOrder = [])
    (noAbort : (s.lane l).drainCause ≠ .abort) (h : activeWith s l id rest b) :
    (drainTest l (endFeeding l (pickLost l r s))).interior =
      (departed l id rest .feedEnd ((pickLost l r s).modLane l (fun x =>
        { x.rested with haltReason := .none }))).interior := by
  have still := activeWith_pickLost (r := r) h
  obtain ⟨queue, notBehind, found, own, active, -⟩ := still
  let state := fun c : Batch => if c.state = .feeding then BatchState.draining else c.state
  have written : (fun c : Batch => if c.state = .feeding then { c with state := .draining } else c) =
      fun c => { c with state := state c } := by
    funext c
    dsimp only [state]
    split <;> rfl
  set ended := endFeeding l (pickLost l r s) with ended_eq
  rw [endFeeding_pickLost (activeBatch_pickLost.symm.trans (activeBatch_head queue found active)) feeding, written] at ended_eq
  have lane : ended.lane l = { s.lane l with
      picking := none, pickWindow := none, state := .draining, haltReason := .none, spinTarget := none,
      spinRemaining := none, drainCause := .feedEnd } := by
    rw [ended_eq, State.lane_modLane_same, State.lane_modBatch, lane_pickLost, if_neg noAbort]
  have batch : ended.batch? id = some { b with state := state b } := by
    rw [ended_eq, State.batch?_modLane, State.batch?_modBatch_same _ _ _ (fun _ => by rfl), found]
    rfl
  have now : activeWith ended l id rest { b with state := state b } := by
    refine ⟨?_, notBehind, batch, own, ?_, ?_⟩
    · rw [lane_pickLost] at queue
      rw [lane]
      exact queue
    · rcases active with h | h | h <;> simp [state, h]
    · simp [lane]
  have drained : (ended.lane l).drained = true := by
    rw [drained_iff, lane]
    exact ⟨rfl, rfl, noPath, noOrder⟩
  rw [interior_drainTest_of_drained now drained, drainDone, lane, ended_eq, State.modLane_modLane]
  exact congrArg State.interior (departed_feedEnd_modBatch (u := (pickLost l r s).modLane l (fun x =>
    { x.rested with haltReason := .none })) found state)

/-- Settles O39: the window of a FEEDING lane by tray, count and retries; of a DRAINING or HALTED one by what is left. -/
theorem pickWindowDecidesPick : Obligations.PickWindowDecidesPick := by
  intro s l g r id expired picking found active
  have feeds := exec_pickWindow_feeding expired
  have drains := exec_pickWindow_other expired picking found
  refine ⟨fun feeding empty counted => ⟨_, feeds feeding, ?_⟩,
    fun feeding empty endless => ⟨fun more => ⟨_, feeds feeding, ?_⟩,
      fun rest b noPath noOrder noAbort h => ⟨_, feeds feeding, ?_⟩⟩,
    fun feeding sheets again => ⟨_, feeds feeding, ?_⟩, fun feeding sheets spent => ⟨_, feeds feeding, ?_⟩,
    fun stays => ⟨_, drains (stays.elim .inr fun h => .inl h.1), ?_⟩,
    fun rest b draining noPath noOrder h => ⟨_, drains (.inl draining), ?_⟩⟩
  · rw [interior_kickPorts, feedingWindow_of_empty picking found active empty, if_neg counted,
      interior_halt_of_haltsIn (by rw [lane_pickLost]; simp [haltsIn, feeding])]
    rfl
  · have busy : ((endFeeding l (pickLost l r s)).lane l).drained = false := by
      refine Bool.eq_false_iff.mpr fun drained => ?_
      obtain ⟨-, -, noPath, noOrder⟩ := (drained_iff _).mp drained
      rw [endFeeding_pickLost active feeding, State.lane_modLane_same, State.lane_modBatch, lane_pickLost] at noPath noOrder
      exact more.elim (· noPath) (· noOrder)
    rw [interior_kickPorts, feedingWindow_of_empty picking found active empty, if_pos endless,
      drainTest_of_not_drained busy, endFeeding_pickLost active feeding]
    rfl
  · rw [interior_kickPorts, feedingWindow_of_empty picking found active empty, if_pos endless,
      interior_drainTest_endFeeding feeding noPath noOrder noAbort h]
    rfl
  · rw [interior_kickPorts, feedingWindow_of_fed picking found sheets, if_pos again]
    exact congrArg State.interior (State.modLane_modLane (s.modSheet g _) l (fun x => { x with pickWindow := none }) _)
  · rw [interior_kickPorts, feedingWindow_of_fed picking found sheets, if_neg (Nat.not_lt.mpr spent),
      interior_halt_congr (interior_raise _ _), interior_halt_of_haltsIn
        (by rw [State.lane_setFlag, lane_pickLost]; simp [haltsIn, feeding])]
    rfl
  · have busy : ((pickLost l r s).lane l).drained = false := by
      refine Bool.eq_false_iff.mpr fun drained => ?_
      obtain ⟨draining, noPath, noOrder⟩ := drained_pickLost_iff.mp drained
      rcases stays with halted | ⟨-, more⟩
      · rw [draining] at halted
        cases halted
      · exact more.elim (· noPath) (· noOrder)
    rw [interior_kickPorts, drainTest_of_not_drained busy]
    rfl
  · rw [interior_kickPorts, interior_drainTest_of_drained (activeWith_pickLost h)
      (drained_pickLost_iff.mpr ⟨draining, noPath, noOrder⟩)]
    rfl

end Sys2Proof.Machine
end

section
/-!
PROOF. The settlement of a lane's only unsettled sheet: its numbering, its hold with its halt, and the overflow of the
held-sheet list (R40, R109, R110, R113, R114, R145).
-/

namespace Sys2Proof.Machine

/-! ### Numbering (R145) -/

/-- What a numbering writes into the sheet's record. -/
def Sheet.numberedAs (b : Batch) (q : Sheet) : Sheet := { q with document := some b.document, page := some b.page }

theorem Batch.number_id (b : Batch) : b.number.id = b.id := by
  unfold Batch.number
  split <;> rfl

theorem Batch.number_sides (b : Batch) : b.number.sides = b.sides := by
  unfold Batch.number
  split <;> rfl

theorem Batch.number_eq (b : Batch) : b.number = { b with
    document := if b.breakPending then min (b.document + 1) 65535 else b.document
    page := if b.breakPending then 1 else min (b.page + 1) 65535
    breakPending := false
    documents := if b.breakPending then min (b.documents + 1) 65535 else b.documents } := by
  cases h : b.breakPending <;> simp [number, h, addSat]

theorem numberSheet_of_sheet? {u : State} {g : Tag} {q : Sheet} {b : Batch} (found : u.sheet? g = some q)
    (batch : u.batch? q.batch = some b) :
    numberSheet g u = (u.modBatch q.batch Batch.number).modSheet g (Sheet.numberedAs b.number) := by
  unfold numberSheet
  simp only [found, State.batchOf_modBatch_same u q.batch _ Batch.number_id batch]
  rfl

theorem imagesComplete_modBatch {s : State} {id : Nat} {f : Batch → Batch} (hid : ∀ b, (f b).id = b.id)
    (sides : ∀ b, (f b).sides = b.sides) (r : Sheet) : imagesComplete (s.modBatch id f) r = imagesComplete s r := by
  have same : ((s.modBatch id f).batchOf r.batch).sides = (s.batchOf r.batch).sides :=
    batchOf_modBatch_of_kept s id r.batch Batch.sides hid sides
  unfold imagesComplete
  rw [same]

/-- A numbering of the batch does not matter to the sheet's being dropped. -/
theorem dropped_modBatch {s : State} {id : Nat} {f : Batch → Batch} (hid : ∀ b, (f b).id = b.id)
    (sides : ∀ b, (f b).sides = b.sides) (l : Fin 8) (r : Sheet) :
    dropped l r (s.modBatch id f) = (dropped l r s).modBatch id f := by
  unfold dropped
  rw [imagesComplete_modBatch hid sides]
  rfl

/-! ### A lane's only unsettled sheet -/

/-- Sheet `r`, outside the gate, is all of lane `l`'s settlement order; `b` is its batch. -/
structure OnlyUnsettled (s : State) (l : Fin 8) (g : Tag) (r : Sheet) (b : Batch) : Prop where
  order : (s.lane l).settleOrder = [g]
  gate : (s.lane l).gateHolder ≠ some g
  found : s.sheet? g = some r
  batch : s.batch? r.batch = some b

/-- What leaving the order writes into the record (R95, R109). -/
def Sheet.unordered (q : Sheet) : Sheet := { q with reserve := 0, imageDeadline := none, queueWait := [] }

/-- The state with nothing in lane `l`'s settlement order and `n` reserved blocks free again (R95, R105). -/
def orderEmptied (l : Fin 8) (n : Nat) (s : State) : State :=
  { s.modLane l (fun x => { x with settleOrder := [] }) with free := s.free + n, reserved := s.reserved - n }

theorem lane_orderEmptied (l : Fin 8) (n : Nat) (s : State) :
    (orderEmptied l n s).lane l = { s.lane l with settleOrder := [] } :=
  State.lane_modLane_same s l (fun x => { x with settleOrder := [] })

theorem lane_orderEmptied_other {l k : Fin 8} (n : Nat) (s : State) (other : k ≠ l) :
    (orderEmptied l n s).lane k = s.lane k :=
  State.lane_modLane_other s (fun x => { x with settleOrder := [] }) other

section
variable {s : State} {l : Fin 8} {g : Tag} {r : Sheet} {b : Batch} (h : OnlyUnsettled s l g r b)
include h

theorem OnlyUnsettled.batchOf_eq : s.batchOf r.batch = b := by
  rw [State.batchOf, h.batch]
  rfl

theorem OnlyUnsettled.marked {F : Sheet → Sheet} (tag : ∀ q, (F q).tag = q.tag) (batch : (F r).batch = r.batch) :
    OnlyUnsettled (s.modSheet g F) l g (F r) b where
  order := h.order
  gate := h.gate
  found := (State.sheet?_modSheet_same s g F tag).trans (by rw [h.found]; rfl)
  batch := by
    rw [batch]
    exact h.batch

theorem OnlyUnsettled.leaveOrder_eq : leaveOrder l g s = (orderEmptied l r.reserve s).modSheet g Sheet.unordered := by
  have lane : s.modLane l (fun x => { x with
      settleOrder := x.settleOrder.erase g
      sampleDue := if x.gateHolder = some g then none else x.sampleDue
      acc := if x.gateHolder = some g then .empty else x.acc }) = s.modLane l (fun x => { x with settleOrder := [] }) :=
    State.modLane_congr s l (by simp [h.order, h.gate])
  rw [leaveOrder_of_sheet? l h.found, lane]
  rfl

/-- R105, R106: a SETTLEMENT of a ready cursor sheet settles it, and the lane's drain is then tested. -/
theorem OnlyUnsettled.exec_settlement (wait : r.queueWait = []) (ready : sheetReady s r = true) :
    exec (.settlement l) s = .next (kickPorts (drainTest l (settleCursor l g s))) := by
  have cursor : cursorReady s g = true := by
    simp only [cursorReady, h.found, ready]
  have examined : examine l s = settleCursor l g s := by
    rw [examine, if_pos ((cursorWait_of_head h.order h.found).trans wait), poke_of_single h.order, if_pos cursor]
  rw [← examined]
  rfl

end

/-! ### The hold (R40, R113) -/

theorem haltsIn_held (x : LaneState) : haltsIn .held x = true ↔ x = .spinup ∨ x = .feeding := by
  cases x <;> simp [haltsIn]

/-- The lane whose only unsettled sheet has been held (R40, R113). -/
def Lane.heldUp (x : Lane) : Lane :=
  if haltsIn .held x.state then
    { x with settleOrder := [], state := .halted, haltReason := .held, spinTarget := none, spinRemaining := none,
             pickPulseEnd := none, pickDriven := false }
  else { x with settleOrder := [] }

/-- The counts of a hold (R109, R113). -/
def Batch.countHeld (b : Batch) : Batch :=
  { b with settled := addSat b.settled 1, heldNow := addSat b.heldNow 1, holds := addSat b.holds 1 }

/-- What a hold makes of the batch (R109, R113, R145). -/
def Batch.heldOne (b : Batch) : Batch := b.countHeld.number

theorem Batch.heldOne_id (b : Batch) : b.heldOne.id = b.id := b.countHeld.number_id

/-- What it writes into the sheet's record. -/
def Sheet.heldAs (b : Batch) (q : Sheet) : Sheet :=
  { q.unordered with document := some b.document, page := some b.page, state := .held, outcome := some .held }

/-- The state with sheet `r`, the only one of lane `l`'s order, in the held-sheet list (R109, R113, R145). -/
def heldRecorded (l : Fin 8) (g : Tag) (r : Sheet) (b : Batch) (s : State) : State :=
  { ((orderEmptied l r.reserve s).modSheet g (Sheet.heldAs b.heldOne)).modBatch r.batch Batch.heldOne with
    held := s.held ++ [⟨g, r.batch, r.findings⟩] }

/-- The same with HELD flagged, and HALT where the hold halts the lane (R40). -/
def heldAway (l : Fin 8) (g : Tag) (r : Sheet) (b : Batch) (s : State) : State :=
  (((heldRecorded l g r b s).setFlag (.lane l .held) true).setLane l (s.lane l).heldUp).setFlag (.lane l .halt)
    (s.flag (.lane l .halt) || haltsIn .held (s.lane l).state)

theorem State.setFlag_same (s : State) (f : Flag) : s.setFlag f (s.flag f) = s := by
  unfold State.setFlag State.flag
  rw [Vector.set_getElem_self]

theorem State.setLane_lane (s : State) (l : Fin 8) : s.setLane l (s.lane l) = s := s.modLane_id l

/-- R40: a hold halts the lane that feeds, and leaves another as it is. -/
theorem interior_halt_held {l : Fin 8} {u : State} (order : (u.lane l).settleOrder = []) :
    (halt l .held u).interior = ((u.setLane l (u.lane l).heldUp).setFlag (.lane l .halt)
      (u.flag (.lane l .halt) || haltsIn .held (u.lane l).state)).interior := by
  cases halts : haltsIn .held (u.lane l).state with
  | true =>
    have lane : (u.lane l).heldUp = { u.lane l with
        state := .halted, haltReason := .held, spinTarget := none, spinRemaining := none, pickPulseEnd := none,
        pickDriven := false } := by
      rw [Lane.heldUp, if_pos halts, ← order]
    rw [interior_halt_of_haltsIn halts, Bool.or_true, lane]
    rfl
  | false =>
    have lane : (u.lane l).heldUp = u.lane l := by
      rw [Lane.heldUp, if_neg (by simp [halts]), ← order]
    rw [halt_of_not_haltsIn halts, Bool.or_false, lane, State.setLane_lane, State.setFlag_same]

section
variable {s : State} {l : Fin 8} {g : Tag} {r : Sheet} {b : Batch} (h : OnlyUnsettled s l g r b)
include h

theorem OnlyUnsettled.settleHeld_eq (room : s.held.length < 48) :
    settleHeld l g s = halt l .held (raise (.lane l .held) (heldRecorded l g r b s)) := by
  set empty := orderEmptied l r.reserve s with hempty
  set counted := (empty.modSheet g Sheet.unordered).modBatch r.batch Batch.countHeld with hcounted
  have live : counted.sheet? g = some r.unordered :=
    (State.sheet?_modSheet_same empty g _ (fun _ => by rfl)).trans (congrArg (Option.map _) h.found)
  have batch : counted.batch? r.batch = some b.countHeld :=
    (State.batch?_modBatch_same _ _ _ (fun _ => by rfl)).trans (congrArg (Option.map _) h.batch)
  have numbered : (numberSheet g counted).modSheet g (fun q => { q with state := .held, outcome := some .held }) =
      (empty.modSheet g (Sheet.heldAs b.heldOne)).modBatch r.batch Batch.heldOne := by
    have batches := State.modBatch_modBatch empty r.batch Batch.countHeld Batch.number (fun _ => rfl)
    have sheets := State.modSheet_modSheet ((empty.modBatch r.batch Batch.countHeld).modBatch r.batch Batch.number) g
      Sheet.unordered ((fun q => { q with state := .held, outcome := some .held }) ∘ Sheet.numberedAs b.heldOne)
      (fun _ => rfl)
    rw [numberSheet_of_sheet? live batch, State.modSheet_modSheet _ _ _ _ (fun _ => by rfl), hcounted]
    exact sheets.trans (congrArg (fun u : State => u.modSheet g (Sheet.heldAs b.heldOne)) batches)
  unfold settleHeld
  rw [if_neg (by simpa [heldCapacity] using room)]
  simp only [h.found, h.leaveOrder_eq]
  exact congrArg (fun u : State => halt l .held (raise (.lane l .held)
    { u with held := u.held ++ [⟨g, r.batch, r.findings⟩] })) numbered

theorem OnlyUnsettled.interior_settleHeld (room : s.held.length < 48) :
    (settleHeld l g s).interior = (heldAway l g r b s).interior := by
  set flagged := (heldRecorded l g r b s).setFlag (.lane l .held) true with hflagged
  have lane : flagged.lane l = { s.lane l with settleOrder := [] } := lane_orderEmptied l r.reserve s
  have flag : flagged.flag (.lane l .halt) = s.flag (.lane l .halt) := State.flag_setFlag_other _ true (by simp)
  have order : (flagged.lane l).settleOrder = [] := by rw [lane]
  have raised : (halt l .held (raise (.lane l .held) (heldRecorded l g r b s))).interior = (halt l .held flagged).interior :=
    interior_halt_congr (interior_raise _ _) l .held
  rw [h.settleHeld_eq room, raised, interior_halt_held order, lane, flag]
  rfl

/-! ### The overflow (R114) -/

/-- What an overflow makes of the batch (R109, R114, R145). -/
def Batch.gapOne (b : Batch) : Batch := { b.number with
  settled := addSat b.number.settled 1, discarded := addSat b.number.discarded 1, gaps := addSat b.number.gaps 1 }

theorem OnlyUnsettled.interior_overflowHold :
    (overflowHold l g s).interior =
      (((dropped l r s).modBatch r.batch Batch.gapOne).setFlag (.lane l .holdOverflow) true).interior := by
  have tag := State.tag_of_sheet? h.found
  have numbered := numberSheet_of_sheet? h.found h.batch
  have live : (numberSheet g s).sheet? g = some (r.numberedAs b.number) := by
    rw [numbered, State.sheet?_modSheet_same _ _ _ (fun _ => by rfl)]
    exact congrArg (Option.map _) h.found
  have drops : dropped l (r.numberedAs b.number) (numberSheet g s) = (dropped l r s).modBatch r.batch Batch.number := by
    rw [numbered]
    subst tag
    refine (dropped_modSheet l (r.numberedAs b.number) _ _ (fun _ => by rfl)).trans ?_
    exact dropped_modBatch Batch.number_id Batch.number_sides l r
  unfold overflowHold
  rw [interior_raise, dropSheet_of_sheet? _ l live, drops]
  exact congrArg (fun u : State => (u.setFlag (.lane l .holdOverflow) true).interior)
    (State.modBatch_modBatch _ _ _ _ Batch.number_id)

end

end Sys2Proof.Machine
end

section
/-!
PROOF. A ready cursor sheet with a hold reason or without a route is HELD, or the held-sheet list overflows (R40, R109,
R110, R113, R114, R116, R145).
-/

namespace Sys2Proof.Machine

/-! ### The decision for a sheet that nothing discards or diverts (R110) -/

/-- The record of a sheet found ready. -/
def Sheet.readied (q : Sheet) : Sheet := { q with state := .ready }

/-- R110: the reasons that hold sheet `r` of batch `b`. -/
abbrev Sheet.heldFor (r : Sheet) (b : Batch) : Prop :=
  (r.findings ≠ .empty ∧ b.action = .stop) ∨ (r.pastDivert = true ∧ r.findings.measurement = true) ∨
    (b.action = .divert ∧ r.findings.measurement = true) ∨ r.findings.incomplete = true

/-- The kind of a sheet that no separator pattern matches (R118). -/
abbrev Sheet.plainKind (r : Sheet) : Kind := if r.findings = .empty then .ordinary else .suspect

theorem chooseKind_none (r : Sheet) : chooseKind r none = r.plainKind := by
  unfold chooseKind Sheet.plainKind
  by_cases clean : r.findings = .empty <;> simp [clean]

theorem separatorMatch_eq_none {s : State} {r : Sheet} (h : r.patch = none ∨ r.findings.measurement = true) :
    separatorMatch s r = none := by
  unfold separatorMatch
  rcases h with patch | measurement
  · simp [patch]
  · simp [measurement]

/-- R106: with its trail and its images, and no divert awaited, the sheet is ready. -/
theorem sheetReady_of_complete {s : State} {r : Sheet} (trail : r.trail.isSome = true)
    (images : imagesComplete s r = true ∨ r.imageTimeout = true) (waits : divertWaiting s r = false) :
    sheetReady s r = true := by
  simp [sheetReady, trail, waits, images]

section
variable {s : State} {l : Fin 8} {g : Tag} {r : Sheet} {b : Batch} (h : OnlyUnsettled s l g r b)
  (divert : r.divertDone = false)
include h divert

theorem OnlyUnsettled.holdReason_iff : holdReason s r = true ↔ r.heldFor b := by
  simp [holdReason, h.batchOf_eq, divert, Sheet.heldFor, or_assoc]

variable (jam : r.findings.jam = false) (live : b.state ≠ .aborted)
include jam live

theorem OnlyUnsettled.settleCursor_of_reason (reason : holdReason s r = true) :
    settleCursor l g s = settleHeld l g (s.modSheet g Sheet.readied) := by
  have stays : ¬ (r.findings.jam || batchAborting s r) = true := by simp [batchAborting, h.batchOf_eq, live, jam]
  have tag := State.tag_of_sheet? h.found
  rw [settleCursor_of_sheet? l h.found]
  unfold decideOutcome
  rw [if_neg (by exact stays), if_neg (by simp [divert]), if_pos (by exact reason), tag]
  rfl

theorem OnlyUnsettled.settleCursor_of_unmatched (reason : holdReason s r = false) (fits : separatorMatch s r = none) :
    settleCursor l g s = routeSheet l r.readied none (s.modSheet g Sheet.readied) := by
  have stays : ¬ (r.findings.jam || batchAborting s r) = true := by simp [batchAborting, h.batchOf_eq, live, jam]
  have unheld : ¬ holdReason s r = true := by simp [reason]
  have unmatched : separatorMatch (s.modSheet g Sheet.readied) r.readied = none := fits
  rw [settleCursor_of_sheet? l h.found]
  unfold decideOutcome
  rw [if_neg (by exact stays), if_neg (by simp [divert]), if_neg (by exact unheld)]
  change (match separatorMatch (s.modSheet g Sheet.readied) r.readied with
    | some i => _
    | none => _) = _
  rw [unmatched]
  rfl

/-- R110, R116: a hold reason, or no route, holds the sheet under its findings, to which no route adds NOROUTE. -/
theorem OnlyUnsettled.settleCursor_holds {f : Findings}
    (holds : (r.heldFor b ∧ f = r.findings) ∨
      ((¬ r.heldFor b ∧ (r.patch = none ∨ r.findings.measurement = true) ∧ deliveryEntries s r r.plainKind = none) ∧
        f = { r.findings with noRoute := true })) :
    ∃ mark : Sheet → Sheet, (∀ q, (mark q).tag = q.tag) ∧ mark r = { r with state := .ready, findings := f } ∧
      settleCursor l g s = settleHeld l g (s.modSheet g mark) := by
  rcases holds with ⟨reason, rfl⟩ | ⟨⟨reason, plain, route⟩, rfl⟩
  · exact ⟨Sheet.readied, fun _ => rfl, rfl,
      h.settleCursor_of_reason divert jam live ((h.holdReason_iff divert).2 reason)⟩
  · let unroute : Sheet → Sheet := fun q => { q with findings := { q.findings with noRoute := true } }
    have unheld : holdReason s r = false := Bool.eq_false_iff.2 (mt (h.holdReason_iff divert).1 reason)
    have unrouted : deliveryEntries (s.modSheet g Sheet.readied) r.readied (chooseKind r.readied none) = none := by
      rw [chooseKind_none]
      exact route
    refine ⟨unroute ∘ Sheet.readied, fun _ => rfl, rfl, ?_⟩
    rw [h.settleCursor_of_unmatched divert jam live unheld (separatorMatch_eq_none plain), routeSheet, unrouted]
    dsimp only
    rw [show r.readied.tag = g from State.tag_of_sheet? (r := r) h.found]
    exact congrArg (settleHeld l g) (State.modSheet_modSheet s g Sheet.readied unroute (fun _ => by rfl))

end

/-! ### What the hold leaves -/

/-- A hold halts the lane, or leaves it with something left in it. -/
theorem Lane.drained_heldUp {x : Lane} (busy : x.state = .draining → x.path ≠ [] ∨ x.picking ≠ none) :
    x.heldUp.drained = false := by
  cases halts : haltsIn .held x.state with
  | true => simp [heldUp, halts, drained]
  | false =>
    by_cases state : x.state = .draining
    · rcases busy state with path | picking
      · simp [heldUp, halts, drained, path]
      · simp [heldUp, halts, drained, picking]
    · simp [heldUp, halts, drained, state]

section
variable {s : State} {l : Fin 8} {g : Tag} {r : Sheet} {b : Batch}

theorem lane_heldAway : (heldAway l g r b s).lane l = (s.lane l).heldUp := State.lane_setLane_same _ l _

theorem lane_heldAway_other {k : Fin 8} (other : k ≠ l) : (heldAway l g r b s).lane k = s.lane k :=
  (State.lane_setLane_other _ _ other).trans (lane_orderEmptied_other r.reserve s other)

theorem sheet?_heldAway (found : s.sheet? g = some r) : (heldAway l g r b s).sheet? g = some (r.heldAs b.heldOne) :=
  (State.sheet?_modSheet_same (orderEmptied l r.reserve s) g (Sheet.heldAs b.heldOne) (fun _ => rfl)).trans
    (congrArg (Option.map _) found)

theorem sheet?_heldAway_other {k : Tag} (other : k ≠ g) : (heldAway l g r b s).sheet? k = s.sheet? k :=
  State.sheet?_modSheet_other (orderEmptied l r.reserve s) _ (fun _ => rfl) other

theorem batch?_heldAway (found : s.batch? r.batch = some b) : (heldAway l g r b s).batch? r.batch = some b.heldOne :=
  (State.batch?_modBatch_same _ r.batch _ Batch.heldOne_id).trans (congrArg (Option.map _) found)

theorem batch?_heldAway_other {k : Nat} (other : k ≠ r.batch) : (heldAway l g r b s).batch? k = s.batch? k :=
  State.batch?_modBatch_other _ _ Batch.heldOne_id other

theorem flag_heldAway_held : (heldAway l g r b s).flag (.lane l .held) = true := by
  unfold heldAway
  rw [State.flag_setFlag_other _ _ (by simp)]
  exact State.flag_setFlag_same (heldRecorded l g r b s) _ _

theorem flag_heldAway_halt : (heldAway l g r b s).flag (.lane l .halt) =
    (s.flag (.lane l .halt) || haltsIn .held (s.lane l).state) :=
  State.flag_setFlag_same _ _ _

theorem flag_heldAway_other {f : Flag} (held : f ≠ .lane l .held) (halt : f ≠ .lane l .halt) :
    (heldAway l g r b s).flag f = s.flag f := by
  unfold heldAway
  rw [State.flag_setFlag_other _ _ halt]
  exact State.flag_setFlag_other (heldRecorded l g r b s) _ held

end

section
variable {s : State} {l : Fin 8} {g : Tag} {r : Sheet} {b : Batch} (h : OnlyUnsettled s l g r b)
include h

/-- R113: the settlement of a sheet that is held, its lane still busy or halted. -/
theorem OnlyUnsettled.settlement_holds {mark : Sheet → Sheet} (tag : ∀ q, (mark q).tag = q.tag)
    (batch : (mark r).batch = r.batch) (room : s.held.length < 48)
    (busy : (s.lane l).state = .draining → (s.lane l).path ≠ [] ∨ (s.lane l).picking ≠ none) :
    (kickPorts (drainTest l (settleHeld l g (s.modSheet g mark)))).interior =
      (heldAway l g (mark r) b (s.modSheet g mark)).interior := by
  have held := (h.marked tag batch).interior_settleHeld room
  rw [interior_kickPorts, interior_drainTest_congr held,
    drainTest_of_not_drained (by rw [lane_heldAway]; exact Lane.drained_heldUp busy)]

/-- R114: the settlement of a sheet for which the held-sheet list has no place. -/
theorem OnlyUnsettled.settlement_overflows {mark : Sheet → Sheet} (tag : ∀ q, (mark q).tag = q.tag) {f : Findings}
    (marked : mark r = { r with state := .ready, findings := f }) (full : 48 ≤ s.held.length)
    (busy : (s.lane l).state = .draining → (s.lane l).path ≠ [] ∨ (s.lane l).picking ≠ none) :
    (kickPorts (drainTest l (settleHeld l g (s.modSheet g mark)))).interior =
      (((dropped l r s).modBatch r.batch Batch.gapOne).setFlag (.lane l .holdOverflow) true).interior := by
  have own := State.tag_of_sheet? h.found
  have batch : (mark r).batch = r.batch := by rw [marked]
  have drops : dropped l (mark r) (s.modSheet g mark) = dropped l r s := by
    rw [marked]
    subst own
    exact dropped_modSheet l { r with state := .ready, findings := f } s mark tag
  have overflow : (settleHeld l g (s.modSheet g mark)).interior =
      (((dropped l r s).modBatch r.batch Batch.gapOne).setFlag (.lane l .holdOverflow) true).interior := by
    unfold settleHeld
    rw [if_pos (by exact full), (h.marked tag batch).interior_overflowHold, drops, batch]
  have left : ((((dropped l r s).modBatch r.batch Batch.gapOne).setFlag (.lane l .holdOverflow) true).lane l).drained =
      false := by
    rw [State.lane_setFlag, State.lane_modBatch, lane_dropped]
    by_cases state : (s.lane l).state = .draining
    · rcases busy state with path | picking
      · simp [Lane.drained, path]
      · simp [Lane.drained, picking]
    · simp [Lane.drained, state]
  rw [interior_kickPorts, interior_drainTest_congr overflow, drainTest_of_not_drained left]

end

/-! ### The obligation -/

theorem Batch.heldOne_eq (b : Batch) : b.heldOne = { b with
    settled := min (b.settled + 1) 65535
    document := if b.breakPending then min (b.document + 1) 65535 else b.document
    page := if b.breakPending then 1 else min (b.page + 1) 65535
    breakPending := false
    documents := if b.breakPending then min (b.documents + 1) 65535 else b.documents
    heldNow := min (b.heldNow + 1) 65535, holds := min (b.holds + 1) 65535 } :=
  Batch.number_eq _

theorem Batch.gapOne_id (b : Batch) : b.gapOne.id = b.id := b.number_id

theorem Batch.gapOne_eq (b : Batch) : b.gapOne = { b with
    settled := min (b.settled + 1) 65535
    document := if b.breakPending then min (b.document + 1) 65535 else b.document
    page := if b.breakPending then 1 else min (b.page + 1) 65535
    breakPending := false
    documents := if b.breakPending then min (b.documents + 1) 65535 else b.documents
    discarded := min (b.discarded + 1) 65535, gaps := min (b.gaps + 1) 65535 } := by
  unfold gapOne
  rw [Batch.number_eq]
  rfl

/-- Settles O53: the hold is read off `heldAway`, the overflow off `dropped`. -/
theorem settlementHoldsIncomplete : Obligations.SettlementHoldsIncomplete := by
  unfold Obligations.SettlementHoldsIncomplete
  intro s l g r b busy order gate found _ batch wait trail images jam divert live waits doc page numbered reason unrouted
    halts
  have h : OnlyUnsettled s l g r b := ⟨order, gate, found, batch⟩
  have own := State.tag_of_sheet? found
  have runs := h.exec_settlement wait (sheetReady_of_complete trail images waits)
  refine ⟨fun f holds room => ?_, fun holds full => ?_⟩
  · obtain ⟨mark, tag, marked, settles⟩ := h.settleCursor_holds divert jam live holds
    rw [settles] at runs
    have same := h.settlement_holds tag (by rw [marked]) room busy
    set u := s.modSheet g mark with hu
    have live := (h.marked tag (by rw [marked])).found
    have lane : (s.lane l).heldUp = if halts then { s.lane l with
        settleOrder := [], state := .halted, haltReason := .held, spinTarget := none, spinRemaining := none,
        pickPulseEnd := none, pickDriven := false } else { s.lane l with settleOrder := [] } :=
      if_congr (haltsIn_held _) rfl rfl
    have halted : haltsIn .held (s.lane l).state = decide halts :=
      Bool.eq_iff_iff.2 ((haltsIn_held _).trans decide_eq_true_iff.symm)
    refine ⟨_, runs, ?_, ?_, ?_, ?_, ?_, ?_, ?_, fun halt => ?_, fun goes => ?_, fun k other => ?_, fun k other => ?_,
      fun k other => ?_, fun i held halt lost => ?_, ?_⟩
    · rw [eq_of_interior State.held (fun _ => rfl) same, marked]
      rfl
    · rw [sheet?_of_interior same, sheet?_heldAway live, marked, Batch.heldOne_eq]
      simp [Sheet.heldAs, Sheet.unordered, wait, doc, page]
    · have batch : u.batch? (mark r).batch = some b := by
        rw [marked]
        exact batch
      rw [batch?_of_interior same, ← show (mark r).batch = r.batch by rw [marked], batch?_heldAway batch]
      exact congrArg some (Batch.heldOne_eq b)
    · rw [eq_of_interior State.free (fun _ => rfl) same, marked]
      rfl
    · rw [eq_of_interior State.reserved (fun _ => rfl) same, marked]
      rfl
    · rw [flag_of_interior same (by simp [noticeLostFlag]), flag_heldAway_held]
    · rw [flag_of_interior same (by simp [noticeLostFlag]), flag_heldAway_halt]
      exact congrArg _ halted
    · rw [lane_of_interior same, lane_heldAway]
      exact lane.trans (if_pos halt)
    · rw [lane_of_interior same, lane_heldAway]
      exact lane.trans (if_neg goes)
    · rw [lane_of_interior same, lane_heldAway_other other]
      rfl
    · rw [sheet?_of_interior same, sheet?_heldAway_other other]
      exact State.sheet?_modSheet_other s mark tag other
    · rw [batch?_of_interior same, batch?_heldAway_other (by rwa [marked])]
      rfl
    · rw [flag_of_interior same lost, flag_heldAway_other held halt]
      rfl
    · exact interior_eq_patched (fun v => { s with
        lanes := v.lanes, sheets := v.sheets, batches := v.batches, held := v.held, free := v.free
        reserved := v.reserved, flags := v.flags }) (fun v => by simp [State.interior]) same rfl
  · obtain ⟨f, holds⟩ : ∃ f : Findings, (reason ∧ f = r.findings) ∨ (unrouted ∧ f = { r.findings with noRoute := true }) := by
      rcases holds with reason | unrouted
      · exact ⟨_, .inl ⟨reason, rfl⟩⟩
      · exact ⟨_, .inr ⟨unrouted, rfl⟩⟩
    obtain ⟨mark, tag, marked, settles⟩ := h.settleCursor_holds divert jam live holds
    rw [settles] at runs
    have same := h.settlement_overflows tag marked full busy
    refine ⟨_, runs, ?_, fun k other => ?_, ?_⟩
    · rw [batch?_of_interior same, State.batch?_setFlag, State.batch?_modBatch_same _ _ _ Batch.gapOne_id,
        batch?_dropped, batch]
      exact congrArg some (Batch.gapOne_eq b)
    · rw [batch?_of_interior same, State.batch?_setFlag, State.batch?_modBatch_other _ _ Batch.gapOne_id other, batch?_dropped]
    · exact interior_eq_patched (fun v => { (dropped l r s).setFlag (.lane l .holdOverflow) true with batches := v.batches })
        (fun _ => rfl) same rfl

end Sys2Proof.Machine
end

section
/-!
PROOF. The release of a cursor sheet that nothing holds, on SETTLEMENT or on a retry of its queues (R43, R109, R110, R115 to
R118, R145).
-/

namespace Sys2Proof.Machine

/-! ### The release (R118) -/

/-- What a release with `n` entries makes of the batch (R109, R118, R145). -/
def Batch.releasedOne (n : Nat) (k : Batch) : Batch := { k with
  settled := min (k.settled + 1) 65535, released := min (k.released + 1) 65535
  deliveriesPending := min (k.deliveriesPending + n) 65535
  document := if k.breakPending then min (k.document + 1) 65535 else k.document
  page := if k.breakPending then 1 else min (k.page + 1) 65535
  breakPending := false
  documents := if k.breakPending then min (k.documents + 1) 65535 else k.documents }

/-- The batch's part of a delivery of `n` entries (R121). -/
def Batch.delivering (n : Nat) (k : Batch) : Batch := { k with deliveriesPending := addSat k.deliveriesPending n }

/-- The count of a release (R109). -/
def Batch.countReleased (k : Batch) : Batch := { k with settled := addSat k.settled 1, released := addSat k.released 1 }

theorem Batch.releasedOne_eq (n : Nat) :
    Batch.number ∘ Batch.countReleased ∘ Batch.delivering n = Batch.releasedOne n := by
  funext k
  exact Batch.number_eq _

/-- What the release writes into the record of a sheet out of the order (R118). -/
def Sheet.sentAs (kind : Kind) (bank : Bank) (n : Nat) (q : Sheet) : Sheet := { q with
  state := .released, outcome := some .released, kind := some kind, routeBank := some bank, pendingDests := n }

/-- All that the release writes into the record (R109, R118, R145). -/
def Sheet.settledAs (kind : Kind) (bank : Bank) (n : Nat) (b : Batch) (q : Sheet) : Sheet :=
  ((q.unordered).sentAs kind bank n).numberedAs b

/-- The state with lane `l`'s only unsettled sheet, its record `r`, out of the order and counted as released. -/
def releaseCounted (l : Fin 8) (r : Sheet) (n : Nat) (s : State) : State :=
  orderEmptied l r.reserve (s.modBatch r.batch (Batch.releasedOne n))

/-- The state `s` with what a release writes elsewhere taken from `v`. -/
def withReleased (s v : State) : State := { s with
  sheets := v.sheets, dests := v.dests, flags := v.flags, notices := v.notices, pendingLost := v.pendingLost
  lostCount := v.lostCount }

theorem interior_releaseCounted_congr {s t : State} (h : s.interior = t.interior) (l : Fin 8) (r : Sheet) (n : Nat) :
    (releaseCounted l r n s).interior = (releaseCounted l r n t).interior :=
  interior_update_congr (fun u => { u with free := u.free + r.reserve, reserved := u.reserved - r.reserve })
    (fun _ => rfl) (interior_modLane_congr (interior_modBatch_congr h r.batch (Batch.releasedOne n)) l _)

theorem interior_withReleased (s v : State) : (withReleased s v).interior = (withReleased s v.interior).interior := by
  simp [withReleased, State.interior]

/-- The state with cursor sheet `r` released with its entries (R118, R121). -/
def releasedTo (l : Fin 8) (g : Tag) (r : Sheet) (b : Batch) (kind : Kind) (es : List (Fin 16 × DeliveryEntry))
    (s : State) : State :=
  ((es.foldl appendEntry ((orderEmptied l r.reserve s).modSheet g (Sheet.unordered ∘ Sheet.readied))).modSheet g
    (Sheet.numberedAs (b.releasedOne es.length) ∘ Sheet.sentAs kind s.activeBank es.length)).modBatch r.batch
      (Batch.releasedOne es.length)

section
variable {s : State} {l : Fin 8} {g : Tag} {r : Sheet} {b : Batch} (h : OnlyUnsettled s l g r b) {kind : Kind}
  {es : List (Fin 16 × DeliveryEntry)}
include h

theorem OnlyUnsettled.settleReleased_eq (plain : kind ≠ .separator) (nonempty : es ≠ []) :
    settleReleased l g r.batch kind none es (s.modSheet g Sheet.readied) = releasedTo l g r b kind es s := by
  set left := (orderEmptied l r.reserve s).modSheet g (Sheet.unordered ∘ Sheet.readied) with hleft
  have leaves : leaveOrder l g (s.modSheet g Sheet.readied) = left :=
    (h.marked (F := Sheet.readied) (fun _ => rfl) rfl).leaveOrder_eq.trans
      (State.modSheet_modSheet (orderEmptied l r.reserve s) g Sheet.readied Sheet.unordered (fun _ => rfl))
  set placed := es.foldl appendEntry left with hplaced
  have parts : onlyPlaces left placed := onlyPlaces_appendEntries es _
  have leftSheet : left.sheet? g = some r.readied.unordered :=
    (State.sheet?_modSheet_same (orderEmptied l r.reserve s) g (Sheet.unordered ∘ Sheet.readied) (fun _ => rfl)).trans
      (congrArg (Option.map _) h.found)
  have placedSheet : placed.sheet? g = some r.readied.unordered :=
    (parts.read (fun u => u.sheet? g) (fun _ _ _ _ _ _ => rfl)).trans leftSheet
  have placedBatch : placed.batch? r.batch = some b :=
    (parts.read (fun u => u.batch? r.batch) (fun _ _ _ _ _ _ => rfl)).trans h.batch
  set sent := placed.modSheet g (Sheet.sentAs kind s.activeBank es.length) with hsent
  set counted := sent.modBatch r.batch (Batch.countReleased ∘ Batch.delivering es.length) with hcounted
  have delivers : countReleased r.batch (deliver g kind es left) = counted := by
    unfold deliver
    simp only [leftSheet]
    exact State.modBatch_modBatch sent r.batch (Batch.delivering es.length) Batch.countReleased (fun _ => rfl)
  have live : counted.sheet? g = some (r.readied.unordered.sentAs kind s.activeBank es.length) :=
    (State.sheet?_modSheet_same placed g (Sheet.sentAs kind s.activeBank es.length) (fun _ => rfl)).trans
      (congrArg (Option.map _) placedSheet)
  have batch : counted.batch? r.batch = some ((Batch.countReleased ∘ Batch.delivering es.length) b) :=
    (State.batch?_modBatch_same sent r.batch (Batch.countReleased ∘ Batch.delivering es.length) (fun _ => rfl)).trans
      (congrArg (Option.map _) placedBatch)
  have numbers : numberSheet g counted = releasedTo l g r b kind es s := by
    have batches := State.modBatch_modBatch sent r.batch (Batch.countReleased ∘ Batch.delivering es.length) Batch.number
      (fun _ => rfl)
    have one : ((Batch.countReleased ∘ Batch.delivering es.length) b).number = b.releasedOne es.length :=
      congrFun (Batch.releasedOne_eq es.length) b
    rw [Batch.releasedOne_eq] at batches
    rw [numberSheet_of_sheet? live batch, one]
    refine (congrArg (fun u : State => u.modSheet g (Sheet.numberedAs (b.releasedOne es.length))) batches).trans ?_
    exact congrArg (fun u : State => u.modBatch r.batch (Batch.releasedOne es.length))
      (State.modSheet_modSheet placed g (Sheet.sentAs kind s.activeBank es.length)
        (Sheet.numberedAs (b.releasedOne es.length)) (fun _ => rfl))
  unfold settleReleased
  rw [leaves, delivers, ← numbers, freeIfIdle, if_neg (by simpa using nonempty)]
  cases kind with
  | separator => exact absurd rfl plain
  | ordinary | suspect => rfl

/-! ### What the release leaves -/

omit h in
theorem releasedTo_eq : releasedTo l g r b kind es s =
    releaseCounted l r es.length (withReleased s (releasedTo l g r b kind es s)) := by
  unfold releasedTo
  rw [onlyPlaces_appendEntries es ((orderEmptied l r.reserve s).modSheet g (Sheet.unordered ∘ Sheet.readied))]
  rfl

omit h in
theorem lane_releaseCounted (n : Nat) : (releaseCounted l r n s).lane l = { s.lane l with settleOrder := [] } :=
  lane_orderEmptied l r.reserve _

omit h in
theorem lane_releasedTo : (releasedTo l g r b kind es s).lane l = { s.lane l with settleOrder := [] } := by
  rw [releasedTo_eq]
  exact lane_releaseCounted _

omit h in
theorem batch?_releaseCounted (found : s.batch? r.batch = some b) (n : Nat) :
    (releaseCounted l r n s).batch? r.batch = some (b.releasedOne n) :=
  (State.batch?_modBatch_same s r.batch (Batch.releasedOne n) (fun _ => rfl)).trans (congrArg (Option.map _) found)

theorem OnlyUnsettled.batch?_releasedTo :
    (releasedTo l g r b kind es s).batch? r.batch = some (b.releasedOne es.length) := by
  rw [releasedTo_eq]
  exact batch?_releaseCounted (by exact h.batch) _

omit h in
theorem dest_releasedTo (x : Fin 16) : (releasedTo l g r b kind es s).dest x = { s.dest x with
    queue := (s.dest x).queue ++ (es.filter (fun y => decide (y.1 = x))).map Prod.snd } :=
  dest_appendEntries es ((orderEmptied l r.reserve s).modSheet g (Sheet.unordered ∘ Sheet.readied)) x

theorem OnlyUnsettled.sheet?_releasedTo : (releasedTo l g r b kind es s).sheet? g =
    some (r.readied.settledAs kind s.activeBank es.length (b.releasedOne es.length)) := by
  set left := (orderEmptied l r.reserve s).modSheet g (Sheet.unordered ∘ Sheet.readied) with hleft
  have parts : onlyPlaces left (es.foldl appendEntry left) := onlyPlaces_appendEntries es _
  have live : (es.foldl appendEntry left).sheet? g = some r.readied.unordered :=
    (parts.read (fun u => u.sheet? g) (fun _ _ _ _ _ _ => rfl)).trans
      ((State.sheet?_modSheet_same (orderEmptied l r.reserve s) g (Sheet.unordered ∘ Sheet.readied) (fun _ => rfl)).trans
        (congrArg (Option.map _) h.found))
  exact (State.sheet?_modSheet_same (es.foldl appendEntry left) g
    (Sheet.numberedAs (b.releasedOne es.length) ∘ Sheet.sentAs kind s.activeBank es.length) (fun _ => rfl)).trans
      (congrArg (Option.map _) live)

omit h in
theorem sheet?_releasedTo_other {k : Tag} (other : k ≠ g) : (releasedTo l g r b kind es s).sheet? k = s.sheet? k := by
  set left := (orderEmptied l r.reserve s).modSheet g (Sheet.unordered ∘ Sheet.readied) with hleft
  have parts : onlyPlaces left (es.foldl appendEntry left) := onlyPlaces_appendEntries es _
  refine (State.sheet?_modSheet_other (es.foldl appendEntry left)
    (Sheet.numberedAs (b.releasedOne es.length) ∘ Sheet.sentAs kind s.activeBank es.length) (fun _ => rfl) other).trans ?_
  rw [parts.read (fun u => u.sheet? k) (fun _ _ _ _ _ _ => rfl)]
  exact State.sheet?_modSheet_other (orderEmptied l r.reserve s) (Sheet.unordered ∘ Sheet.readied) (fun _ => rfl) other

omit h in
theorem flag_releasedTo {f : Flag} (warn : ∀ x, f ≠ .dest x .warn) (lost : f ≠ noticeLostFlag) :
    (releasedTo l g r b kind es s).flag f = s.flag f :=
  flag_appendEntries es ((orderEmptied l r.reserve s).modSheet g (Sheet.unordered ∘ Sheet.readied)) warn lost

/-- R118, R121: a state with the sheets and destinations of the release has the sheet released as `releasedAs` says. -/
theorem OnlyUnsettled.releasedAs_of_parts {t u : State} {q : Sheet} (same : t.interior = u.interior)
    (sheets : u.sheets = (releasedTo l g r b kind es s).sheets) (dests : u.dests = (releasedTo l g r b kind es s).dests)
    (nonempty : es ≠ []) (record : r.readied.settledAs kind s.activeBank es.length (b.releasedOne es.length) = q) :
    releasedAs r es q s t := by
  have own : r.tag = g := State.tag_of_sheet? h.found
  have placed : ∀ x, u.dest x = { s.dest x with
      queue := (s.dest x).queue ++ (es.filter (fun y => decide (y.1 = x))).map Prod.snd } := fun x => by
    rw [← dest_releasedTo (l := l) (g := g) (r := r) (b := b) (kind := kind)]
    unfold State.dest
    rw [dests]
  have live : ∀ k, u.sheet? k = (releasedTo l g r b kind es s).sheet? k := fun k => by
    unfold State.sheet?
    rw [sheets]
  refine ⟨fun x => ?_, fun x => ?_, fun empty => absurd empty nonempty, fun _ => ?_, fun k other => ?_⟩
  · rw [queue_of_interior same, placed]
  · have credited : { t.dest x with credit := 0 } = { u.dest x with credit := 0 } := by
      rw [← dest_interior, ← dest_interior, same]
    have kept := congrArg (fun y : Dest => { y with queue := (s.dest x).queue, credit := (s.dest x).credit }) credited
    rw [placed] at kept
    exact kept
  · rw [own, sheet?_of_interior same, live, h.sheet?_releasedTo, record]
  · rw [sheet?_of_interior same, live, sheet?_releasedTo_other (by rwa [own] at other)]

end

/-! ### A drain that the release completes (R43) -/

/-- R132, R137: with a delivery of it pending, a batch that leaves is neither closed nor ended. -/
theorem departed_of_pending {u : State} {l : Fin 8} {id : Nat} {rest : List Nat} (cause : DrainCause)
    (pending : (u.batchOf id).deliveriesPending ≠ 0) : departed l id rest cause u = leftLane l id rest cause u := by
  cases cause <;> simp [departed, pending]

theorem interior_leftLane_congr {s t : State} (h : s.interior = t.interior) (l : Fin 8) (id : Nat) (rest : List Nat)
    (cause : DrainCause) : (leftLane l id rest cause s).interior = (leftLane l id rest cause t).interior := by
  cases cause with
  | none | pause => exact interior_modBatch_congr h id _
  | feedEnd =>
    exact interior_setFlag_congr (interior_modLane_congr (interior_modBatch_congr h id _) l _) _ true
  | abort => exact interior_modLane_congr h l _

section
variable (l : Fin 8) (id : Nat) (rest : List Nat) (cause : DrainCause) (s : State)

theorem sheets_leftLane : (leftLane l id rest cause s).sheets = s.sheets := by
  cases cause <;> rfl

theorem dests_leftLane : (leftLane l id rest cause s).dests = s.dests := by
  cases cause <;> rfl

theorem flag_leftLane_batchEnd : (leftLane l id rest cause s).flag (.lane l .batchEnd) =
    (s.flag (.lane l .batchEnd) || decide (cause = .feedEnd)) := by
  cases cause with
  | none | pause | abort => exact (Bool.or_false _).symm
  | feedEnd => exact (State.flag_setFlag_same _ _ _).trans (Bool.or_true _).symm

theorem flag_leftLane_other {f : Flag} (other : f ≠ .lane l .batchEnd) :
    (leftLane l id rest cause s).flag f = s.flag f := by
  cases cause with
  | none | pause | abort => rfl
  | feedEnd => exact State.flag_setFlag_other _ _ other

/-- Taking the flags from the state left changes nothing: the one flag raised is raised again. -/
theorem leftLane_withFlags :
    leftLane l id rest cause { s with flags := (leftLane l id rest cause s).flags } = leftLane l id rest cause s := by
  cases cause with
  | none | pause | abort => rfl
  | feedEnd => simp [leftLane, State.setFlag, State.modLane, State.modBatch, State.setLane, State.lane]

end

/-! ### The cursor sheet examined (R110, R116, R117) -/

/-- R110: a sheet whose cursor is examined with nothing to hold it, under the kind it is released as. -/
structure NothingHolds (r : Sheet) (b : Batch) (kind : Kind) : Prop where
  kind : (kind = .ordinary ∧ r.findings = .empty) ∨
    (kind = .suspect ∧ r.findings ≠ .empty ∧ b.action = .flag ∧ r.pastDivert = false ∧ r.findings.incomplete = false ∧
      r.findings.jam = false)
  patch : r.patch = none
  divert : r.divertDone = false
  live : b.state ≠ .aborted

section
variable {r : Sheet} {b : Batch} {kind : Kind} (h : NothingHolds r b kind)
include h

theorem NothingHolds.plainKind : r.plainKind = kind := by
  rcases h.kind with ⟨rfl, clean⟩ | ⟨rfl, found, -⟩
  · exact if_pos clean
  · exact if_neg found

theorem NothingHolds.ne_separator : kind ≠ .separator := by
  rcases h.kind with ⟨rfl, -⟩ | ⟨rfl, -⟩ <;> exact Kind.noConfusion

theorem NothingHolds.jam : r.findings.jam = false := by
  rcases h.kind with ⟨-, clean⟩ | ⟨-, -, -, -, -, jam⟩
  · rw [clean]
    rfl
  · exact jam

theorem NothingHolds.not_heldFor : ¬ r.heldFor b := by
  rcases h.kind with ⟨-, clean⟩ | ⟨-, -, action, past, complete, -⟩
  · simp [Sheet.heldFor, clean, Findings.empty, Findings.measurement]
  · simp [Sheet.heldFor, action, past, complete]

theorem NothingHolds.divertWaiting {s : State} (batch : s.batchOf r.batch = b) : divertWaiting s r = false := by
  rcases h.kind with ⟨-, clean⟩ | ⟨-, -, action, -⟩
  · simp [Sys2Proof.Machine.divertWaiting, clean, Findings.empty, Findings.measurement]
  · simp [Sys2Proof.Machine.divertWaiting, batch, action]

end

section
variable {s : State} {l : Fin 8} {g : Tag} {r : Sheet} {b : Batch} (h : OnlyUnsettled s l g r b) {kind : Kind}
  (free : NothingHolds r b kind)
include h

/-- R117: a retry of a cursor sheet that waits settles it where there is room now, and the lane's drain is then tested. -/
theorem OnlyUnsettled.exec_queueWaitRetry (state : r.state = .ready) (wait : r.queueWait ≠ []) :
    exec (.queueWaitRetry l) s = .next (kickPorts (drainTest l (settleCursor l g s))) := by
  have cursor : cursorReady s g = true := by simp [cursorReady, h.found, sheetReady, state]
  have waits : cursorWait s l ≠ [] := by rwa [cursorWait_of_head h.order h.found]
  have poked : poke l s = settleCursor l g s := by rw [poke_of_single h.order, if_pos cursor]
  rw [← poked]
  exact congrArg Host.Outcome.next (if_neg waits)

include free

/-- R106, R117: the cursor sheet is examined by a SETTLEMENT that finds it ready, and by a retry. -/
theorem OnlyUnsettled.exec_examines {c : Instr}
    (examines : (c = .queueWaitRetry l ∧ r.state = .ready ∧ r.queueWait ≠ []) ∨
      (c = .settlement l ∧ r.queueWait = [] ∧ r.trail.isSome = true ∧
        (imagesComplete s r = true ∨ r.imageTimeout = true))) :
    exec c s = .next (kickPorts (drainTest l (settleCursor l g s))) := by
  rcases examines with ⟨rfl, state, wait⟩ | ⟨rfl, wait, trail, images⟩
  · exact h.exec_queueWaitRetry state wait
  · exact h.exec_settlement wait (sheetReady_of_complete trail images (free.divertWaiting h.batchOf_eq))

variable {es : List (Fin 16 × DeliveryEntry)} (route : deliveryEntries s r kind = some es)
include route

theorem OnlyUnsettled.settleCursor_routes : settleCursor l g s =
    if fullDests s es = [] then settleReleased l g r.batch kind none es (s.modSheet g Sheet.readied)
    else (s.modSheet g Sheet.readied).modSheet g (fun q => { q with queueWait := fullDests s es }) := by
  have unheld : holdReason s r = false := Bool.eq_false_iff.2 (mt (h.holdReason_iff free.divert).1 free.not_heldFor)
  have kinds : chooseKind r.readied none = kind := (chooseKind_none r.readied).trans free.plainKind
  have routed : deliveryEntries (s.modSheet g Sheet.readied) r.readied kind = some es := route
  rw [h.settleCursor_of_unmatched free.divert free.jam free.live unheld (separatorMatch_eq_none (.inl free.patch)),
    routeSheet, kinds, routed]
  dsimp only
  rw [show r.readied.tag = g from State.tag_of_sheet? (r := r) h.found]
  rfl

/-- R116: with a full queue in its route the sheet waits. -/
theorem OnlyUnsettled.settleCursor_waits (full : fullDests s es ≠ []) :
    settleCursor l g s = s.modSheet g (fun q => { q with state := .ready, queueWait := fullDests s es }) := by
  rw [h.settleCursor_routes free route, if_neg full]
  exact State.modSheet_modSheet s g Sheet.readied _ (fun _ => rfl)

/-- R118: with room in every queue it is released. -/
theorem OnlyUnsettled.settleCursor_releases (room : fullDests s es = []) (nonempty : es ≠ []) :
    settleCursor l g s = releasedTo l g r b kind es s := by
  rw [h.settleCursor_routes free route, if_pos room, h.settleReleased_eq free.ne_separator nonempty]

end

/-! ### The obligation -/

/-- R117: a SETTLEMENT leaves a cursor sheet that waits for queue space. -/
theorem settlement_of_waiting {s : State} {l : Fin 8} {g : Tag} {r : Sheet}
    (head : (s.lane l).settleOrder.head? = some g) (found : s.sheet? g = some r) (wait : r.queueWait ≠ []) :
    ∃ t, exec (.settlement l) s = .next t ∧ t.interior = s.interior := by
  obtain ⟨rest, order⟩ := List.head?_eq_some_iff.1 head
  have stays : cursorStays s l := .inl (by rwa [cursorWait_of_head order found])
  have undrained : (s.lane l).drained = false := drained_of_settleOrder (by simp [order])
  refine ⟨_, rfl, ?_⟩
  rw [interior_kickPorts, settleLane_of_cursorStays stays undrained]

section
variable {s : State} {l : Fin 8} {g : Tag} {r : Sheet} {b : Batch} (h : OnlyUnsettled s l g r b) {kind : Kind}
  {es : List (Fin 16 × DeliveryEntry)}

theorem Batch.pending_releasedOne {n : Nat} (some : n ≠ 0) (k : Batch) : (k.releasedOne n).deliveriesPending ≠ 0 := by
  simp only [releasedOne]
  omega

theorem drainDone_of_pending {u : State} {id : Nat} {rest : List Nat} {c : Batch} (found : u.batch? id = some c)
    (pending : c.deliveriesPending ≠ 0) : drainDone l id rest u =
      leftLane l id rest (u.lane l).drainCause (u.modLane l Lane.rested) := by
  have batch : (u.modLane l Lane.rested).batchOf id = c := by
    rw [State.batchOf_modLane, State.batchOf, found]
    rfl
  exact departed_of_pending _ (by rwa [batch])

/-- The state left is the start with what the release writes elsewhere taken from it. -/
theorem leftLane_of_released {u : State} {n : Nat} {id : Nat} {rest : List Nat} (cause : DrainCause)
    (hu : u = releaseCounted l r n (withReleased s u)) :
    leftLane l id rest cause (u.modLane l Lane.rested) = leftLane l id rest cause
      ((releaseCounted l r n (withReleased s (leftLane l id rest cause (u.modLane l Lane.rested)))).modLane l
        Lane.rested) := by
  set left := leftLane l id rest cause (u.modLane l Lane.rested) with hleft
  have parts : withReleased s left = { withReleased s u with flags := left.flags } := by
    rw [hleft]
    cases cause <;> rfl
  have flags : (releaseCounted l r n (withReleased s left)).modLane l Lane.rested =
      { u.modLane l Lane.rested with flags := left.flags } := by
    rw [parts]
    exact congrArg (fun v : State => { v.modLane l Lane.rested with flags := left.flags }) hu.symm
  rw [flags]
  exact (leftLane_withFlags l id rest cause (u.modLane l Lane.rested)).symm

theorem drained_releasedTo : ((releasedTo l g r b kind es s).lane l).drained = true ↔
    (s.lane l).state = .draining ∧ (s.lane l).picking = none ∧ (s.lane l).path = [] := by
  rw [lane_releasedTo, drained_iff]
  simp

include h

/-- R43, R131: the drain that the release completes; the entries it has made keep the batch from its end. -/
theorem OnlyUnsettled.interior_drainTest_releasedTo (nonempty : es ≠ []) {queued : List Nat}
    (active : activeWith s l r.batch queued b) (last : (s.lane l).state = .draining ∧ (s.lane l).picking = none ∧
      (s.lane l).path = []) :
    (drainTest l (releasedTo l g r b kind es s)).interior = (leftLane l r.batch queued (s.lane l).drainCause
      ((releasedTo l g r b kind es s).modLane l Lane.rested)).interior := by
  have found := h.batch?_releasedTo (kind := kind) (es := es)
  have still : activeWith (releasedTo l g r b kind es s) l r.batch queued (b.releasedOne es.length) :=
    activeWith_of_kept active (by rw [lane_releasedTo]) (by rw [lane_releasedTo]) found rfl rfl
  rw [interior_drainTest_of_drained still (drained_releasedTo.2 last),
    drainDone_of_pending found (Batch.pending_releasedOne (by simpa using nonempty) b), lane_releasedTo]

/-- The same, said of the release that the state left shows. -/
theorem OnlyUnsettled.interior_drainDone_of_left {t : State} (nonempty : es ≠ []) {queued : List Nat}
    (same : t.interior = (leftLane l r.batch queued (s.lane l).drainCause
      ((releasedTo l g r b kind es s).modLane l Lane.rested)).interior) :
    t.interior = (drainDone l r.batch queued (releaseCounted l r es.length
      { s with sheets := t.sheets, dests := t.dests, flags := t.flags })).interior := by
  set cause := (s.lane l).drainCause with hcause
  have left : t.interior = (leftLane l r.batch queued cause
      ((releaseCounted l r es.length (withReleased s t)).modLane l Lane.rested)).interior :=
    interior_eq_patched (fun v => leftLane l r.batch queued cause
        ((releaseCounted l r es.length (withReleased s v)).modLane l Lane.rested))
      (fun v => interior_leftLane_congr (interior_modLane_congr
        (interior_releaseCounted_congr (interior_withReleased s v) l r es.length) l _) l _ _ cause)
      same (leftLane_of_released cause releasedTo_eq)
  have found : (releaseCounted l r es.length { s with sheets := t.sheets, dests := t.dests, flags := t.flags }).batch?
      r.batch = some (b.releasedOne es.length) := batch?_releaseCounted (by exact h.batch) _
  rw [drainDone_of_pending found (Batch.pending_releasedOne (by simpa using nonempty) b), lane_releaseCounted]
  refine left.trans (interior_leftLane_congr (interior_modLane_congr (interior_releaseCounted_congr ?_ l r es.length) l _)
    l _ _ cause)
  rfl

end

/-- Settles O55: one examination of the cursor sheet, by its three results. -/
theorem queueWaitRetryReleases : Obligations.QueueWaitRetryReleases := by
  unfold Obligations.QueueWaitRetryReleases
  refine ⟨fun s l g r head found wait => settlement_of_waiting head found wait, ?_⟩
  intro s l g r b es c kind order gate found batch examines kinds patch divert live route nonempty doc page last released
    settled
  have h : OnlyUnsettled s l g r b := ⟨order, gate, found, batch⟩
  have free : NothingHolds r b kind := ⟨kinds, patch, divert, live⟩
  have runs := h.exec_examines free examines
  have record : r.readied.settledAs kind s.activeBank es.length (b.releasedOne es.length) = { r with
      state := .released, outcome := some .released, kind := some kind, routeBank := some s.activeBank,
      pendingDests := es.length, queueWait := [], reserve := 0, imageDeadline := none, document := some (doc b),
      page := some (page b) } := rfl
  refine ⟨fun room busy => ?_, fun queued room ends active => ?_, fun full => ?_⟩
  · rw [h.settleCursor_releases free route room nonempty, drainTest_of_not_drained
      (Bool.eq_false_iff.2 (mt drained_releasedTo.1 busy))] at runs
    have same := interior_kickPorts (releasedTo l g r b kind es s)
    refine ⟨_, runs, ⟨h.releasedAs_of_parts same rfl rfl nonempty record, fun f warn lost _ => ?_⟩, ?_, ?_⟩
    · rw [flag_of_interior same lost, flag_releasedTo warn lost]
    · rw [flag_of_interior same (by simp [noticeLostFlag]), flag_releasedTo (by simp) (by simp [noticeLostFlag])]
    · exact interior_eq_patched (fun v => releaseCounted l r es.length
        (withReleased s v)) (fun v => interior_releaseCounted_congr (interior_withReleased s v) l r es.length) same
        releasedTo_eq
  · rw [h.settleCursor_releases free route room nonempty] at runs
    have same := (interior_kickPorts _).trans
      (h.interior_drainTest_releasedTo (kind := kind) nonempty active ends)
    refine ⟨_, runs, ⟨h.releasedAs_of_parts same (sheets_leftLane _ _ _ _ _) (dests_leftLane _ _ _ _ _) nonempty record,
      fun f warn lost other => ?_⟩, ?_, h.interior_drainDone_of_left nonempty same⟩
    · rw [flag_of_interior same lost, flag_leftLane_other _ _ _ _ _ other]
      exact flag_releasedTo (r := r) (b := b) (kind := kind) warn lost
    · rw [flag_of_interior same (by simp [noticeLostFlag]), flag_leftLane_batchEnd]
      exact congrArg (· || _) (flag_releasedTo (r := r) (b := b) (kind := kind) (by simp) (by simp [noticeLostFlag]))
  · have undrained : ((s.modSheet g (fun q => { q with state := .ready, queueWait := fullDests s es })).lane l).drained =
        false := drained_of_settleOrder (by rw [State.lane_modSheet, order]; exact List.cons_ne_nil _ _)
    rw [h.settleCursor_waits free route full, drainTest_of_not_drained undrained] at runs
    exact ⟨_, runs, interior_kickPorts _⟩

end Sys2Proof.Machine
end

section
/-!
PROOF. The lines of a lane: COVER, TRAY and SPARE edges and the link state (R71, R74 to R76, R85).
-/

namespace Sys2Proof.Machine

/-! ### Levels and roles -/

theorem Level.opposite_of_ne {a b : Level} (h : a ≠ b) : a.opposite = b :=
  match a, b, h with
  | .high, .low, _ | .low, .high, _ => rfl
  | .high, .high, h | .low, .low, h => absurd rfl h

theorem Line.isActive_iff (q : Line) : q.isActive = true ↔ q.sensed = q.activeLevel := decide_eq_true_iff

theorem Line.isActive_eq_false (q : Line) : q.isActive = false ↔ q.sensed ≠ q.activeLevel := decide_eq_false_iff_not

theorem mem_allLines (n : Fin 8) : n ∈ allLines := by
  fin_cases n <;> decide

/-- R68: a role that no line has is not in the map. -/
theorem Lane.lineWith_eq_none (x : Lane) (r : Role) : x.lineWith r = none ↔ ∀ n : Fin 8, (x.line n).role ≠ r := by
  simp [Lane.lineWith, List.find?_eq_none, mem_allLines]

theorem Lane.roleActive_of_line {x : Lane} {r : Role} {n : Fin 8} (hn : x.lineWith r = some n) :
    x.roleActive r = (x.line n).isActive := by
  simp only [Lane.roleActive, hn]

theorem Lane.roleActive_of_unmapped {x : Lane} {r : Role} (hn : x.lineWith r = none) : x.roleActive r = false := by
  simp only [Lane.roleActive, hn]

/-! ### Edges -/

/-- A lane with level `v` sensed on line `n`. -/
def Lane.sense (n : Fin 8) (v : Level) (x : Lane) : Lane := x.setLine n { x.line n with sensed := v }

/-- R71: an edge to the state a line is not in turns its sensed level over. -/
theorem Lane.edgeTo_opposite {x : Lane} {r : Role} {n : Fin 8} (hn : x.lineWith r = some n) :
    x.edgeTo r (!(x.line n).isActive) = some (x.sense n (x.line n).sensed.opposite) := by
  cases active : (x.line n).isActive with
  | true =>
    rw [(Line.isActive_iff _).mp active]
    exact Lane.edgeTo_inactive hn active
  | false =>
    rw [Level.opposite_of_ne ((Line.isActive_eq_false _).mp active)]
    exact Lane.edgeTo_active hn active

section
variable {s : State} {l n : Fin 8}

theorem exec_coverInactive (hn : (s.lane l).lineWith .cover = some n) (active : ((s.lane l).line n).isActive = true) :
    exec (.coverInactive l) s = .next (s.modLane l (Lane.sense n ((s.lane l).line n).activeLevel.opposite)) := by
  change execCoverInactive l s = _
  unfold execCoverInactive
  rw [Lane.edgeTo_inactive hn active]
  rfl

theorem exec_coverActive (hn : (s.lane l).lineWith .cover = some n) (active : ((s.lane l).line n).isActive = false) :
    exec (.coverActive l) s = .next (kickPorts (coverOpened l
      (s.modLane l (Lane.sense n ((s.lane l).line n).activeLevel)))) := by
  change execCoverActive l s = _
  unfold execCoverActive
  rw [Lane.edgeTo_active hn active]
  rfl

theorem exec_trayEdge (hn : (s.lane l).lineWith .tray = some n) :
    exec (.trayEdge l) s = .next (s.modLane l (Lane.sense n ((s.lane l).line n).sensed.opposite)) := by
  have edge := Lane.edgeTo_opposite hn
  change execTrayEdge l s = _
  unfold execTrayEdge Lane.trayEmpty
  rw [Lane.roleActive_of_line hn, edge]
  rfl

/-- R74, R75: an edge of a SPARE input; to active it raises SPARE. -/
theorem exec_spareEdge (role : ((s.lane l).line n).role = .spare)
    (input : ((s.lane l).line n).spareDirection = .input) :
    exec (.spareEdge l n) s = .next (if ((s.lane l).line n).isActive then
      s.modLane l (Lane.sense n ((s.lane l).line n).sensed.opposite)
      else kickPorts (raise (.lane l .spare) (s.modLane l (Lane.sense n ((s.lane l).line n).sensed.opposite)))) := by
  change execSpareEdge l n s = _
  unfold execSpareEdge
  dsimp only
  rw [if_pos ⟨role, input⟩]
  rfl

/-! ### The COVER condition becoming active (R76) -/

theorem coverOpened_of_idle (idle : (s.lane l).state = .idle) :
    coverOpened l s = raise (.lane l .off) (s.modLane l Lane.enterOff) := by
  simp only [coverOpened, idle]

theorem coverOpened_of_still (still : (s.lane l).state = .off ∨ (s.lane l).state = .jammed ∨ (s.lane l).state = .manual) :
    coverOpened l s = s := by
  rcases still with state | state | state <;> simp only [coverOpened, state]

theorem state_of_sensed (v : Level) : ((s.modLane l (Lane.sense n v)).lane l).state = (s.lane l).state := by
  rw [State.lane_modLane_same]
  rfl

end

/-- Settles O48: each edge turns its own level over; what follows from it is the flag of a SPARE input and the IDLE lane
that an open cover takes to OFF. -/
theorem laneLinesSensed : Obligations.LaneLinesSensed := by
  intro s l n sensed q
  refine ⟨fun hn active => exec_coverInactive hn ((Line.isActive_iff q).mpr active), exec_trayEdge,
    fun role input active => ?_, fun role input inactive => ?_, fun up => rfl, fun hn inactive idle => ?_,
    fun hn inactive still => ?_, fun hn => ?_, fun unmapped => ?_⟩
  · rw [exec_spareEdge role input, if_pos ((Line.isActive_iff q).mpr active)]
    rfl
  · have closed := (Line.isActive_eq_false q).mpr inactive
    refine ⟨_, (exec_spareEdge role input).trans (congrArg _ (if_neg (by rw [closed]; exact Bool.noConfusion))), ?_⟩
    rw [interior_kickPorts, interior_raise, Level.opposite_of_ne inactive]
    rfl
  · refine ⟨_, exec_coverActive hn ((Line.isActive_eq_false q).mpr inactive), ?_⟩
    rw [interior_kickPorts, coverOpened_of_idle ((state_of_sensed _).trans idle), interior_raise]
    rfl
  · refine ⟨_, exec_coverActive hn ((Line.isActive_eq_false q).mpr inactive), ?_⟩
    rw [interior_kickPorts, coverOpened_of_still (by rw [state_of_sensed]; exact still)]
    rfl
  · rw [Lane.coverCondition, Lane.roleActive_of_line hn]
    exact Line.isActive_iff q
  · exact Lane.roleActive_of_unmapped ((Lane.lineWith_eq_none _ _).mpr unmapped)

end Sys2Proof.Machine
end

section
/-!
PROOF. LANE_POWER: its forms and their refusals (R76, R78 to R82, R131).
-/

namespace Sys2Proof.Machine

/-- A lane directive that changes its lane alone. -/
theorem laneDirective_changes {row : DirectiveRow} {d : Directive} {s : State} {k : Nat} {l : Fin 8}
    {body : Fin 8 → List Byte → State → Executed} {r : Result} {f : Lane → Lane} (waits : waiting row d s)
    (named : names d k l.val) (gives : body l d.params s.dequeued = ⟨r, [], s.dequeued.modLane l f⟩) :
    ∃ t, (Host.Outcome.next (runDirective row (withLength k (withLane body)) s) : Answer) = .next t ∧
      answered d r [] s t ∧ t.interior = (s.modLane l f).interior :=
  runDirective_answers waits _ ⟨_, (withLane_of_names named body _).trans gives, rfl, rfl, rfl, rfl, rfl⟩

section
variable {u : State} {l : Fin 8} {ps : List Byte}

/-! ### OFF and IDLE (R81) -/

theorem lanePowerOff_of_idle (form : rd ps 1 1 = 0) (idle : (u.lane l).state = .idle) :
    lanePowerOff l ps u = accept (u.modLane l Lane.enterOff) := by
  simp [lanePowerOff, form, idle]

theorem lanePowerOff_of_not_idle (form : rd ps 1 1 = 0) (other : (u.lane l).state ≠ .idle) :
    lanePowerOff l ps u = refuse .state u := by
  simp [lanePowerOff, form, other]

theorem lanePowerIdle_of_no_motor (off : (u.lane l).state = .off) (motor : (u.lane l).hasRole .motor = false) :
    lanePowerIdle l ps u = refuse .config u := by
  simp [lanePowerIdle, off, motor]

theorem lanePowerIdle_of_cover (off : (u.lane l).state = .off) (motor : (u.lane l).hasRole .motor = true)
    (cover : (u.lane l).coverCondition = true) : lanePowerIdle l ps u = refuse .interlock u := by
  simp [lanePowerIdle, off, motor, cover]

theorem lanePowerIdle_of_off (off : (u.lane l).state = .off) (motor : (u.lane l).hasRole .motor = true)
    (closed : (u.lane l).coverCondition = false) :
    lanePowerIdle l ps u = accept (u.modLane l (Lane.enterSpinup .idle)) := by
  simp [lanePowerIdle, off, motor, closed]

theorem lanePowerIdle_of_idle (idle : (u.lane l).state = .idle) : lanePowerIdle l ps u =
    accept (u.modLane l (fun y => { y with idleRemaining := idleMs y.idleCode })) := by
  simp only [lanePowerIdle, idle]

theorem lanePowerIdle_of_moving (notOff : (u.lane l).state ≠ .off) (notIdle : (u.lane l).state ≠ .idle) :
    lanePowerIdle l ps u = refuse .state u := by
  unfold lanePowerIdle
  dsimp only
  cases state : (u.lane l).state with
  | off => exact absurd state notOff
  | idle => exact absurd state notIdle
  | spinup | feeding | draining | halted | jammed | manual => rfl

/-! ### STANDBY (R82) -/

theorem lanePowerStandby_of_idle (idle : (u.lane l).state = .idle) :
    lanePowerStandby l ps u = accept (u.modLane l Lane.enterOff) := by
  simp only [lanePowerStandby, idle]

/-- A HALTED lane that has entered OFF. -/
def Lane.standing (x : Lane) : Lane := { x.enterOff with haltReason := .none }

theorem lanePowerStandby_of_halted (halted : (u.lane l).state = .halted) (empty : (u.lane l).nothingInProgress = true) :
    lanePowerStandby l ps u = accept (batchLeaves l (u.modLane l Lane.standing)) := by
  simp only [lanePowerStandby, halted, empty]
  rfl

theorem lanePowerStandby_of_barred (notIdle : (u.lane l).state ≠ .idle)
    (barred : (u.lane l).state ≠ .halted ∨ (u.lane l).nothingInProgress = false) :
    lanePowerStandby l ps u = refuse .state u := by
  unfold lanePowerStandby
  dsimp only
  cases state : (u.lane l).state with
  | idle => exact absurd state notIdle
  | halted => exact if_neg (by rw [barred.resolve_left (not_not.mpr state)]; exact Bool.noConfusion)
  | off | spinup | feeding | draining | jammed | manual => rfl

/-- R82, R131: the batch of a HALTED lane that enters OFF leaves as the drain cause directs. -/
theorem interior_batchLeaves_standing {id : Nat} {rest : List Nat} {b : Batch} (active : activeWith u l id rest b) :
    (batchLeaves l (u.modLane l Lane.standing)).interior = (departed l id rest (u.lane l).drainCause
      (u.modLane l (fun x => { x.standing with drainCause := .none }))).interior := by
  have lane : (u.modLane l Lane.standing).lane l = (u.lane l).standing := State.lane_modLane_same _ _ _
  have found : (u.modLane l Lane.standing).batch? id = some b := by
    obtain ⟨-, -, found, -⟩ := active
    exact found
  have still : activeWith (u.modLane l Lane.standing) l id rest b :=
    activeWith_of_kept active (by rw [lane]; rfl) (by rw [lane]; rfl) found rfl rfl
  rw [interior_batchLeaves_departed still, lane, State.modLane_modLane]
  rfl

end

/-- Settles O21: each form by the state of its lane. -/
theorem lanePowerSetsAndMovesLane : Obligations.LanePowerSetsAndMovesLane := by
  refine ⟨fun s d l waits named => ?_, fun s d l named => ?_⟩
  · obtain ⟨t, run, reply, left⟩ := laneDirective_changes (body := lanePowerSet) waits named rfl
    refine ⟨t, run, ?_, left⟩
    simpa using reply
  intro gives off
  refine ⟨fun waits form => ⟨fun idle => ?_, fun other => ?_⟩, fun waits => ⟨fun off motor => ?_, fun off motor =>
    ⟨fun cover => ?_, fun closed => ?_⟩, fun idle => ?_, fun notOff notIdle => ?_⟩, fun waits => ⟨fun idle => ?_,
    fun id rest b halted empty active => ?_, fun notIdle barred => ?_⟩⟩
  · exact laneDirective_changes waits named (lanePowerOff_of_idle form idle)
  · exact laneDirective_refuses waits named (lanePowerOff_of_not_idle form other)
  · exact laneDirective_refuses waits named (lanePowerIdle_of_no_motor off motor)
  · exact laneDirective_refuses waits named (lanePowerIdle_of_cover off motor cover)
  · exact laneDirective_changes waits named (lanePowerIdle_of_off off motor closed)
  · exact laneDirective_changes waits named (lanePowerIdle_of_idle idle)
  · exact laneDirective_refuses waits named (lanePowerIdle_of_moving notOff notIdle)
  · exact laneDirective_changes waits named (lanePowerStandby_of_idle idle)
  · obtain ⟨t, run, reply, left⟩ := laneDirective_keeps waits named
      (lanePowerStandby_of_halted (u := s.dequeued) halted empty)
      (.trans (t := s.dequeued.modLane l Lane.standing) ⟨rfl, rfl, rfl, rfl⟩ (keepsReplies_batchLeaves l _))
    refine ⟨t, run, reply, left.trans (.trans ?_ (interior_batchLeaves_standing active))⟩
    exact interior_batchLeaves_congr (s := s.dequeued.modLane l Lane.standing) (t := s.modLane l Lane.standing) rfl l
  · exact laneDirective_refuses waits named (lanePowerStandby_of_barred notIdle barred)

end Sys2Proof.Machine
end

section
/-!
PROOF. LINES_MAP and LINES_SET: the checks in their order, and the lines and the SPARE flag they leave (R69, R71, R72, R75).
-/

namespace Sys2Proof.Machine

/-! ### Lines stored, and SPARE with them (R75) -/

/-- The state with other lines on lane `l`, and its SPARE flag set if `spare`. -/
def relined (l : Fin 8) (lines : Vector Line 8) (spare : Bool) (s : State) : State :=
  (s.modLane l (fun x => { x with lines := lines })).setFlag (.lane l .spare) (s.flag (.lane l .spare) || spare)

theorem State.setFlag_flag (s : State) (f : Flag) : s.setFlag f (s.flag f) = s := by
  unfold State.setFlag State.flag
  rw [Vector.set_getElem_self]

theorem State.setFlag_setFlag (s : State) (f : Flag) (a b : Bool) : (s.setFlag f a).setFlag f b = s.setFlag f b := by
  simp [State.setFlag]

theorem State.modLane_setFlag (s : State) (l : Fin 8) (g : Lane → Lane) (f : Flag) (b : Bool) :
    (s.setFlag f b).modLane l g = (s.modLane l g).setFlag f b := rfl

theorem interior_raise_if (f : Flag) (raised : Bool) (s : State) :
    (if raised then raise f s else s).interior = (s.setFlag f (s.flag f || raised)).interior := by
  cases raised with
  | false => rw [Bool.or_false, State.setFlag_flag]; rfl
  | true => rw [Bool.or_true]; exact interior_raise f s

theorem relined_self (l : Fin 8) (s : State) : relined l (s.lane l).lines false s = s := by
  have same : s.modLane l (fun x => { x with lines := (s.lane l).lines }) = s :=
    (State.modLane_congr s l rfl).trans (State.modLane_id s l)
  rw [relined, Bool.or_false, same, State.setFlag_flag]

theorem lane_relined (l : Fin 8) (lines : Vector Line 8) (spare : Bool) (s : State) :
    (relined l lines spare s).lane l = { s.lane l with lines := lines } := by
  rw [relined, State.lane_setFlag, State.lane_modLane_same]

theorem relined_relined (l : Fin 8) (first second : Vector Line 8) (a b : Bool) (s : State) :
    relined l second b (relined l first a s) = relined l second (a || b) s := by
  unfold relined
  rw [State.flag_setFlag_same, State.modLane_setFlag, State.modLane_modLane, State.setFlag_setFlag, Bool.or_assoc]
  rfl

section
variable {s t : State} {l : Fin 8} {lines : Vector Line 8} {spare : Bool}
  (left : t.interior = (relined l lines spare s).interior)
include left

theorem lane_of_relined : t.lane l = { s.lane l with lines := lines } :=
  (lane_of_interior left l).trans (lane_relined l lines spare s)

theorem lane_other_of_relined {k : Fin 8} (other : k ≠ l) : t.lane k = s.lane k :=
  (lane_of_interior left k).trans
    (State.lane_modLane_other s (fun x => { x with lines := lines }) other)

theorem flag_spare_of_relined : t.flag (.lane l .spare) = (s.flag (.lane l .spare) || spare) :=
  (flag_of_interior left Flag.noConfusion).trans (State.flag_setFlag_same _ _ _)

theorem flag_other_of_relined {f : Flag} (other : f ≠ .lane l .spare) (lost : f ≠ noticeLostFlag) :
    t.flag f = s.flag f :=
  (flag_of_interior left lost).trans (State.flag_setFlag_other _ _ other)

theorem interior_of_relined : t.interior = ({ s with lanes := t.lanes, flags := t.flags } : State).interior :=
  interior_eq_patched (fun v => { s with lanes := v.lanes, flags := v.flags })
    (fun v => by simp [State.interior]) left rfl

end

/-! ### LINES_MAP (R69) -/

/-- R69: a map whose bytes are all defined is in range when no role but SPARE is named twice. -/
theorem mapInRange_iff {ps : List Byte} {role : Fin 8 → Role} {lvl : Fin 8 → Level}
    (defined : ∀ n : Fin 8, mapRole ps n = some (role n) ∧ mapLevel ps n = some (lvl n)) :
    mapInRange ps = true ↔ ∀ n k : Fin 8, role n = role k → role n ≠ .spare → n = k := by
  have pair (n k : Fin 8) : (n = k ∨ role n ≠ role k) ∨ role n = .spare ↔ (role n = role k → role n ≠ .spare → n = k) := by
    tauto
  simp [mapInRange, defined, mem_allLines, ← pair]

/-- R71: an input's level is taken from the pin. -/
theorem Line.sensed_if_input (q : Line) (v : Level) : (if q.direction = .input then { q with sensed := v } else q) =
    { q with sensed := if q.direction = .input then v else q.sensed } := by
  split <;> rfl

theorem Line.remap_of_same {role : Role} {r : Line} (same : role = r.role) (pins : BitVec 8) (n : Nat) (lvl : Level) :
    r.remap pins n role lvl = { r with
      activeLevel := lvl, sensed := if r.direction = .input then pinLevel pins n else r.sensed } := by
  unfold Line.remap
  rw [if_pos same]
  exact Line.sensed_if_input _ _

/-- A line under a changed role. -/
def Line.rerole (role : Role) (lvl : Level) (r : Line) : Line := { r with
  role := role, activeLevel := lvl, latch := false, mode := .edge
  spareDirection := if role = .spare then .input else r.spareDirection }

theorem Line.remap_of_changed {role : Role} {r : Line} (changed : role ≠ r.role) (pins : BitVec 8) (n : Nat) (lvl : Level) :
    r.remap pins n role lvl = { r.rerole role lvl with
      sensed := if (r.rerole role lvl).direction = .input then pinLevel pins n else r.sensed } := by
  unfold Line.remap
  rw [if_neg changed]
  exact Line.sensed_if_input _ _

theorem Line.direction_of_spare {q : Line} (spare : q.role = .spare) : q.direction = q.spareDirection := by
  simp [Line.direction, spare, Role.isDrive, Role.isSense]

/-- R69, R71: what a line keeps and what it takes under its new role and active level. -/
theorem Line.remap_spec (pins : BitVec 8) (n : Nat) (role : Role) (lvl : Level) (r : Line) :
    let q := r.remap pins n role lvl
    q.role = role ∧ q.activeLevel = lvl ∧ q.latch = (decide (role = r.role) && r.latch) ∧
      (role ≠ r.role → q.mode = .edge) ∧ (role = r.role → q.mode = r.mode) ∧
      (role = .spare → r.role ≠ .spare → q.direction = .input) ∧
      (role = .spare → r.role = .spare → q.direction = r.direction ∧ q.spareDirection = r.spareDirection) ∧
      (q.direction = .input → q.sensed = pinLevel pins n) := by
  intro q
  by_cases same : role = r.role
  · have kept : q = _ := Line.remap_of_same same pins n lvl
    rw [kept]
    refine ⟨same.symm, rfl, by simp [same], fun changed => absurd same changed, fun _ => rfl,
      fun spare other => absurd (same.symm.trans spare) other, fun _ _ => ⟨rfl, rfl⟩, fun input => if_pos input⟩
  · have taken : q = _ := Line.remap_of_changed same pins n lvl
    rw [taken]
    refine ⟨rfl, rfl, by simp [same, Line.rerole], fun _ => rfl, fun kept => absurd kept same, fun spare _ => ?_,
      fun spare other => absurd (spare.trans other.symm) same, fun input => if_pos input⟩
    rw [Line.direction_of_spare spare]
    exact if_pos spare

section
variable {pins : BitVec 8} {l : Fin 8} {ps : List Byte} {u : State}

theorem linesMap_of_not_inRange (outside : mapInRange ps = false) : linesMap pins l ps u = refuse .range u :=
  if_pos outside

theorem linesMap_of_not_off (inside : mapInRange ps = true) (running : (u.lane l).state ≠ .off) :
    linesMap pins l ps u = refuse .state u := by
  simp [linesMap, inside, running]

/-- The state that an accepted LINES_MAP leaves. -/
def mapped (pins : BitVec 8) (l : Fin 8) (ps : List Byte) (u : State) : State :=
  if ((u.lane l).remap pins ps).holdsSpare then raise (.lane l .spare) (u.modLane l (Lane.remap pins ps))
  else u.modLane l (Lane.remap pins ps)

theorem linesMap_of_off (inside : mapInRange ps = true) (off : (u.lane l).state = .off) :
    linesMap pins l ps u = accept (mapped pins l ps u) := by
  simp [linesMap, inside, off, mapped]

theorem keepsReplies_mapped : KeepsReplies u (mapped pins l ps u) := by
  have stored : KeepsReplies u (u.modLane l (Lane.remap pins ps)) := ⟨rfl, rfl, rfl, rfl⟩
  unfold mapped
  split
  · exact stored.trans (keepsReplies_raise _ _)
  · exact stored

theorem interior_mapped : (mapped pins l ps u).interior =
    (relined l ((u.lane l).remap pins ps).lines ((u.lane l).remap pins ps).holdsSpare u).interior :=
  interior_raise_if _ _ _

end

/-- R69: line `n` of a mapped lane. -/
theorem Lane.line_remap (pins : BitVec 8) {ps : List Byte} (x : Lane) {n : Fin 8} {role : Role} {lvl : Level}
    (defined : mapRole ps n = some role ∧ mapLevel ps n = some lvl) :
    (x.remap pins ps).line n = (x.line n).remap pins n.val role lvl := by
  simp [Lane.line, Lane.remap, defined]

/-- Settles O19: the checks in their order; each line by what its new role keeps of it. -/
theorem linesMapStoresMap : Obligations.LinesMapStoresMap := by
  intro s d l pins role lvl waits named defined refused once
  have inside : mapInRange d.params = true ↔ once := mapInRange_iff defined
  refine ⟨fun twice => ?_, fun unique running => ?_, fun unique off => ?_⟩
  · refine laneDirective_refuses waits named (linesMap_of_not_inRange (Bool.eq_false_iff.mpr (mt inside.mp twice)))
  · exact laneDirective_refuses waits named (linesMap_of_not_off (inside.mpr unique) running)
  obtain ⟨t, run, reply, left⟩ := laneDirective_keeps waits named
    (linesMap_of_off (pins := pins) (u := s.dequeued) (inside.mpr unique) off)
    (.trans (t := s.dequeued) (.refl _) keepsReplies_mapped)
  replace left : t.interior =
      (relined l ((s.lane l).remap pins d.params).lines ((s.lane l).remap pins d.params).holdsSpare s).interior :=
    left.trans interior_mapped
  have lane : t.lane l = (s.lane l).remap pins d.params := lane_of_relined left
  refine ⟨t, run, reply, interior_of_relined left, fun f => flag_other_of_relined left, ?_,
    fun k => lane_other_of_relined left, by rw [lane]; rfl, fun n => ?_⟩
  · rw [lane]
    exact flag_spare_of_relined left
  · rw [lane, Lane.line_remap pins _ (defined n)]
    exact Line.remap_spec pins n.val (role n) (lvl n) _

end Sys2Proof.Machine
end

section
/-!
PROOF. LINES_SET: the checks over its entries, and what its entries make of the lines, one after another (R71, R72, R75,
R197).
-/

namespace Sys2Proof.Machine

/-! ### The defined values (R196) -/

theorem Direction.ofCode_of_le {n : Nat} (h : n ≤ 1) :
    Direction.ofCode n = some (if n = 0 then .output else .input) := by
  interval_cases n <;> rfl

theorem EventMode.ofCode_of_le {n : Nat} (h : n ≤ 1) : EventMode.ofCode n = some (if n = 0 then .edge else .level) := by
  interval_cases n <;> rfl

theorem latchOfCode_of_le {n : Nat} (h : n ≤ 1) : latchOfCode n = some (decide (n = 1)) := by
  interval_cases n <;> rfl

theorem Role.isSense_eq_false {r : Role} (h : r = .spare ∨ r.isDrive = true) : r.isSense = false := by
  rcases h with rfl | drive
  · rfl
  · cases r with
    | motor | pick | divert => rfl
    | entry | exit | tray | cover | spare => cases drive

/-! ### The checks of one entry (R72) -/

/-- Every part that entry `e` holds has a defined value, and line `q` of a lane in state `st` admits it. -/
structure LineSetting.Admitted (e : LineSetting) (st : LaneState) (q : Line) : Prop where
  spare : e.hasDirection = true ∨ e.hasMode = true → q.role = .spare
  direction : e.hasDirection = true → e.direction ≤ 1
  mode : e.hasMode = true → e.mode ≤ 1
  latch : e.hasLatch = true → e.latch ≤ 1 ∧ (q.role = .spare ∨ (q.role.isDrive = true ∧ st = .manual))

section
variable {x : Lane} {e : LineSetting} {n : Fin 8} (line : e.line = n.val)
include line

/-- Checks 2 to 4. -/
theorem LineSetting.inRange_of_parts (spare : e.hasDirection = true ∨ e.hasMode = true → (x.line n).role = .spare)
    (direction : e.hasDirection = true → e.direction ≤ 1) (mode : e.hasMode = true → e.mode ≤ 1)
    (latch : e.hasLatch = true → e.latch ≤ 1 ∧ ((x.line n).role = .spare ∨ (x.line n).role.isDrive = true)) :
    e.inRange x = true := by
  unfold LineSetting.inRange
  rw [laneOf_val line]
  simp only [Bool.and_eq_true, Bool.or_eq_true, Bool.not_eq_true']
  refine ⟨⟨?_, ?_⟩, ?_⟩
  · cases held : e.hasDirection with
    | false => exact .inl rfl
    | true => exact .inr (by simp [spare (.inl held), Direction.ofCode_of_le (direction held)])
  · cases held : e.hasMode with
    | false => exact .inl rfl
    | true => exact .inr (by simp [spare (.inr held), EventMode.ofCode_of_le (mode held)])
  · cases held : e.hasLatch with
    | false => exact .inl rfl
    | true =>
      obtain ⟨defined, role⟩ := latch held
      exact .inr (by simp [Role.isSense_eq_false role, latchOfCode_of_le defined])

theorem LineSetting.Admitted.inRange (h : e.Admitted x.state (x.line n)) : e.inRange x = true :=
  LineSetting.inRange_of_parts line h.spare h.direction h.mode
    fun held => ⟨(h.latch held).1, (h.latch held).2.imp id And.left⟩

/-- Check 5. -/
theorem LineSetting.latchBarred_of_line :
    e.latchBarred x = (e.hasLatch && (x.line n).role.isDrive && decide (x.state ≠ .manual)) := by
  unfold LineSetting.latchBarred
  rw [laneOf_val line]

theorem LineSetting.Admitted.not_latchBarred (h : e.Admitted x.state (x.line n)) : e.latchBarred x = false := by
  rw [LineSetting.latchBarred_of_line line]
  cases held : e.hasLatch with
  | false => rfl
  | true =>
    rcases (h.latch held).2 with spare | ⟨-, manual⟩
    · simp [spare, Role.isDrive]
    · simp [manual]

end

/-! ### The checks of the whole (R72, R197) -/

section
variable {pins : BitVec 8} {ps : List Byte} {u : State}

theorem linesSet_of_short (short : ps.length < 2) : linesSet pins ps u = refuse .length u := if_pos short

section
variable (counted : 2 ≤ ps.length)
include counted

theorem linesSet_of_count (outside : rd ps 1 1 = 0 ∨ 8 < rd ps 1 1) : linesSet pins ps u = refuse .range u := by
  have wrong : rd ps 1 1 < 1 ∨ 8 < rd ps 1 1 := outside.imp_left fun zero => by omega
  exact (if_neg (Nat.not_lt.mpr counted)).trans (if_pos wrong)

end

section
variable (low : 1 ≤ rd ps 1 1) (high : rd ps 1 1 ≤ 8)
include low high

theorem linesSet_of_length (other : ps.length ≠ 2 + 5 * rd ps 1 1) : linesSet pins ps u = refuse .length u := by
  unfold linesSet
  dsimp only
  rw [if_neg (by omega : ¬ (rd ps 1 1 < 1 ∨ 8 < rd ps 1 1)), if_pos other, ite_self]

variable (length : ps.length = 2 + 5 * rd ps 1 1)
include length

theorem linesSet_of_no_lane (above : 7 < rd ps 0 1) : linesSet pins ps u = refuse .range u := by
  have none : laneOf (rd ps 0 1) = none := dif_neg (by omega)
  unfold linesSet
  dsimp only
  rw [if_neg (by omega), if_neg (by omega), if_neg (by omega), none]

variable {l : Fin 8} (lane : rd ps 0 1 = l.val)
include lane

/-- With count, length and lane in order, the checks are those of the entries. -/
theorem linesSet_of_lane : linesSet pins ps u =
    if ((List.range (rd ps 1 1)).map (lineSettingAt ps)).all (LineSetting.inRange (u.lane l)) = false then refuse .range u
    else if ((List.range (rd ps 1 1)).map (lineSettingAt ps)).any (LineSetting.latchBarred (u.lane l)) then
      refuse .state u
    else accept (((List.range (rd ps 1 1)).map (lineSettingAt ps)).foldl (applyLineSetting pins l) u) := by
  unfold linesSet
  dsimp only
  rw [if_neg (by omega), if_neg (by omega), if_neg (by omega), laneOf_val lane]

theorem linesSet_of_inRange (inside : ∀ i, i < rd ps 1 1 → (lineSettingAt ps i).inRange (u.lane l) = true) :
    linesSet pins ps u =
      if (List.range (rd ps 1 1)).any (fun i => (lineSettingAt ps i).latchBarred (u.lane l)) then refuse .state u
      else accept ((List.range (rd ps 1 1)).foldl (fun v i => applyLineSetting pins l v (lineSettingAt ps i)) u) := by
  rw [linesSet_of_lane low high length lane, if_neg, List.any_map, List.foldl_map]
  · rfl
  · rw [Bool.not_eq_false, List.all_map, List.all_eq_true]
    exact fun i listed => inside i (List.mem_range.mp listed)

theorem linesSet_of_barred (inside : ∀ i, i < rd ps 1 1 → (lineSettingAt ps i).inRange (u.lane l) = true) {i : Nat}
    (listed : i < rd ps 1 1) (barred : (lineSettingAt ps i).latchBarred (u.lane l) = true) :
    linesSet pins ps u = refuse .state u := by
  rw [linesSet_of_inRange low high length lane inside, if_pos]
  exact List.any_eq_true.mpr ⟨i, List.mem_range.mpr listed, barred⟩

theorem linesSet_of_admitted (admitted : ∀ i, i < rd ps 1 1 → ∃ n : Fin 8, (lineSettingAt ps i).line = n.val ∧
      (lineSettingAt ps i).Admitted (u.lane l).state ((u.lane l).line n)) : linesSet pins ps u =
    accept ((List.range (rd ps 1 1)).foldl (fun v i => applyLineSetting pins l v (lineSettingAt ps i)) u) := by
  have inside (i : Nat) (listed : i < rd ps 1 1) : (lineSettingAt ps i).inRange (u.lane l) = true := by
    obtain ⟨n, line, parts⟩ := admitted i listed
    exact parts.inRange line
  rw [linesSet_of_inRange low high length lane inside, if_neg]
  rw [List.any_eq_true]
  rintro ⟨i, listed, barred⟩
  obtain ⟨n, line, parts⟩ := admitted i (List.mem_range.mp listed)
  rw [parts.not_latchBarred line] at barred
  cases barred

end

end

/-! ### One entry applied (R71, R72, R75) -/

/-- R71, R72: a line with the parts of an entry, each in its defined values. -/
theorem Line.set_of_defined {e : LineSetting} (direction : e.hasDirection = true → e.direction ≤ 1)
    (latch : e.hasLatch = true → e.latch ≤ 1) (mode : e.hasMode = true → e.mode ≤ 1) (pins : BitVec 8) (n : Nat)
    (q : Line) : q.set pins n e = { q with
      latch := if e.hasLatch = true then decide (e.latch = 1) else q.latch
      mode := if e.hasMode = true then (if e.mode = 0 then .edge else .level) else q.mode
      spareDirection := if e.hasDirection = true then (if e.direction = 0 then .output else .input) else q.spareDirection
      sensed := if e.hasDirection = true ∧ e.direction = 1 ∧ q.spareDirection = .output then pinLevel pins n
        else q.sensed } := by
  have latched (q : Line) : (if e.hasLatch = true then { q with latch := (latchOfCode e.latch).getD q.latch } else q) =
      { q with latch := if e.hasLatch = true then decide (e.latch = 1) else q.latch } := by
    split
    next held => rw [latchOfCode_of_le (latch held), Option.getD_some]
    next => rfl
  have moded (q : Line) : (if e.hasMode = true then { q with mode := (EventMode.ofCode e.mode).getD q.mode } else q) =
      { q with mode := if e.hasMode = true then (if e.mode = 0 then .edge else .level) else q.mode } := by
    split
    next held => rw [EventMode.ofCode_of_le (mode held), Option.getD_some]
    next => rfl
  unfold Line.set
  dsimp only
  rw [latched, moded]
  cases held : e.hasDirection with
  | false => simp
  | true =>
    have turned : (if e.direction = 0 then Direction.output else .input) = .input ↔ e.direction = 1 := by
      have := direction held
      split <;> simp <;> omega
    simp [Direction.ofCode_of_le (direction held), turned]

theorem Line.levelSpareActive_iff (q : Line) : q.levelSpareActive = true ↔
    q.role = .spare ∧ q.spareDirection = .input ∧ q.mode = .level ∧ q.sensed = q.activeLevel := by
  simp [Line.levelSpareActive, Line.isActive, and_assoc]

theorem keepsReplies_applyLineSetting (pins : BitVec 8) (l : Fin 8) (u : State) (e : LineSetting) :
    KeepsReplies u (applyLineSetting pins l u e) := by
  unfold applyLineSetting
  split
  · exact .refl u
  · next n _ =>
    have stored : KeepsReplies u (u.setLane l ((u.lane l).setLine n (((u.lane l).line n).set pins n.val e))) :=
      ⟨rfl, rfl, rfl, rfl⟩
    dsimp only
    split
    · exact stored.trans (keepsReplies_raise _ _)
    · exact stored

/-- What an entry for line `n` does. -/
theorem interior_applyLineSetting {pins : BitVec 8} {l n : Fin 8} {u : State} {e : LineSetting} (line : e.line = n.val) :
    (applyLineSetting pins l u e).interior =
      (relined l ((u.lane l).lines.set n.val (((u.lane l).line n).set pins n.val e))
        ((e.hasDirection || e.hasMode) && (((u.lane l).line n).set pins n.val e).levelSpareActive) u).interior := by
  unfold applyLineSetting
  rw [laneOf_val line]
  exact interior_raise_if _ _ _

theorem interior_relined_congr {s t : State} (h : s.interior = t.interior) (l : Fin 8) (lines : Vector Line 8)
    (spare : Bool) : (relined l lines spare s).interior = (relined l lines spare t).interior := by
  unfold relined
  rw [flag_of_interior h Flag.noConfusion]
  exact interior_setFlag_congr (interior_modLane_congr h l _) _ _

theorem LineSetting.holds_latch_alone {e : LineSetting} (parts : e.parts = 2) :
    e.hasDirection = false ∧ e.hasMode = false ∧ e.hasLatch = true := by
  simp only [LineSetting.hasDirection, LineSetting.hasMode, LineSetting.hasLatch, parts]
  decide

/-- An entry that holds a latch alone stores it and nothing else. -/
theorem applyLineSetting_of_latch {pins : BitVec 8} {l n : Fin 8} {u : State} {e : LineSetting} (line : e.line = n.val)
    (parts : e.parts = 2) (defined : e.latch ≤ 1) : applyLineSetting pins l u e =
      u.modLane l (fun x => x.setLine n { x.line n with latch := decide (e.latch = 1) }) := by
  obtain ⟨direction, mode, latch⟩ := LineSetting.holds_latch_alone parts
  simp only [applyLineSetting, laneOf_val line, Line.set, direction, mode, latch, latchOfCode_of_le defined]
  rfl

/-! ### The entries one after another -/

section
variable (pins : BitVec 8) (e : Nat → LineSetting) (x : Lane)

/-- Line `n` of a lane after the first `j` entries. -/
def lineAfter (n : Fin 8) (j : Nat) : Line :=
  ((List.range j).filter (fun i => decide ((e i).line = n.val))).foldl (fun q i => q.set pins n.val (e i)) (x.line n)

/-- The lines of a lane after the first `j` entries. -/
def linesAfter (j : Nat) : Vector Line 8 := Vector.ofFn (fun n : Fin 8 => lineAfter pins e x n j)

/-- Whether entry `i` sets SPARE (R75). -/
def setsSpare (i : Nat) : Bool :=
  ((e i).hasDirection || (e i).hasMode) &&
    allLines.any (fun n => decide ((e i).line = n.val) && (lineAfter pins e x n (i + 1)).levelSpareActive)

theorem lineAfter_succ (n : Fin 8) (j : Nat) : lineAfter pins e x n (j + 1) =
    if (e j).line = n.val then (lineAfter pins e x n j).set pins n.val (e j) else lineAfter pins e x n j := by
  unfold lineAfter
  rw [List.range_succ, List.filter_append, List.foldl_append]
  by_cases named : (e j).line = n.val <;> simp [named]

theorem linesAfter_zero : linesAfter pins e x 0 = x.lines := by
  ext1 i hi
  simp [linesAfter, lineAfter, Lane.line]

theorem linesAfter_succ {n : Fin 8} {j : Nat} (line : (e j).line = n.val) :
    linesAfter pins e x (j + 1) = (linesAfter pins e x j).set n.val ((lineAfter pins e x n j).set pins n.val (e j)) := by
  ext1 i hi
  rw [Vector.getElem_set]
  simp only [linesAfter, Vector.getElem_ofFn, lineAfter_succ, line]
  split
  case isTrue same =>
    subst same
    rfl
  case isFalse => rfl

theorem setsSpare_iff (i : Nat) : setsSpare pins e x i = true ↔ ∃ n : Fin 8, (e i).line = n.val ∧
    ((e i).hasDirection = true ∨ (e i).hasMode = true) ∧ (lineAfter pins e x n (i + 1)).levelSpareActive = true := by
  simp only [setsSpare, Bool.and_eq_true, Bool.or_eq_true, List.any_eq_true, decide_eq_true_iff]
  constructor
  · rintro ⟨parts, n, -, named, active⟩
    exact ⟨n, named, parts, active⟩
  · rintro ⟨n, named, parts, active⟩
    exact ⟨parts, n, mem_allLines n, named, active⟩

theorem setsSpare_of_line {n : Fin 8} {i : Nat} (line : (e i).line = n.val) : setsSpare pins e x i =
    (((e i).hasDirection || (e i).hasMode) && (lineAfter pins e x n (i + 1)).levelSpareActive) := by
  rw [Bool.eq_iff_iff, setsSpare_iff, Bool.and_eq_true, Bool.or_eq_true]
  constructor
  · rintro ⟨k, named, parts, active⟩
    rw [show k = n from Fin.ext (named.symm.trans line)] at active
    exact ⟨parts, active⟩
  · exact fun ⟨parts, active⟩ => ⟨n, line, parts, active⟩

/-- R71, R72, R75: all that the first `j` entries do. -/
theorem interior_foldl_applyLineSetting {k : Nat} (named : ∀ i, i < k → ∃ n : Fin 8, (e i).line = n.val) (l : Fin 8)
    (s : State) {j : Nat} (most : j ≤ k) :
    ((List.range j).foldl (fun u i => applyLineSetting pins l u (e i)) s).interior =
      (relined l (linesAfter pins e (s.lane l) j) ((List.range j).any (setsSpare pins e (s.lane l))) s).interior := by
  induction j with
  | zero => rw [linesAfter_zero]; exact congrArg State.interior (relined_self l s).symm
  | succ j ih =>
    obtain ⟨n, line⟩ := named j most
    have before := ih (Nat.le_of_succ_le most)
    set u := (List.range j).foldl (fun u i => applyLineSetting pins l u (e i)) s with hu
    have lane : u.lane l = { s.lane l with lines := linesAfter pins e (s.lane l) j } := lane_of_relined before
    have stands : (u.lane l).line n = lineAfter pins e (s.lane l) n j := by
      rw [lane]
      simp [Lane.line, linesAfter]
    rw [List.range_succ, List.foldl_append, ← hu, List.foldl_cons, List.foldl_nil, interior_applyLineSetting line, stands,
      lane, interior_relined_congr before, relined_relined, linesAfter_succ pins e _ line, List.any_append, List.any_cons,
      List.any_nil, Bool.or_false, setsSpare_of_line pins e _ line, lineAfter_succ, if_pos line]

end

/-! ### The obligation -/

theorem flagByte_le_one (v : Bool) : flagByte v ≤ 1 := by cases v <;> decide

theorem flagByte_eq_one (v : Bool) : decide (flagByte v = 1) = v := by cases v <;> rfl

section
variable {s : State} {d : Directive} {l : Fin 8} {pins : BitVec 8} (waits : waiting .linesSet d s)
include waits

/-- R72: an accepted LINES_SET leaves what its entries make of the lane, one after another. -/
theorem linesSet_answers {k : Nat} (low : 1 ≤ k) (high : k ≤ 8) (named : names d (2 + 5 * k) l.val)
    (counted : rd d.params 1 1 = k) (admitted : ∀ i, i < k → ∃ n : Fin 8, (lineSettingAt d.params i).line = n.val ∧
      (lineSettingAt d.params i).Admitted (s.lane l).state ((s.lane l).line n)) :
    ∃ t, exec (.linesSet pins) s = .next t ∧ answered d .ok [] s t ∧
      t.interior = ((List.range k).foldl (fun u i => applyLineSetting pins l u (lineSettingAt d.params i))
        s.dequeued).interior := by
  obtain ⟨length, lane⟩ := named
  subst counted
  exact runDirective_keeps waits (linesSet_of_admitted low high length lane (u := s.dequeued) admitted)
    (keepsReplies_foldl (fun u i => keepsReplies_applyLineSetting pins l u _) _ _)

section
variable {n : Fin 8} {v : Bool} (named : names d 7 l.val) (counted : rd d.params 1 1 = 1)
  (line : rd d.params 2 1 = n.val) (parts : rd d.params 3 1 = 2) (latch : rd d.params 5 1 = flagByte v)
include named counted line parts latch

/-- R72: one entry that gives a latch alone. -/
theorem linesSet_latches (admits : ((s.lane l).line n).role = .spare ∨
      (((s.lane l).line n).role.isDrive = true ∧ (s.lane l).state = .manual)) :
    ∃ t, exec (.linesSet pins) s = .next t ∧ answered d .ok [] s t ∧
      t.interior = (s.modLane l (fun x => x.setLine n { x.line n with latch := v })).interior := by
  have defined : (lineSettingAt d.params 0).latch ≤ 1 := latch.trans_le (flagByte_le_one v)
  obtain ⟨noDirection, noMode, -⟩ := LineSetting.holds_latch_alone (e := lineSettingAt d.params 0) parts
  have admitted : (lineSettingAt d.params 0).Admitted (s.lane l).state ((s.lane l).line n) :=
    { spare := by simp [noDirection, noMode]
      direction := by simp [noDirection]
      mode := by simp [noMode]
      latch := fun _ => ⟨defined, admits⟩ }
  obtain ⟨t, run, reply, left⟩ := linesSet_answers (pins := pins) waits le_rfl (by decide) named counted
    (fun i listed => by rw [Nat.lt_one_iff.mp listed]; exact ⟨n, line, admitted⟩)
  refine ⟨t, run, reply, left.trans ?_⟩
  rw [List.range_one, List.foldl_cons, List.foldl_nil, applyLineSetting_of_latch line parts defined,
    show (lineSettingAt d.params 0).latch = flagByte v from latch, flagByte_eq_one]
  rfl

/-- R72: the latch of a drive-role line outside MANUAL. -/
theorem linesSet_bars (drive : ((s.lane l).line n).role.isDrive = true) (running : (s.lane l).state ≠ .manual) :
    ∃ t, exec (.linesSet pins) s = .next t ∧ answered d .state [] s t ∧ t.interior = s.interior := by
  obtain ⟨length, lane⟩ := named
  have defined : (lineSettingAt d.params 0).latch ≤ 1 := latch.trans_le (flagByte_le_one v)
  obtain ⟨noDirection, noMode, held⟩ := LineSetting.holds_latch_alone (e := lineSettingAt d.params 0) parts
  have inside : (lineSettingAt d.params 0).inRange (s.lane l) = true :=
    LineSetting.inRange_of_parts line (by simp [noDirection, noMode]) (by simp [noDirection]) (by simp [noMode])
      (fun _ => ⟨defined, .inr drive⟩)
  have barred : (lineSettingAt d.params 0).latchBarred (s.lane l) = true := by
    rw [LineSetting.latchBarred_of_line line]
    simp [held, drive, running]
  refine runDirective_refuses waits (linesSet_of_barred (u := s.dequeued) (i := 0) counted.ge (by omega) (by omega) lane
    (fun i listed => ?_) (by omega) barred)
  rw [show i = 0 by omega]
  exact inside

end

end

/-- Settles O20: the checks in their order; the entries one after another by induction on their number. -/
theorem linesSetWritesLatch : Obligations.LinesSetWritesLatch := by
  refine ⟨fun s d l n v pins waits named counted line parts latch =>
      ⟨linesSet_latches waits named counted line parts latch, linesSet_bars waits named counted line parts latch⟩,
    fun s d pins waits => ?_, fun s d l k pins waits low high named counted => ?_⟩
  · intro count refused
    exact ⟨fun short => runDirective_refuses waits (linesSet_of_short short),
      fun long outside => runDirective_refuses waits (linesSet_of_count long outside),
      fun low high other => runDirective_refuses waits (linesSet_of_length low high other),
      fun low high length above => runDirective_refuses waits (linesSet_of_no_lane low high length above)⟩
  · intro line part direction latch mode valid store after
    set e := lineSettingAt d.params
    have admitted (i : Nat) (listed : i < k) : ∃ n : Fin 8, (e i).line = n.val ∧
        (e i).Admitted (s.lane l).state ((s.lane l).line n) := by
      obtain ⟨n, named, spare, direction, mode, latch⟩ := valid i listed
      exact ⟨n, named, fun held => spare held, direction, mode, latch⟩
    have same (n : Fin 8) {j : Nat} (most : j ≤ k) : lineAfter pins e (s.lane l) n j = after n j := by
      refine List.foldl_ext _ _ _ fun q i listed => ?_
      obtain ⟨m, -, parts⟩ := admitted i ((List.mem_range.mp (List.mem_filter.mp listed).1).trans_le most)
      exact Line.set_of_defined parts.direction (fun held => (parts.latch held).1) parts.mode pins n.val q
    obtain ⟨t, run, reply, left⟩ := linesSet_answers (pins := pins) waits low high named counted admitted
    replace left : t.interior =
        (relined l (linesAfter pins e (s.lane l) k) ((List.range k).any (setsSpare pins e (s.lane l))) s).interior :=
      left.trans (interior_foldl_applyLineSetting pins e (fun i listed => (admitted i listed).imp fun _ => And.left) l
        s.dequeued le_rfl)
    refine ⟨t, run, reply, fun n => ?_, ?_, fun f => flag_other_of_relined left, by rw [lane_of_relined left],
      fun m => lane_other_of_relined left, interior_of_relined left⟩
    · rw [lane_of_relined left, ← same n le_rfl]
      simp [Lane.line, linesAfter]
    · rw [flag_spare_of_relined left, Bool.or_eq_true, List.any_eq_true]
      refine or_congr_right ⟨?_, ?_⟩
      · rintro ⟨i, listed, sets⟩
        rw [List.mem_range] at listed
        obtain ⟨n, named, parts, active⟩ := (setsSpare_iff pins e (s.lane l) i).mp sets
        rw [same n listed, Line.levelSpareActive_iff] at active
        exact ⟨i, n, listed, named, parts, active⟩
      · rintro ⟨i, n, listed, named, parts, active⟩
        rw [← same n listed, ← Line.levelSpareActive_iff] at active
        exact ⟨i, List.mem_range.mpr listed, (setsSpare_iff pins e (s.lane l) i).mpr ⟨n, named, parts, active⟩⟩

end Sys2Proof.Machine
end

section
/-!
PROOF. The page store's counts and its DRAM: the parts of the state they rest on, what files a strip (R90, R98), and the
moves that change them, each of which keeps the store balanced and the DRAM in its canonical form (R93, R95, R102).
-/

namespace Sys2Proof.Machine

/-! ### The parts of the state that the page store rests on -/

/-- A record's part in the page store: its tag, its reserve, and the number of its strips (R93, R102). -/
def Sheet.stock (r : Sheet) : Tag × Nat × Nat := (r.tag, r.reserve, r.front.length + r.back.length)

/-- What the store's balance and its DRAM rest on (R93). -/
def State.store (s : State) : List (Tag × Nat × Nat) × Nat × Nat × Nat × List Host.Cell :=
  (s.sheets.map Sheet.stock, s.free, s.reserved, s.allocated, s.dram)

theorem store_of_interior {s t : State} (h : s.interior = t.interior) : s.store = t.store :=
  eq_of_interior State.store (fun _ => rfl) h

/-- An update of records that leaves their part in the store. -/
theorem store_modSheet (s : State) (g : Tag) {f : Sheet → Sheet} (hf : ∀ q, (f q).stock = q.stock) :
    (s.modSheet g f).store = s.store := by
  have stocks : (s.modSheet g f).sheets.map Sheet.stock = s.sheets.map Sheet.stock := by
    simp only [State.modSheet, List.map_map]
    refine List.map_congr_left fun q _ => ?_
    simp only [Function.comp]
    split
    · exact hf q
    · rfl
  exact congrArg (fun x => (x, s.free, s.reserved, s.allocated, s.dram)) stocks

theorem storeBalanced_of_store {s t : State} (same : t.store = s.store) (h : storeBalanced s) : storeBalanced t := by
  have reserves : ∀ u : State, u.sheets.map Sheet.reserve = (u.sheets.map Sheet.stock).map (fun x => x.2.1) :=
    fun u => by rw [List.map_map]; rfl
  have strips : ∀ u : State, u.sheets.map (fun r => r.front.length + r.back.length) =
      (u.sheets.map Sheet.stock).map (fun x => x.2.2) := fun u => by rw [List.map_map]; rfl
  have tags : ∀ u : State, u.sheets.map Sheet.tag = (u.sheets.map Sheet.stock).map (fun x => x.1) :=
    fun u => by rw [List.map_map]; rfl
  simp only [State.store, Prod.mk.injEq] at same
  obtain ⟨stocks, free, reserved, allocated, -⟩ := same
  unfold storeBalanced at *
  rw [reserves, strips, tags] at h ⊢
  rwa [stocks, free, reserved, allocated]

theorem dram_of_store {s t : State} (same : t.store = s.store) : t.dram = s.dram :=
  congrArg (fun x => x.2.2.2.2) same

/-! ### A strip filed (R90, R98) -/

/-- One block drawn for sheet `r`, from its reserve or else from the free pool, where it can set STORE_LOW (R90, R98). -/
def blockDrawn (r : Sheet) (s : State) : State :=
  if 0 < r.reserve then
    ({ s with reserved := s.reserved - 1, allocated := s.allocated + 1 } : State).modSheet r.tag
      (fun q => { q with reserve := q.reserve - 1 })
  else lowered 1 { s with allocated := s.allocated + 1 }

/-- A payload written to block `b`, which joins a side of sheet `g` (R90, R93). -/
def blockFilled (b : Nat) (g : Tag) (side : Side) (last : Bool) (payload : List Byte) (s : State) : State :=
  ({ s with
    dram := writeBytes s.dram (b * blockBytes) payload
    directory := insertDir ⟨b, g, payload.length⟩ s.directory } : State).modSheet g (Sheet.addStrip side b last)

/-- A strip of sheet `r` filed in the lowest empty block (R90). -/
def stripFiled (r : Sheet) (side : Side) (last : Bool) (payload : List Byte) (s : State) : State :=
  blockFilled (lowestEmpty 0 s.directory) r.tag side last payload (blockDrawn r s)

theorem blockSource_eq_nowhere_iff (s : State) (r : Sheet) : blockSource s r = .nowhere ↔ r.reserve = 0 ∧ s.free = 0 := by
  unfold blockSource
  split
  · simp; omega
  · split
    · simp; omega
    · simp; omega

theorem interior_takeBlock {s : State} {r : Sheet} (source : blockSource s r ≠ .nowhere) :
    (takeBlock (blockSource s r) r.tag s).interior = (blockDrawn r s).interior := by
  unfold blockSource at *
  unfold blockDrawn
  split
  case isTrue => rfl
  case isFalse none =>
    rw [if_neg none] at source
    split
    case isTrue => exact interior_lowerFree 1 _
    case isFalse empty => exact absurd (if_neg empty) source

theorem interior_fileStrip {s : State} {r : Sheet} (source : blockSource s r ≠ .nowhere) (side : Side) (last : Bool)
    (payload : List Byte) :
    (fileStrip (blockSource s r) r.tag side last payload s).interior = (stripFiled r side last payload s).interior :=
  interior_update_congr (blockFilled (lowestEmpty 0 s.directory) r.tag side last payload) (fun _ => rfl)
    (interior_takeBlock source)

theorem Sheet.addStrip_tag (side : Side) (b : Nat) (last : Bool) (r : Sheet) : (r.addStrip side b last).tag = r.tag := by
  cases side <;> rfl

theorem Sheet.addStrip_reserve (side : Side) (b : Nat) (last : Bool) (r : Sheet) :
    (r.addStrip side b last).reserve = r.reserve := by
  cases side <;> rfl

theorem Sheet.addStrip_strips (side : Side) (b : Nat) (last : Bool) (r : Sheet) :
    (r.addStrip side b last).front.length + (r.addStrip side b last).back.length =
      r.front.length + r.back.length + 1 := by
  cases side <;> simp [Sheet.addStrip] <;> omega

/-- Sheet `q` with the strip and, where the block came from its reserve, with one block less there (R90). -/
def Sheet.withStrip (fromReserve : Bool) (side : Side) (b : Nat) (last : Bool) (q : Sheet) : Sheet :=
  Sheet.addStrip side b last (if fromReserve then { q with reserve := q.reserve - 1 } else q)

theorem Sheet.withStrip_tag (fromReserve : Bool) (side : Side) (b : Nat) (last : Bool) (q : Sheet) :
    (q.withStrip fromReserve side b last).tag = q.tag := by
  unfold Sheet.withStrip
  rw [Sheet.addStrip_tag]
  split <;> rfl

theorem Sheet.withStrip_reserve (fromReserve : Bool) (side : Side) (b : Nat) (last : Bool) (q : Sheet) :
    (q.withStrip fromReserve side b last).reserve = if fromReserve then q.reserve - 1 else q.reserve := by
  unfold Sheet.withStrip
  rw [Sheet.addStrip_reserve]
  split <;> rfl

theorem Sheet.withStrip_strips (fromReserve : Bool) (side : Side) (b : Nat) (last : Bool) (q : Sheet) :
    (q.withStrip fromReserve side b last).front.length + (q.withStrip fromReserve side b last).back.length =
      q.front.length + q.back.length + 1 := by
  unfold Sheet.withStrip
  rw [Sheet.addStrip_strips]
  split <;> rfl

theorem sheets_stripFiled (r : Sheet) (side : Side) (last : Bool) (payload : List Byte) (s : State) :
    (stripFiled r side last payload s).sheets = (s.modSheet r.tag
      (Sheet.withStrip (decide (0 < r.reserve)) side (lowestEmpty 0 s.directory) last)).sheets := by
  unfold stripFiled blockFilled blockDrawn
  split
  case isTrue some =>
    rw [decide_eq_true some]
    change ((s.modSheet r.tag (fun q => { q with reserve := q.reserve - 1 })).modSheet r.tag
      (Sheet.addStrip side (lowestEmpty 0 s.directory) last)).sheets = _
    rw [State.modSheet_modSheet s r.tag _ _ (fun _ => by rfl)]
    rfl
  case isFalse none =>
    rw [decide_eq_false none]
    rfl

theorem free_stripFiled (r : Sheet) (side : Side) (last : Bool) (payload : List Byte) (s : State) :
    (stripFiled r side last payload s).free = if 0 < r.reserve then s.free else s.free - 1 := by
  unfold stripFiled blockFilled blockDrawn
  split <;> rfl

theorem reserved_stripFiled (r : Sheet) (side : Side) (last : Bool) (payload : List Byte) (s : State) :
    (stripFiled r side last payload s).reserved = if 0 < r.reserve then s.reserved - 1 else s.reserved := by
  unfold stripFiled blockFilled blockDrawn
  split <;> rfl

theorem allocated_stripFiled (r : Sheet) (side : Side) (last : Bool) (payload : List Byte) (s : State) :
    (stripFiled r side last payload s).allocated = s.allocated + 1 := by
  unfold stripFiled blockFilled blockDrawn
  split <;> rfl

theorem dram_stripFiled (r : Sheet) (side : Side) (last : Bool) (payload : List Byte) (s : State) :
    (stripFiled r side last payload s).dram =
      writeBytes s.dram (lowestEmpty 0 s.directory * blockBytes) payload := by
  unfold stripFiled blockFilled blockDrawn
  split <;> rfl

theorem directory_stripFiled (r : Sheet) (side : Side) (last : Bool) (payload : List Byte) (s : State) :
    (stripFiled r side last payload s).directory =
      insertDir ⟨lowestEmpty 0 s.directory, r.tag, payload.length⟩ s.directory := by
  unfold stripFiled blockFilled blockDrawn
  split <;> rfl

/-! ### Moves of the page store -/

/-- From `s` to `t` the page store has only had records freed, reserves returned, records created with a reserve while the
table and the free blocks have room for both, strips of live records filed, and the whole store emptied. -/
inductive StoreMoves (s : State) : State → Prop
  | refl : StoreMoves s s
  | same {t u : State} (h : StoreMoves s t) (store : u.store = t.store) : StoreMoves s u
  | freed {t : State} (h : StoreMoves s t) (g : Tag) : StoreMoves s (freeRecord g t)
  | returned {t : State} (h : StoreMoves s t) (g : Tag) : StoreMoves s (returnReserve g t)
  | created {t : State} (h : StoreMoves s t) (l : Fin 8) (batch : Nat) (state : SheetState) (f : Findings) (n : Nat)
      (room : tableHasRoom t = true) (fits : n ≤ t.free) : StoreMoves s (createSheet l batch state f n t)
  | filed {t : State} (h : StoreMoves s t) {g : Tag} {r : Sheet} (found : t.sheet? g = some r) (side : Side)
      (last : Bool) (payload : List Byte) (source : blockSource t r ≠ .nowhere) :
      StoreMoves s (fileStrip (blockSource t r) r.tag side last payload t)
  | emptied {t u : State} (h : StoreMoves s t) (dram : u.dram = t.dram ∨ u.dram = [])
      (store : u.store = ([], 4096, 0, 0, u.dram)) : StoreMoves s u

theorem StoreMoves.of_store {s t : State} (store : t.store = s.store) : StoreMoves s t := .same .refl store

theorem StoreMoves.trans {s t u : State} (h : StoreMoves s t) (k : StoreMoves t u) : StoreMoves s u := by
  induction k with
  | refl => exact h
  | same _ store ih => exact ih.same store
  | freed _ g ih => exact ih.freed g
  | returned _ g ih => exact ih.returned g
  | created _ l batch state f n room fits ih => exact ih.created l batch state f n room fits
  | filed _ found side last payload source ih => exact ih.filed found side last payload source
  | emptied _ dram store ih => exact ih.emptied dram store

/-! ### The canonical form of the DRAM -/

theorem store_createSheet (l : Fin 8) (batch : Nat) (state : SheetState) (f : Findings) (n : Nat) (s : State) :
    (createSheet l batch state f n s).store = ((s.sheets ++ [Sheet.create (freshTag s l) batch state f n]).map
      Sheet.stock, s.free - n, s.reserved + n, s.allocated, s.dram) :=
  store_of_interior (t := recordAdded l batch state f n s) (interior_createSheet l batch state f n s)

theorem dram_freeRecord (g : Tag) (s : State) : (freeRecord g s).dram = s.dram := by
  unfold freeRecord
  split <;> rfl

theorem dram_returnReserve (g : Tag) (s : State) : (returnReserve g s).dram = s.dram := by
  unfold returnReserve
  split <;> rfl

/-- Only a filed strip writes to the DRAM, and a write keeps the canonical form. -/
theorem memoryWf_of_storeMoves {s t : State} (moves : StoreMoves s t) (h : Memory.wf s.dram) : Memory.wf t.dram := by
  induction moves with
  | refl => exact h
  | same _ store ih => rwa [dram_of_store store]
  | freed _ g ih => rwa [dram_freeRecord]
  | returned _ g ih => rwa [dram_returnReserve]
  | @created t _ l batch state f n _ _ ih =>
    rwa [show (createSheet l batch state f n t).dram = t.dram from
      congrArg (fun x => x.2.2.2.2) (store_createSheet l batch state f n t)]
  | @filed t _ g r _ side last payload source ih =>
    rw [dram_of_store (store_of_interior (interior_fileStrip source side last payload)), dram_stripFiled]
    exact writeBytes_wf ih _ _
  | emptied _ dram _ ih =>
    rcases dram with same | empty
    · rwa [same]
    · rw [empty]
      exact ⟨List.Pairwise.nil, fun c hc => absurd hc List.not_mem_nil⟩

/-! ### The balance of the store (R93, R95) -/

section
variable {s t : State} {g : Tag} {r : Sheet}

/-- The records under other tags. -/
def State.others (s : State) (g : Tag) : List Sheet := s.sheets.filter (fun q => decide (q.tag ≠ g))

/-- R102: with distinct tags, a live record stands once beside the others. -/
theorem sheets_perm_of_sheet? (distinct : (s.sheets.map Sheet.tag).Nodup) (found : s.sheet? g = some r) :
    s.sheets.Perm (r :: s.others g) := by
  unfold State.others
  unfold State.sheet? at found
  revert distinct found
  induction s.sheets with
  | nil => simp
  | cons q rest ih =>
    intro distinct found
    rw [List.map_cons, List.nodup_cons] at distinct
    obtain ⟨alone, distinct⟩ := distinct
    by_cases own : q.tag = g
    · rw [List.find?_cons_of_pos (by simpa using own)] at found
      cases found
      have others : rest.filter (fun x => decide (x.tag ≠ g)) = rest := by
        refine List.filter_eq_self.mpr fun x hx => decide_eq_true fun tag => alone ?_
        rw [own, ← tag]
        exact List.mem_map_of_mem hx
      rw [List.filter_cons_of_neg (by simpa using own), others]
    · rw [List.find?_cons_of_neg (by simpa using own)] at found
      rw [List.filter_cons_of_pos (by simpa using own)]
      exact ((ih distinct found).cons q).trans (.swap r q _)

theorem sheets_modSheet_perm (distinct : (s.sheets.map Sheet.tag).Nodup) (found : s.sheet? g = some r)
    (f : Sheet → Sheet) : (s.modSheet g f).sheets.Perm (f r :: s.others g) := by
  have mapped := (sheets_perm_of_sheet? distinct found).map (fun q => if q.tag = g then f q else q)
  have others : (s.others g).map (fun q => if q.tag = g then f q else q) = s.others g := by
    refine (List.map_congr_left fun q hq => ?_).trans (List.map_id _)
    exact if_neg (of_decide_eq_true (List.mem_filter.mp hq).2)
  rwa [List.map_cons, others, if_pos (State.tag_of_sheet? found)] at mapped

/-- R93: what a live record holds is counted. -/
theorem stock_le_of_balanced (h : storeBalanced s) (found : s.sheet? g = some r) :
    r.reserve ≤ s.reserved ∧ r.front.length + r.back.length ≤ s.allocated := by
  obtain ⟨-, reserved, allocated, -⟩ := h
  have live : r ∈ s.sheets := List.mem_of_find?_eq_some found
  rw [reserved, allocated]
  exact ⟨List.single_le_sum (fun _ _ => Nat.zero_le _) _ (List.mem_map_of_mem live),
    List.single_le_sum (fun _ _ => Nat.zero_le _) _
      (List.mem_map_of_mem (f := fun q : Sheet => q.front.length + q.back.length) live)⟩

/-- R93: the balance is kept where records `xs`, none or one under the same tag, take a record's place and the counts
change by what they hold more or less. -/
theorem storeBalanced_of_replaced (h : storeBalanced s) (found : s.sheet? g = some r) {xs : List Sheet}
    (sheets : t.sheets.Perm (xs ++ s.others g)) (tags : (xs.map Sheet.tag).Sublist [g])
    (total : t.free + t.reserved + t.allocated = s.free + s.reserved + s.allocated)
    (reserved : t.reserved + r.reserve = s.reserved + (xs.map Sheet.reserve).sum)
    (allocated : t.allocated + (r.front.length + r.back.length) =
      s.allocated + (xs.map (fun q => q.front.length + q.back.length)).sum) : storeBalanced t := by
  obtain ⟨sum, wasReserved, wasAllocated, distinct⟩ := h
  have before := sheets_perm_of_sheet? distinct found
  have tag := State.tag_of_sheet? found
  rw [(before.map _).sum_eq, List.map_cons, List.sum_cons] at wasReserved wasAllocated
  refine ⟨total.trans sum, ?_, ?_, ?_⟩
  · rw [(sheets.map _).sum_eq, List.map_append, List.sum_append]
    omega
  · rw [(sheets.map _).sum_eq, List.map_append, List.sum_append]
    omega
  · rw [(before.map _).nodup_iff, List.map_cons, tag] at distinct
    rw [(sheets.map _).nodup_iff, List.map_append]
    exact distinct.sublist (tags.append (.refl _))

theorem storeBalanced_freeRecord (g : Tag) (h : storeBalanced s) : storeBalanced (freeRecord g s) := by
  cases found : s.sheet? g with
  | none => rwa [freeRecord_of_absent found]
  | some r =>
    obtain ⟨reserve, strips⟩ := stock_le_of_balanced h found
    unfold freeRecord
    rw [found]
    refine storeBalanced_of_replaced h found (xs := []) (.refl _) (List.nil_sublist _) ?_ ?_ ?_
    · dsimp only
      rw [List.length_append]
      omega
    · simp only [List.map_nil, List.sum_nil]
      omega
    · simp only [List.map_nil, List.sum_nil]
      rw [List.length_append]
      omega

theorem storeBalanced_returnReserve (g : Tag) (h : storeBalanced s) : storeBalanced (returnReserve g s) := by
  unfold returnReserve
  split
  · exact h
  next r found =>
    obtain ⟨reserve, -⟩ := stock_le_of_balanced h found
    have own : r.tag = g := State.tag_of_sheet? found
    refine storeBalanced_of_replaced h found (xs := [{ r with reserve := 0 }])
      (sheets_modSheet_perm h.2.2.2 found _) (by simp [own]) ?_ ?_ ?_
    · simp only [State.modSheet_free, State.modSheet_reserved, State.modSheet_allocated]
      omega
    · simp only [State.modSheet_reserved, List.map_cons, List.map_nil, List.sum_cons, List.sum_nil]
      omega
    · simp

/-- R94, R102: a new record takes a tag of its own, and its reserve from the free blocks. -/
theorem storeBalanced_createSheet (l : Fin 8) (batch : Nat) (state : SheetState) (f : Findings) {n : Nat}
    (room : tableHasRoom s = true) (fits : n ≤ s.free) (h : storeBalanced s) :
    storeBalanced (createSheet l batch state f n s) := by
  obtain ⟨sum, reserved, allocated, distinct⟩ := h
  have few : s.sheets.length < 128 := of_decide_eq_true room
  refine storeBalanced_of_store (s := recordAdded l batch state f n s)
    (store_of_interior (interior_createSheet l batch state f n s)) ⟨?_, ?_, ?_, ?_⟩
  · change s.free - n + (s.reserved + n) + s.allocated = 4096
    omega
  · change s.reserved + n = ((s.sheets ++ [Sheet.create (freshTag s l) batch state f n]).map Sheet.reserve).sum
    rw [reserved]
    simp [Sheet.create]
  · change s.allocated = ((s.sheets ++ [Sheet.create (freshTag s l) batch state f n]).map _).sum
    rw [allocated]
    simp [Sheet.create]
  · change ((s.sheets ++ [Sheet.create (freshTag s l) batch state f n]).map Sheet.tag).Nodup
    have absent := freshTag_absent l few
    unfold State.sheet? at absent
    rw [List.map_append, List.nodup_append]
    refine ⟨distinct, by simp, fun a ha b hb same => ?_⟩
    obtain ⟨q, hq, rfl⟩ := List.mem_map.mp ha
    have fresh : b = freshTag s l := by simpa [Sheet.create] using hb
    exact of_decide_eq_false (Bool.eq_false_iff.mpr (List.find?_eq_none.mp absent q hq)) (same.trans fresh)

/-- R90, R93: a strip's block is counted once, and once less where it was drawn. -/
theorem storeBalanced_fileStrip (found : s.sheet? g = some r) (side : Side) (last : Bool) (payload : List Byte)
    (source : blockSource s r ≠ .nowhere) (h : storeBalanced s) :
    storeBalanced (fileStrip (blockSource s r) r.tag side last payload s) := by
  obtain ⟨reserve, -⟩ := stock_le_of_balanced h found
  have own : r.tag = g := State.tag_of_sheet? found
  have drawn : ¬ (r.reserve = 0 ∧ s.free = 0) := fun empty => source ((blockSource_eq_nowhere_iff s r).mpr empty)
  refine storeBalanced_of_store (store_of_interior (interior_fileStrip source side last payload)) ?_
  refine storeBalanced_of_replaced h found
    (xs := [r.withStrip (decide (0 < r.reserve)) side (lowestEmpty 0 s.directory) last]) ?_ ?_ ?_ ?_ ?_
  · rw [sheets_stripFiled, own]
    exact sheets_modSheet_perm h.2.2.2 found _
  · simp [Sheet.withStrip_tag, own]
  · rw [free_stripFiled, reserved_stripFiled, allocated_stripFiled]
    split <;> omega
  · rw [reserved_stripFiled]
    simp only [List.map_cons, List.map_nil, List.sum_cons, List.sum_nil, Sheet.withStrip_reserve, decide_eq_true_eq]
    split <;> omega
  · rw [allocated_stripFiled]
    simp only [List.map_cons, List.map_nil, List.sum_cons, List.sum_nil, Sheet.withStrip_strips]
    omega

theorem storeBalanced_of_storeMoves (moves : StoreMoves s t) (h : storeBalanced s) : storeBalanced t := by
  induction moves with
  | refl => exact h
  | same _ store ih => exact storeBalanced_of_store store ih
  | freed _ g ih => exact storeBalanced_freeRecord g ih
  | returned _ g ih => exact storeBalanced_returnReserve g ih
  | created _ l batch state f n room fits ih => exact storeBalanced_createSheet l batch state f room fits ih
  | filed _ found side last payload source ih => exact storeBalanced_fileStrip found side last payload source ih
  | @emptied t u _ _ store ih =>
    have empty : storeBalanced { u with sheets := [], free := 4096, reserved := 0, allocated := 0 } :=
      ⟨rfl, rfl, rfl, List.nodup_nil⟩
    exact storeBalanced_of_store (s := { u with sheets := [], free := 4096, reserved := 0, allocated := 0 }) store empty

end

end Sys2Proof.Machine
end

section
/-!
PROOF. The page store under the operations of settlement, the feed sequencer, the lane link and the ports: first those that
leave it, then those that move it (R90, R94, R95, R124).
-/

namespace Sys2Proof.Machine

/-! ### Operations that leave the store -/

@[simp] theorem store_raise (f : Flag) (s : State) : (raise f s).store = s.store :=
  store_of_interior (t := s.setFlag f true) (interior_raise f s)

@[simp] theorem store_kickPorts (s : State) : (kickPorts s).store = s.store := store_of_interior (interior_kickPorts s)

@[simp] theorem store_boundary (p : Port) (s : State) : (boundary p s).store = s.store :=
  store_of_interior (interior_boundary p s)

@[simp] theorem store_placePendingLost (s : State) : (placePendingLost s).store = s.store :=
  store_of_interior (interior_placePendingLost s)

@[simp] theorem store_modPort (s : State) (p : Port) (f : PortState → PortState) : (s.modPort p f).store = s.store := by
  cases p <;> rfl

@[simp] theorem store_setLane (s : State) (l : Fin 8) (x : Lane) : (s.setLane l x).store = s.store := rfl

@[simp] theorem store_modLane (s : State) (l : Fin 8) (f : Lane → Lane) : (s.modLane l f).store = s.store := rfl

@[simp] theorem store_modBatch (s : State) (id : Nat) (f : Batch → Batch) : (s.modBatch id f).store = s.store := rfl

@[simp] theorem store_modDest (s : State) (d : Fin 16) (f : Dest → Dest) : (s.modDest d f).store = s.store := rfl

@[simp] theorem store_modProfile (s : State) (i : Fin 16) (f : Profile → Profile) :
    (s.modProfile i f).store = s.store := rfl

theorem store_listed (s : State) (held : List HeldEntry) : ({ s with held := held } : State).store = s.store := rfl

/-- What each item's handling leaves of the store, the handling of a list of items leaves. -/
theorem store_foldl {α : Type} {f : State → α → State} (h : ∀ u x, (f u x).store = u.store) (xs : List α) (s : State) :
    (xs.foldl f s).store = s.store := by
  induction xs generalizing s with
  | nil => rfl
  | cons x rest ih => rw [List.foldl_cons, ih, h]

@[simp] theorem store_sendHead (l : Fin 8) (frame : List Byte) (s : State) : (sendHead l frame s).store = s.store := by
  rw [sendHead_eq, store_modLane]

@[simp] theorem store_finishBatch (final : FinalState) (id : Nat) (s : State) :
    (finishBatch final id s).store = s.store := by
  unfold finishBatch
  split
  · rfl
  · exact (store_of_interior (interior_handReport _ _)).trans rfl

@[simp] theorem store_testClosure (id : Nat) (s : State) : (testClosure id s).store = s.store := by
  unfold testClosure
  split
  · rfl
  · split
    · exact store_finishBatch _ id s
    · rfl

@[simp] theorem store_testAbort (id : Nat) (s : State) : (testAbort id s).store = s.store := by
  unfold testAbort
  split
  · rfl
  · split
    · exact store_finishBatch _ id s
    · rfl

@[simp] theorem store_testBatch (id : Nat) (s : State) : (testBatch id s).store = s.store := by
  rw [testBatch, store_testAbort, store_testClosure]

@[simp] theorem store_testBatches (ids : List Nat) (s : State) : (testBatches ids s).store = s.store :=
  store_foldl (fun u id => store_testBatch id u) _ _

@[simp] theorem store_batchLeaves (l : Fin 8) (s : State) : (batchLeaves l s).store = s.store := by
  unfold batchLeaves
  dsimp only
  split
  · rfl
  · split
    · rfl
    · rfl
    · rw [store_testClosure, store_raise, store_modLane, store_modBatch, store_modLane]
    · rw [store_testAbort, store_modLane, store_modLane]

@[simp] theorem store_drainTest (l : Fin 8) (s : State) : (drainTest l s).store = s.store := by
  unfold drainTest
  split
  · rw [store_batchLeaves, store_modLane]
  · rfl

@[simp] theorem store_numberSheet (g : Tag) (s : State) : (numberSheet g s).store = s.store := by
  unfold numberSheet
  split
  · rfl
  · exact (store_modSheet _ g (fun _ => by rfl)).trans (store_modBatch _ _ _)

@[simp] theorem store_halt (l : Fin 8) (why : HaltReason) (s : State) : (halt l why s).store = s.store := by
  unfold halt
  split
  · rw [store_raise, store_modLane]
  · rfl

@[simp] theorem store_endFeeding (l : Fin 8) (s : State) : (endFeeding l s).store = s.store := by
  unfold endFeeding
  dsimp only
  split <;> rfl

@[simp] theorem store_applyMatch (l : Fin 8) (g : Tag) (i : Fin 8) (s : State) :
    (applyMatch l g i s).store = s.store := by
  unfold applyMatch
  split
  · rfl
  · dsimp only
    split
    · exact store_modSheet s g (fun _ => by rfl)
    · rw [store_endFeeding, store_modBatch]
      exact store_modSheet s g (fun _ => by rfl)

@[simp] theorem store_appendEntry (s : State) (e : Fin 16 × DeliveryEntry) : (appendEntry s e).store = s.store := by
  unfold appendEntry
  dsimp only
  split
  · rw [store_raise, store_modDest]
  · rfl

@[simp] theorem store_deliver (g : Tag) (kind : Kind) (es : List (Fin 16 × DeliveryEntry)) (s : State) :
    (deliver g kind es s).store = s.store := by
  unfold deliver
  split
  · rfl
  · rw [store_modBatch]
    exact (store_modSheet _ g (fun _ => by rfl)).trans (store_foldl store_appendEntry es s)

@[simp] theorem store_jamHolder (l : Fin 8) (s : State) : (jamHolder l s).store = s.store := by
  unfold jamHolder
  split
  · rfl
  · refine store_modSheet s _ fun q => ?_
    split <;> rfl

@[simp] theorem store_doubleFeedCheck (l : Fin 8) (g : Tag) (s : State) : (doubleFeedCheck l g s).store = s.store := by
  unfold doubleFeedCheck
  split
  · rfl
  · split
    · dsimp only
      split
      · rw [store_halt, store_raise]
      · exact store_raise _ s
    · rfl

@[simp] theorem store_takeLead (l : Fin 8) (g : Tag) (id : Nat) (s : State) : (takeLead l g id s).store = s.store := by
  have fed : ∀ u : State, u.store = s.store →
      ((sendHead l (announceFrame g) u).modBatch id (fun b => { b with fed := addSat b.fed 1 })).store = s.store :=
    fun u h => by rw [store_modBatch, store_sendHead, h]
  have stamped : (s.modSheet g (fun q => { q with lead := some (s.lane l).counter, state := .inGate })).store = s.store :=
    store_modSheet s g (fun _ => by rfl)
  unfold takeLead
  dsimp only
  split
  · rw [store_endFeeding]
    exact fed _ ((store_modLane _ _ _).trans stamped)
  · exact fed _ ((store_modLane _ _ _).trans stamped)

@[simp] theorem store_trailComputation (l : Fin 8) (r : Sheet) (cap : Tick) (s : State) :
    (trailComputation l r cap s).store = s.store := by
  unfold trailComputation
  dsimp only
  rw [store_modLane, store_modProfile]
  exact store_modSheet s _ (fun _ => by rfl)

@[simp] theorem store_endCurrent (p : Port) (d : Fin 16) (s : State) : (endCurrent p d s).store = s.store := by
  rw [endCurrent, store_modPort, store_modDest]

/-! ### Settlement (R95, R109 to R118, R124) -/

/-- An operation that keeps what moved before it, done for each item of a list. -/
theorem storeMoves_foldl {α : Type} {s t : State} {f : State → α → State}
    (step : ∀ u x, StoreMoves s u → StoreMoves s (f u x)) (xs : List α) (h : StoreMoves s t) :
    StoreMoves s (xs.foldl f t) := by
  induction xs generalizing t with
  | nil => exact h
  | cons x rest ih => exact ih (step t x h)

section
variable {s t : State} (h : StoreMoves s t)
include h

/-- An update of records that leaves their part in the store. -/
theorem storeMoves_modSheet (g : Tag) {f : Sheet → Sheet} (hf : ∀ q, (f q).stock = q.stock) :
    StoreMoves s (t.modSheet g f) := h.same (store_modSheet t g hf)

theorem storeMoves_freePicking (l : Fin 8) : StoreMoves s (freePicking l t) := by
  unfold freePicking
  split
  · exact h
  · exact (h.freed _).same (store_modLane _ _ _)

theorem storeMoves_leaveOrder (l : Fin 8) (g : Tag) : StoreMoves s (leaveOrder l g t) :=
  storeMoves_modSheet ((h.same (store_modLane _ _ _)).returned g) g (fun _ => by rfl)

theorem storeMoves_dropSheet (count : Batch → Batch) (l : Fin 8) (g : Tag) : StoreMoves s (dropSheet count l g t) := by
  unfold dropSheet
  split
  · exact h.same (store_modLane _ _ _)
  next r _ =>
    have counted : StoreMoves s ((leaveOrder l g t).modBatch r.batch (fun b =>
        count { b with settled := addSat b.settled 1 })) := (storeMoves_leaveOrder h l g).same (store_modBatch _ _ _)
    dsimp only
    split
    · exact counted.freed g
    · exact (counted.same (store_sendHead _ _ _)).freed g

theorem storeMoves_settleHeld (l : Fin 8) (g : Tag) : StoreMoves s (settleHeld l g t) := by
  unfold settleHeld
  split
  · exact (storeMoves_dropSheet (h.same (store_numberSheet g t)) _ l g).same (store_raise _ _)
  · split
    · exact h
    next r _ =>
      have counted := (storeMoves_leaveOrder h l g).same (store_modBatch _ r.batch (fun b =>
        { b with settled := addSat b.settled 1, heldNow := addSat b.heldNow 1, holds := addSat b.holds 1 }))
      have marked := storeMoves_modSheet (counted.same (store_numberSheet g _)) g
        (f := fun q => { q with state := .held, outcome := some .held }) (fun _ => by rfl)
      exact ((marked.same (store_listed _ _)).same (store_raise _ _)).same (store_halt _ _ _)

theorem storeMoves_freeIfIdle (g : Tag) (es : List (Fin 16 × DeliveryEntry)) : StoreMoves s (freeIfIdle g es t) := by
  unfold freeIfIdle
  split
  · exact h.freed g
  · exact h

theorem storeMoves_settleReleased (l : Fin 8) (g : Tag) (id : Nat) (kind : Kind) (sep : Option (Fin 8))
    (es : List (Fin 16 × DeliveryEntry)) : StoreMoves s (settleReleased l g id kind sep es t) := by
  have counted : StoreMoves s (countReleased id (deliver g kind es (leaveOrder l g t))) :=
    ((storeMoves_leaveOrder h l g).same (store_deliver g kind es _)).same (store_modBatch _ _ _)
  unfold settleReleased
  dsimp only
  split
  · exact storeMoves_freeIfIdle (counted.same (store_applyMatch _ _ _ _)) g es
  · exact storeMoves_freeIfIdle (counted.same (store_numberSheet _ _)) g es

theorem storeMoves_settleSeparator (l : Fin 8) (g : Tag) (id : Nat) (i : Fin 8) :
    StoreMoves s (settleSeparator l g id i t) :=
  (((storeMoves_leaveOrder h l g).same (store_modBatch _ _ _)).same (store_applyMatch _ _ _ _)).freed g

theorem storeMoves_routeSheet (l : Fin 8) (r : Sheet) (sep : Option (Fin 8)) : StoreMoves s (routeSheet l r sep t) := by
  unfold routeSheet
  dsimp only
  split
  · exact storeMoves_settleHeld (storeMoves_modSheet h r.tag (fun _ => by rfl)) l r.tag
  · split
    · exact storeMoves_settleReleased h l r.tag _ _ _ _
    · exact storeMoves_modSheet h r.tag (fun _ => by rfl)

theorem storeMoves_decideOutcome (l : Fin 8) (r : Sheet) : StoreMoves s (decideOutcome l r t) := by
  unfold decideOutcome
  split
  · exact storeMoves_dropSheet h _ l r.tag
  · split
    · exact storeMoves_dropSheet h _ l r.tag
    · split
      · exact storeMoves_settleHeld h l r.tag
      · split
        · split
          · exact storeMoves_routeSheet h l r _
          · exact storeMoves_settleSeparator h l r.tag _ _
        · exact storeMoves_routeSheet h l r _

theorem storeMoves_settleCursor (l : Fin 8) (g : Tag) : StoreMoves s (settleCursor l g t) := by
  unfold settleCursor
  split
  · exact h.same (store_modLane _ _ _)
  · exact storeMoves_decideOutcome (storeMoves_modSheet h g (fun _ => by rfl)) l _

/-! ### The lane's cursor and what follows an event (R43, R105, R117) -/

theorem storeMoves_poke (l : Fin 8) : StoreMoves s (poke l t) :=
  settleLoop_keeps (StoreMoves s) (fun _ g k _ => storeMoves_settleCursor k l g) _ h

theorem storeMoves_pokeLane (l : Fin 8) : StoreMoves s (pokeLane l t) :=
  (storeMoves_poke h l).same (store_drainTest _ _)

theorem storeMoves_settleLane (l : Fin 8) : StoreMoves s (settleLane l t) := by
  refine StoreMoves.same ?_ (store_drainTest l _)
  unfold examine
  split
  · exact storeMoves_poke h l
  · exact h

theorem storeMoves_addIncomplete (g : Tag) : StoreMoves s (addIncomplete g t) := by
  unfold addIncomplete
  split
  · exact h
  · split
    · exact h
    · have added := storeMoves_modSheet h g
        (f := fun q => { q with findings := { q.findings with incomplete := true } }) (fun _ => by rfl)
      dsimp only
      split
      · exact storeMoves_pokeLane added _
      · exact added

theorem storeMoves_retryWaiting (ds : List (Fin 16)) : StoreMoves s (retryWaiting ds t) :=
  storeMoves_foldl (fun _ l k => storeMoves_pokeLane k l) _ (h.same rfl)

theorem storeMoves_discardHeld (e : HeldEntry) : StoreMoves s (discardHeld e t) := by
  unfold discardHeld
  exact (h.same (by rfl)).freed e.tag

theorem storeMoves_discardBatchHeld (id : Nat) : StoreMoves s (discardBatchHeld id t) :=
  storeMoves_foldl (fun _ e k => storeMoves_discardHeld k e) _ h

theorem storeMoves_lowerPending (g : Tag) : StoreMoves s (lowerPending g t) := by
  unfold lowerPending
  split
  · exact h
  next r _ =>
    have lowered := (storeMoves_modSheet h g (f := fun q => { q with pendingDests := q.pendingDests - 1 })
      (fun _ => by rfl)).same (store_modBatch _ r.batch (fun b => { b with deliveriesPending := b.deliveriesPending - 1 }))
    dsimp only
    split
    · exact lowered.freed g
    · exact lowered

theorem storeMoves_removeUndelivered (d : Fin 16) (e : DeliveryEntry) : StoreMoves s (removeUndelivered d t e) :=
  storeMoves_lowerPending (h.same (store_modDest _ _ _)) e.sheet

theorem storeMoves_afterDrop (d : Fin 16) (ids : List Nat) : StoreMoves s (afterDrop d ids t) :=
  (storeMoves_retryWaiting (h.same (store_raise _ _)) _).same (store_testBatches ids _)

/-! ### The feed sequencer (R41, R48, R49, R51, R52) -/

theorem storeMoves_jam (l : Fin 8) (why : JamReason) : StoreMoves s (jam l why t) := by
  unfold jam
  split
  · have freed := storeMoves_freePicking ((h.same (store_modLane _ l (Lane.jamLines why))).same
      (store_raise (.lane l .jam) _)) l
    exact storeMoves_pokeLane ((freed.same (store_jamHolder l _)).same (store_modLane _ _ _)) l
  · exact h

theorem storeMoves_feedingWindow (l : Fin 8) : StoreMoves s (feedingWindow l t) := by
  have freed := storeMoves_freePicking h l
  have ended := (freed.same (store_endFeeding l _)).same (store_drainTest l _)
  unfold feedingWindow
  dsimp only
  split
  · split
    · split
      · exact ended
      · exact freed.same (store_halt _ _ _)
    · split
      · exact ended
      · exact freed.same (store_halt _ _ _)
  · split
    · split
      · exact h
      · exact (storeMoves_modSheet h _ (fun _ => by rfl)).same (store_modLane _ _ _)
    · exact (freed.same (store_raise _ _)).same (store_halt _ _ _)

/-- R46, R48: a pick is made only with a free record and the lane's reserve free. -/
theorem storeMoves_makePick {l : Fin 8} (can : canPick t l = true) : StoreMoves s (makePick l t) := by
  unfold canPick at can
  simp only [Bool.and_eq_true] at can
  obtain ⟨⟨-, room⟩, fits⟩ := can
  unfold makePick
  split
  · exact h
  · exact (h.created l _ _ _ _ room (of_decide_eq_true fits)).same (store_modLane _ _ _)

/-- R52: an unexpected lead's record takes a reserve only where it is free. -/
theorem storeMoves_unexpectedLead (l : Fin 8) : StoreMoves s (unexpectedLead l t) := by
  unfold unexpectedLead
  split
  · exact storeMoves_jam h l _
  · split
    next id _ room =>
      have fits : (if reserveFits t l then (t.lane l).config.reserve else 0) ≤ t.free := by
        split
        next fits => exact of_decide_eq_true fits
        next => exact Nat.zero_le _
      have created := h.created l id .inGate { Findings.empty with unexpected := true } _ room fits
      exact storeMoves_settleLane ((created.same (store_takeLead l _ id _)).same (store_doubleFeedCheck l _ _)) l
    next => exact h.same (store_halt _ _ _)

theorem storeMoves_attributeLead (l : Fin 8) : StoreMoves s (attributeLead l t) := by
  unfold attributeLead
  dsimp only
  split
  · exact storeMoves_jam h l _
  · split
    · exact storeMoves_settleLane ((h.same (store_modLane _ _ _)).same (store_takeLead l _ _ _)) l
    · exact storeMoves_unexpectedLead h l

/-! ### Edges and the lane link -/

theorem storeMoves_attributeTrail (l : Fin 8) (g : Tag) : StoreMoves s (attributeTrail l g t) := by
  have taken : StoreMoves s (t.modLane l (Lane.takeTrail g)) := h.same (store_modLane _ _ _)
  unfold attributeTrail
  dsimp only
  split
  · exact taken
  · split
    next r _ _ =>
      have measured := storeMoves_modSheet (taken.same (store_trailComputation l r (t.lane l).counter _)) g
        (f := fun q => { q with imageDeadline := some (armAt (t.lane l).counter (t.lane l).config.imageWindow) })
        (fun _ => by rfl)
      exact storeMoves_settleLane (measured.same (store_doubleFeedCheck l g _)) l
    next => exact storeMoves_modSheet taken g (fun _ => by rfl)

theorem storeMoves_divertSheet (l : Fin 8) (g : Tag) : StoreMoves s (divertSheet l g t) := by
  unfold divertSheet
  dsimp only
  split
  · exact h
  · split
    · exact storeMoves_modSheet h g (fun _ => by rfl)
    · split
      · exact storeMoves_settleLane ((storeMoves_modSheet h g (fun _ => by rfl)).same (store_modLane _ _ _)) l
      · exact h

theorem storeMoves_attributeExitLead (l : Fin 8) : StoreMoves s (attributeExitLead l t) := by
  unfold attributeExitLead
  dsimp only
  split
  · exact storeMoves_jam h l _
  · exact storeMoves_divertSheet (storeMoves_modSheet (h.same (store_modLane _ _ _)) _ (fun _ => by rfl)) l _

theorem storeMoves_attributeExitTrail (l : Fin 8) (g : Tag) : StoreMoves s (attributeExitTrail l g t) :=
  ((storeMoves_modSheet h g (fun _ => by rfl)).same (store_modLane _ _ _)).same (store_drainTest l _)

theorem storeMoves_coverOpened (l : Fin 8) : StoreMoves s (coverOpened l t) := by
  unfold coverOpened
  split
  · exact storeMoves_jam h l _
  · exact storeMoves_jam h l _
  · exact storeMoves_jam h l _
  · exact storeMoves_jam h l _
  · exact (h.same (store_modLane _ _ _)).same (store_raise _ _)
  all_goals exact h

/-- R90: only a strip for a live record is filed, and only where a block is found. -/
theorem storeMoves_takeStrip (l : Fin 8) (tag : Nat) (side : Side) (index : Nat) (last : Bool) (payload : List Byte) :
    StoreMoves s (takeStrip l tag side index last payload t) := by
  unfold takeStrip
  split
  · exact (h.same (store_modLane _ _ _)).same (store_raise _ _)
  next r intake =>
    split
    · split
      · exact storeMoves_addIncomplete h r.tag
      next source =>
        obtain ⟨g, found⟩ : ∃ g, t.sheet? g = some r := by
          unfold intakeSheet at intake
          split at intake
          · cases intake
          next g _ =>
            split at intake
            · split at intake
              · cases intake
              next q found =>
                split at intake
                · cases intake
                  exact ⟨g, found⟩
                · cases intake
            · cases intake
        have filed := h.filed found side last payload source
        dsimp only
        split
        · exact storeMoves_settleLane filed l
        · exact filed
    · exact storeMoves_addIncomplete h r.tag

theorem storeMoves_laneFrameArrives (l : Fin 8) (frame : List Byte) : StoreMoves s (laneFrameArrives l frame t) := by
  unfold laneFrameArrives
  split
  · exact (storeMoves_takeStrip h l _ _ _ _ _).same (store_kickPorts _)
  · unfold takePatch
    split
    · exact h
    · exact storeMoves_modSheet h _ (fun _ => by rfl)
  · exact h.same (store_modLane _ _ _)

/-! ### Archive frames (R166, R169, R171, R176, R183) -/

theorem storeMoves_deliveryEnd (p : Port) (c : Delivery) : StoreMoves s (deliveryEnd p c t) := by
  have ended := storeMoves_retryWaiting (storeMoves_lowerPending (h.same (store_endCurrent p c.dest t)) c.entry.sheet)
    [c.dest]
  unfold deliveryEnd testEntryBatch
  split
  · exact ended
  · exact ended.same (store_testBatch _ _)

theorem storeMoves_frameEnds (p : Port) : StoreMoves s (frameEnds p t) := by
  have quiet : StoreMoves s (t.modPort p (fun q => { q with tx := none })) := h.same (store_modPort _ _ _)
  unfold frameEnds
  dsimp only
  split
  · unfold stripSent
    split
    · exact storeMoves_deliveryEnd quiet p _
    · split
      · exact storeMoves_afterDrop (storeMoves_removeUndelivered (quiet.same (store_endCurrent p _ _)) _ _) _ _
      · exact quiet.same (store_modPort _ _ _)
  · exact quiet

end

theorem store_stationFrameArrives (p : Port) (frame : List Byte) (s : State) :
    (stationFrameArrives p frame s).store = s.store := by
  unfold stationFrameArrives
  split
  · split
    · rw [store_kickPorts]
      unfold offerDirective
      split
      · split
        · rfl
        · exact store_modPort _ _ _
      · exact store_modPort _ _ _
    · rw [store_kickPorts]
      unfold takeCredit
      split
      · split
        · rfl
        · exact store_modDest _ _ _
      · rfl
    · rfl
  · rfl

end Sys2Proof.Machine
end

section
/-!
PROOF. The page store under the directives.
-/

namespace Sys2Proof.Machine

/-! ### Directives that leave the store -/

section
variable (l : Fin 8) (d : Fin 16) (id : Nat) (pins : BitVec 8) (ps : List Byte) (u : State)

theorem store_laneSet : (laneSet l ps u).state.store = u.store := by
  unfold laneSet
  split
  · rfl
  · dsimp only
    split <;> rfl

theorem store_laneStart : (laneStart l ps u).state.store = u.store := by
  unfold laneStart
  dsimp only
  repeat' split
  all_goals rfl

theorem store_lanePause : (lanePause l ps u).state.store = u.store := by
  unfold lanePause
  split
  · dsimp only [accept]
    rw [store_drainTest, store_modLane]
    split <;> rfl
  · rfl

theorem store_laneResume : (laneResume l ps u).state.store = u.store := by
  unfold laneResume
  dsimp only
  repeat' split
  case isFalse.isFalse.isFalse.isFalse.isFalse =>
    dsimp only [accept]
    rw [store_drainTest, store_modLane]
  all_goals rfl

theorem store_laneManualEnter : (laneManualEnter l ps u).state.store = u.store := by
  unfold laneManualEnter
  repeat' split
  all_goals rfl

theorem store_laneManualLeave : (laneManualLeave l ps u).state.store = u.store := by
  unfold laneManualLeave
  split <;> rfl

theorem store_linesMap : (linesMap pins l ps u).state.store = u.store := by
  unfold linesMap
  split
  · rfl
  · split
    · rfl
    · dsimp only [accept]
      split
      · rw [store_raise, store_modLane]
      · rfl

theorem store_applyLineSetting (e : LineSetting) : (applyLineSetting pins l u e).store = u.store := by
  unfold applyLineSetting
  split
  · rfl
  · dsimp only
    split
    · rw [store_raise, store_setLane]
    · rfl

theorem store_linesSet : (linesSet pins ps u).state.store = u.store := by
  unfold linesSet
  dsimp only
  split
  · rfl
  · split
    · rfl
    · split
      · rfl
      · split
        · rfl
        · split
          · rfl
          · split
            · rfl
            · exact store_foldl (store_applyLineSetting _ pins) _ u

theorem store_lanePowerOff : (lanePowerOff l ps u).state.store = u.store := by
  unfold lanePowerOff
  repeat' split
  all_goals rfl

theorem store_lanePowerIdle : (lanePowerIdle l ps u).state.store = u.store := by
  unfold lanePowerIdle
  dsimp only
  repeat' split
  all_goals rfl

theorem store_lanePowerStandby : (lanePowerStandby l ps u).state.store = u.store := by
  unfold lanePowerStandby
  dsimp only
  split
  · rfl
  · split
    · exact (store_batchLeaves l _).trans (store_modLane _ _ _)
    · rfl
  all_goals rfl

theorem store_profileLoad : (profileLoad ps u).state.store = u.store := by
  have stored : ∀ v r, (storeProfile v r).store = v.store := fun v r => by
    unfold storeProfile
    split <;> rfl
  unfold profileLoad
  dsimp only
  split
  · rfl
  · split
    · rfl
    · split
      · rfl
      · exact store_foldl stored _ u

theorem store_storeSet : (storeSet ps u).state.store = u.store := by
  unfold storeSet
  dsimp only [acceptClamped]
  split
  · exact (store_raise _ _).trans rfl
  · rfl

theorem store_sheetRead : (sheetRead ps u).state.store = u.store := by
  unfold sheetRead
  repeat' split
  all_goals rfl

theorem store_batchOpen : (batchOpen ps u).state.store = u.store := by
  unfold batchOpen
  repeat' split
  all_goals rfl

theorem store_batchRead : (batchRead id ps u).state.store = u.store := by
  unfold batchRead
  repeat' split
  all_goals rfl

theorem store_separatorLoad : (separatorLoad ps u).state.store = u.store := by
  have stored : ∀ v r, (storeSeparator v r).store = v.store := fun v r => by
    unfold storeSeparator
    split <;> rfl
  unfold separatorLoad
  dsimp only
  split
  · rfl
  · split
    · rfl
    · split
      · rfl
      · exact store_foldl stored _ u

theorem store_separatorRead : (separatorRead ps u).state.store = u.store := by
  unfold separatorRead
  split <;> rfl

theorem store_loadEntries (rs : List (List Byte)) (n : Nat) : (loadEntries rs n u).2.2.store = u.store := by
  induction rs generalizing n u with
  | nil => rfl
  | cons r rest ih =>
    unfold loadEntries
    split
    · rfl
    · rw [ih]
      unfold writeShadow
      split <;> rfl

theorem store_routeLoad : (routeLoad ps u).state.store = u.store := by
  have loaded := store_loadEntries u (records ps 10) 0
  unfold routeLoad
  split
  · rfl
  · split
    next h =>
      rw [h] at loaded
      exact loaded
    next h =>
      rw [h] at loaded
      exact loaded

theorem store_routeRead : (routeRead ps u).state.store = u.store := by
  unfold routeRead
  split
  · rfl
  · dsimp only
    split <;> rfl

theorem store_destSet : (destSet d ps u).state.store = u.store := by
  unfold destSet
  split
  · rfl
  · split
    · dsimp only
      split
      · rfl
      · split <;> rfl
    · rfl

theorem store_destEnable : (destEnable d ps u).state.store = u.store := by
  unfold destEnable
  repeat' split
  all_goals rfl

theorem store_portRead : (portRead ps u).state.store = u.store := by
  unfold portRead
  split <;> rfl

theorem store_reportSet : (reportSet ps u).state.store = u.store := by
  unfold reportSet
  split
  · rfl
  · dsimp only
    split <;> simp only [refuse, accept, State.store]

theorem store_eventsClear : (eventsClear ps u).state.store = u.store := by
  simp only [eventsClear, answerData, clearFlags, State.store]

end

/-! ### Directives that move the store -/

theorem storeMoves_accept {u v : State} (h : StoreMoves u v) : StoreMoves u (accept v).state := h

section
variable (l : Fin 8) (d : Fin 16) (id : Nat) (e : HeldEntry) (ps : List Byte) (u : State)

/-- R64: the sheets of the order and the picking sheet are freed. -/
theorem storeMoves_laneClear : StoreMoves u (laneClear l ps u).state := by
  unfold laneClear
  dsimp only
  split
  · exact .refl
  · split
    · exact .refl
    · have discarded : StoreMoves u (discardOrder l (freePicking l u)) :=
        storeMoves_foldl (fun _ g k => storeMoves_dropSheet k _ l g) _ (storeMoves_freePicking .refl l)
      exact (discarded.same (store_modLane _ _ _)).same (store_batchLeaves l _)

theorem storeMoves_resolveRelease (kind : Kind) (sep : Option (Fin 8)) :
    StoreMoves u (resolveRelease e kind sep u).state := by
  unfold resolveRelease
  split
  · exact .refl
  · split
    · exact .refl
    next es _ =>
      split
      · exact .refl
      · have unlisted : StoreMoves u ({ u with held := u.held.filter (fun h => decide (h.tag ≠ e.tag)) }.modBatch e.batch
            (fun b => { b with heldNow := b.heldNow - 1, released := addSat b.released 1 })) := .of_store rfl
        have released := storeMoves_modSheet (unlisted.same (store_deliver e.tag kind es _)) e.tag
          (f := fun q => { q with separatorMatch := if sep.isSome then sep else q.separatorMatch }) (fun _ => by rfl)
        exact (storeMoves_freeIfIdle released e.tag es).same (store_testBatch e.batch _)

theorem storeMoves_resolveDiscard : StoreMoves u (resolveDiscard e u).state :=
  (storeMoves_discardHeld .refl e).same (store_testBatch e.batch _)

theorem storeMoves_batchClose : StoreMoves u (batchClose id ps u).state := by
  unfold batchClose
  split
  · exact .refl
  · split
    · exact .refl
    · split
      · exact .refl
      · exact (storeMoves_discardBatchHeld .refl id).same (store_testClosure id _)

theorem storeMoves_abortDest {s : State} (h : StoreMoves s u) : StoreMoves s (abortDest id u d) :=
  storeMoves_foldl (fun _ e k => storeMoves_removeUndelivered k d e) _ (h.same (store_modDest _ _ _))

theorem storeMoves_abortRest {s : State} (h : StoreMoves s u) : StoreMoves s (abortRest id u) :=
  storeMoves_retryWaiting
    (storeMoves_foldl (fun v d k => storeMoves_abortDest d id v k) _ (storeMoves_discardBatchHeld h id)) _

theorem storeMoves_abortActive : StoreMoves u (abortActive id l u) :=
  storeMoves_poke (((storeMoves_freePicking .refl l).same (store_modBatch _ _ _)).same (store_modLane _ _ _)) l

theorem storeMoves_batchAbort : StoreMoves u (batchAbort id ps u).state := by
  unfold batchAbort
  split
  · exact .refl
  next b _ =>
    have active : StoreMoves u (testAbort id (drainTest b.lane (abortRest id (abortActive id b.lane u)))) :=
      ((storeMoves_abortRest id _ (storeMoves_abortActive b.lane id u)).same (store_drainTest _ _)).same
        (store_testAbort id _)
    have unqueued : StoreMoves u ((u.modBatch id (fun c => { c with state := .aborted })).modLane b.lane
        (fun x => { x with batchQueue := x.batchQueue.erase id })) := .of_store rfl
    have waits := (storeMoves_abortRest id _ unqueued).same (store_testAbort id _)
    split
    · exact .refl
    · exact storeMoves_accept active
    · exact storeMoves_accept active
    · exact storeMoves_accept waits
    · exact storeMoves_accept waits

/-- R166: the records of the entries that a disable removes can be freed. -/
theorem storeMoves_destDisable : StoreMoves u (destDisable d ps u).state := by
  unfold destDisable
  split
  · exact .refl
  · have closed : StoreMoves u (closeDest d u) :=
      storeMoves_foldl (fun _ e k => storeMoves_removeUndelivered k d e) _
        (.of_store ((store_modDest _ _ _).trans (store_modPort _ _ _)))
    dsimp only [accept]
    split
    · exact closed
    · exact storeMoves_afterDrop closed d _

end

/-! ### Execution and the checks before a body (R60, R133, R184) -/

section
variable {n : Nat} {body : List Byte → State → Executed} {laneBody : Fin 8 → List Byte → State → Executed}
  {sixteenBody : Fin 16 → List Byte → State → Executed} {heldBody : HeldEntry → State → Executed}
  {idBody : Nat → List Byte → State → Executed}

theorem store_takeDirective {row : DirectiveRow} {d : Directive} {s u : State}
    (taken : takeDirective row s = some (d, u)) : u.store = s.store := by
  unfold takeDirective at taken
  split at taken
  · cases taken
  · split at taken
    · cases taken
      rfl
    · cases taken

/-- The store moves in an executed directive as it does in its body. -/
theorem storeMoves_runDirective {row : DirectiveRow} (moves : ∀ ps u, StoreMoves u (body ps u).state) (s : State) :
    StoreMoves s (runDirective row body s) := by
  unfold runDirective
  split
  · exact .refl
  next d u taken =>
    have ran := (StoreMoves.of_store (store_takeDirective taken)).trans (moves d.params u)
    have passed : StoreMoves s
        { (body d.params u).state with freeIndex := (body d.params u).state.freeIndex + 1 } := ran.same rfl
    exact (passed.same (store_modPort _ _ _)).same (store_kickPorts _)

theorem storeMoves_withLength (moves : ∀ ps u, StoreMoves u (body ps u).state) (ps : List Byte) (u : State) :
    StoreMoves u (withLength n body ps u).state := by
  unfold withLength
  split
  · exact moves ps u
  · exact .refl

theorem storeMoves_withLane (moves : ∀ l ps u, StoreMoves u (laneBody l ps u).state) (ps : List Byte) (u : State) :
    StoreMoves u (withLane laneBody ps u).state := by
  unfold withLane
  split
  · exact .refl
  · exact moves _ ps u

theorem storeMoves_withSixteen (moves : ∀ i ps u, StoreMoves u (sixteenBody i ps u).state) (ps : List Byte)
    (u : State) : StoreMoves u (withSixteen sixteenBody ps u).state := by
  unfold withSixteen
  split
  · exact .refl
  · exact moves _ ps u

theorem storeMoves_withHeld (moves : ∀ e u, StoreMoves u (heldBody e u).state) (ps : List Byte) (u : State) :
    StoreMoves u (withHeld n heldBody ps u).state := by
  unfold withHeld
  split
  · exact .refl
  · split
    · exact .refl
    · split
      · exact .refl
      · exact moves _ u

theorem storeMoves_withId (moves : ∀ id ps u, StoreMoves u (idBody id ps u).state) (ps : List Byte) (u : State) :
    StoreMoves u (withId idBody ps u).state := by
  unfold withId
  split
  · exact .refl
  · exact moves _ ps u

end

end Sys2Proof.Machine
end

section
/-!
PROOF. Whatever the command, the page store only makes moves that keep it balanced and its DRAM canonical (R93, R95, R102).
-/

namespace Sys2Proof.Machine

/-! ### RESTART, POWER_ON and idling -/

theorem dram_restartPart (s : State) : (restartPart s).dram = s.dram := by
  simp only [restartPart, clearFlags]
  rw [parts_foldl_sendWithdraws]

theorem store_busyAll (s : State) : (busyAll s).store = s.store :=
  (store_foldl (fun u (d : Directive) => store_modPort u d.port _) _ _).trans rfl

/-- R193: RESTART empties the store and leaves the DRAM (R93). -/
theorem storeMoves_restartFor {s t : State} (h : StoreMoves s t) (d : Directive) : StoreMoves s (restartFor d t) := by
  unfold restartFor
  split
  · have restarted : StoreMoves s (restartPart t) := h.emptied (.inl (dram_restartPart t)) rfl
    exact (restarted.same (store_busyAll _)).same (store_modPort _ _ _)
  · exact h.same (store_modPort _ _ _)

theorem storeMoves_execRestart {s t : State} (run : exec .restart s = .next t) : StoreMoves s t := by
  cases run
  split
  · exact .refl
  next d u taken =>
    have answered := storeMoves_restartFor (.of_store (store_takeDirective taken)) d
    exact (answered.same (by rfl)).same (store_kickPorts _)

theorem store_idle (s : State) : (idle s).store = s.store := by
  unfold idle
  split
  · rw [tick_frame]
    rfl
  · rfl

/-! ### The commands -/

section
variable {s t u : State}

theorem storeMoves_of_next (h : StoreMoves s u) (run : (Host.Outcome.next u : Answer) = .next t) : StoreMoves s t := by
  cases run
  exact h

theorem storeMoves_of_body {row : DirectiveRow} {body : List Byte → State → Executed}
    (moves : ∀ ps u, StoreMoves u (body ps u).state)
    (run : (Host.Outcome.next (runDirective row body s) : Answer) = .next t) : StoreMoves s t :=
  storeMoves_of_next (storeMoves_runDirective moves s) run

/-- A directive whose body leaves the store. -/
theorem storeMoves_of_leavingBody {row : DirectiveRow} {body : List Byte → State → Executed}
    (leaves : ∀ ps u, (body ps u).state.store = u.store)
    (run : (Host.Outcome.next (runDirective row body s) : Answer) = .next t) : StoreMoves s t :=
  storeMoves_of_body (fun ps u => .of_store (leaves ps u)) run

/-- A directive whose body leaves the store once its length is checked. -/
theorem storeMoves_of_lengthBody {row : DirectiveRow} {n : Nat} {body : List Byte → State → Executed}
    (leaves : ∀ ps u, (body ps u).state.store = u.store)
    (run : (Host.Outcome.next (runDirective row (withLength n body) s) : Answer) = .next t) : StoreMoves s t :=
  storeMoves_of_body (storeMoves_withLength fun ps u => .of_store (leaves ps u)) run

theorem storeMoves_of_laneBody {row : DirectiveRow} {n : Nat} {body : Fin 8 → List Byte → State → Executed}
    (leaves : ∀ l ps u, (body l ps u).state.store = u.store)
    (run : (Host.Outcome.next (runDirective row (withLength n (withLane body)) s) : Answer) = .next t) :
    StoreMoves s t :=
  storeMoves_of_body (storeMoves_withLength (storeMoves_withLane fun l ps u => .of_store (leaves l ps u))) run

theorem storeMoves_of_sixteenBody {row : DirectiveRow} {n : Nat} {body : Fin 16 → List Byte → State → Executed}
    (leaves : ∀ i ps u, (body i ps u).state.store = u.store)
    (run : (Host.Outcome.next (runDirective row (withLength n (withSixteen body)) s) : Answer) = .next t) :
    StoreMoves s t :=
  storeMoves_of_body (storeMoves_withLength (storeMoves_withSixteen fun i ps u => .of_store (leaves i ps u))) run

/-- Every command makes only moves of the page store. -/
theorem storeMoves_exec {c : Instr} (run : exec c s = .next t) : StoreMoves s t := by
  have captured : ∀ (l : Fin 8) (x : Lane), StoreMoves s (s.setLane l x) := fun l x => .of_store (store_setLane s l x)
  have laneOnly : ∀ (l : Fin 8) (f : Lane → Lane), StoreMoves s (s.modLane l f) :=
    fun l f => .of_store (store_modLane s l f)
  cases c with
  | powerOn =>
    cases run
    exact StoreMoves.emptied .refl (.inr rfl) rfl
  | directive => exact storeMoves_of_next (.of_store (store_stationFrameArrives _ _ s)) run
  | credit => exact storeMoves_of_next (.of_store (store_stationFrameArrives _ _ s)) run
  | discardedStationFrame => exact storeMoves_of_next (.of_store (store_stationFrameArrives _ _ s)) run
  | unknown => exact storeMoves_of_leavingBody (fun _ _ => rfl) run
  | laneSet => exact storeMoves_of_laneBody store_laneSet run
  | laneStart => exact storeMoves_of_laneBody store_laneStart run
  | lanePause => exact storeMoves_of_laneBody store_lanePause run
  | laneResume => exact storeMoves_of_laneBody store_laneResume run
  | laneClear => exact storeMoves_of_body (storeMoves_withLength (storeMoves_withLane storeMoves_laneClear)) run
  | laneManualEnter => exact storeMoves_of_laneBody store_laneManualEnter run
  | laneManualLeave => exact storeMoves_of_laneBody store_laneManualLeave run
  | laneRead => exact storeMoves_of_laneBody (fun _ _ _ => rfl) run
  | linesMap pins => exact storeMoves_of_laneBody (fun l => store_linesMap l pins) run
  | linesSet pins => exact storeMoves_of_leavingBody (store_linesSet pins) run
  | linesRead => exact storeMoves_of_laneBody (fun _ _ _ => rfl) run
  | lanePowerOff => exact storeMoves_of_laneBody store_lanePowerOff run
  | lanePowerIdle => exact storeMoves_of_laneBody store_lanePowerIdle run
  | lanePowerSet => exact storeMoves_of_laneBody (fun _ _ _ => rfl) run
  | lanePowerStandby => exact storeMoves_of_laneBody store_lanePowerStandby run
  | profileLoad => exact storeMoves_of_leavingBody store_profileLoad run
  | profileRead => exact storeMoves_of_sixteenBody (fun _ _ _ => rfl) run
  | storeSet => exact storeMoves_of_lengthBody store_storeSet run
  | storeRead => exact storeMoves_of_lengthBody (fun _ _ => rfl) run
  | resolveAccept =>
    exact storeMoves_of_body (storeMoves_withLength (storeMoves_withHeld fun e u =>
      storeMoves_resolveRelease e u _ _)) run
  | resolveReview =>
    exact storeMoves_of_body (storeMoves_withLength (storeMoves_withHeld fun e u =>
      storeMoves_resolveRelease e u _ _)) run
  | resolveDiscard =>
    exact storeMoves_of_body (storeMoves_withLength (storeMoves_withHeld storeMoves_resolveDiscard)) run
  | heldList => exact storeMoves_of_lengthBody (fun _ _ => rfl) run
  | sheetRead => exact storeMoves_of_lengthBody store_sheetRead run
  | batchOpen => exact storeMoves_of_lengthBody store_batchOpen run
  | batchClose => exact storeMoves_of_body (storeMoves_withLength (storeMoves_withId storeMoves_batchClose)) run
  | batchAbort => exact storeMoves_of_body (storeMoves_withLength (storeMoves_withId storeMoves_batchAbort)) run
  | batchRead =>
    exact storeMoves_of_body (storeMoves_withLength (storeMoves_withId fun id ps u =>
      .of_store (store_batchRead id ps u))) run
  | separatorLoad => exact storeMoves_of_leavingBody store_separatorLoad run
  | separatorRead => exact storeMoves_of_lengthBody store_separatorRead run
  | routeLoad => exact storeMoves_of_leavingBody store_routeLoad run
  | routeSwap => exact storeMoves_of_lengthBody (fun _ _ => rfl) run
  | routeRead => exact storeMoves_of_lengthBody store_routeRead run
  | destSet => exact storeMoves_of_sixteenBody store_destSet run
  | destEnable => exact storeMoves_of_sixteenBody store_destEnable run
  | destDisable =>
    exact storeMoves_of_body (storeMoves_withLength (storeMoves_withSixteen storeMoves_destDisable)) run
  | destRead => exact storeMoves_of_sixteenBody (fun _ _ _ => rfl) run
  | portRead => exact storeMoves_of_lengthBody store_portRead run
  | reportSet => exact storeMoves_of_lengthBody store_reportSet run
  | eventsRead => exact storeMoves_of_lengthBody (fun _ _ => rfl) run
  | eventsClear => exact storeMoves_of_lengthBody store_eventsClear run
  | restart => exact storeMoves_execRestart run
  | nextPickExpiry l =>
    refine storeMoves_of_next ?_ run
    split
    · exact laneOnly l _
    · exact .refl
  | pickPulseEnd l =>
    refine storeMoves_of_next ?_ run
    split
    · exact laneOnly l _
    · exact .refl
  | pickWindowExpiry l =>
    refine storeMoves_of_next ?_ run
    have closed := laneOnly l (fun x => { x with pickWindow := none })
    have freed := (storeMoves_freePicking closed l).same (store_drainTest l _)
    split
    · dsimp only
      split
      · exact (storeMoves_feedingWindow closed l).same (store_kickPorts _)
      · exact freed.same (store_kickPorts _)
      · exact freed.same (store_kickPorts _)
      all_goals exact closed
    · exact .refl
  | sampleExpiry l =>
    refine storeMoves_of_next ?_ run
    split
    · exact laneOnly l _
    · exact .refl
  | gateLimitExpiry l =>
    refine storeMoves_of_next ?_ run
    split
    · exact (storeMoves_jam (laneOnly l _) l _).same (store_kickPorts _)
    · exact .refl
  | imageDeadlineExpiry g =>
    refine storeMoves_of_next ?_ run
    split
    · exact .refl
    · split
      · have timedOut := storeMoves_modSheet (s := s) .refl g
          (f := fun q => { q with imageTimeout := true, imageDeadline := none }) (fun _ => rfl)
        refine StoreMoves.same (storeMoves_settleLane ?_ _) (store_kickPorts _)
        split
        · exact timedOut
        · exact storeMoves_addIncomplete timedOut g
      · exact .refl
  | exitWindowExpiry l =>
    refine storeMoves_of_next ?_ run
    split
    · exact (storeMoves_jam (laneOnly l _) l _).same (store_kickPorts _)
    · exact .refl
  | divertEnd l =>
    refine storeMoves_of_next ?_ run
    split
    · exact laneOnly l _
    · exact .refl
  | endOfSpinup l =>
    refine storeMoves_of_next ?_ run
    split
    · split
      · exact laneOnly l _
      · exact laneOnly l _
      · exact laneOnly l _
    · exact .refl
  | idleCountdownExpiry l =>
    refine storeMoves_of_next ?_ run
    split
    · exact ((laneOnly l _).same (store_raise _ _)).same (store_kickPorts _)
    · exact .refl
  | lead l =>
    refine storeMoves_of_next ?_ run
    split
    · exact .refl
    · dsimp only
      split
      · exact (storeMoves_attributeLead (captured l _) l).same (store_kickPorts _)
      · exact captured l _
  | trail l =>
    refine storeMoves_of_next ?_ run
    split
    · exact .refl
    · dsimp only
      split
      · exact captured l _
      · split
        · exact (storeMoves_attributeTrail (captured l _) l _).same (store_kickPorts _)
        · exact captured l _
  | exitLead l =>
    refine storeMoves_of_next ?_ run
    split
    · exact .refl
    · dsimp only
      split
      · exact (storeMoves_attributeExitLead (captured l _) l).same (store_kickPorts _)
      · exact captured l _
  | exitTrail l =>
    refine storeMoves_of_next ?_ run
    split
    · exact .refl
    · dsimp only
      split
      · exact captured l _
      · split
        · exact (storeMoves_attributeExitTrail (captured l _) l _).same (store_kickPorts _)
        · exact captured l _
  | coverActive l =>
    refine storeMoves_of_next ?_ run
    split
    · exact .refl
    · exact (storeMoves_coverOpened (captured l _) l).same (store_kickPorts _)
  | coverInactive l =>
    refine storeMoves_of_next ?_ run
    split
    · exact .refl
    · exact captured l _
  | trayEdge l =>
    refine storeMoves_of_next ?_ run
    split
    · exact .refl
    · exact captured l _
  | spareEdge l =>
    refine storeMoves_of_next ?_ run
    split
    · split
      · exact captured l _
      · exact ((captured l _).same (store_raise _ _)).same (store_kickPorts _)
    · exact .refl
  | linkStateChange l => exact storeMoves_of_next (laneOnly l _) run
  | strip => exact storeMoves_of_next (storeMoves_laneFrameArrives .refl _ _) run
  | patch => exact storeMoves_of_next (storeMoves_laneFrameArrives .refl _ _) run
  | malformedFrame => exact storeMoves_of_next (storeMoves_laneFrameArrives .refl _ _) run
  | pick l =>
    refine storeMoves_of_next ?_ run
    split
    next can => exact (storeMoves_makePick .refl can).same (store_kickPorts _)
    next => exact .refl
  | settlement l => exact storeMoves_of_next ((storeMoves_settleLane .refl l).same (store_kickPorts _)) run
  | queueWaitRetry l =>
    refine storeMoves_of_next ?_ run
    split
    · exact .refl
    · exact (storeMoves_pokeLane .refl l).same (store_kickPorts _)
  | drainCompletion l =>
    exact storeMoves_of_next (.of_store ((store_kickPorts _).trans (store_drainTest l s))) run
  | batchClosure id => exact storeMoves_of_next (.of_store ((store_kickPorts _).trans (store_testClosure id s))) run
  | endOfAbort id => exact storeMoves_of_next (.of_store ((store_kickPorts _).trans (store_testAbort id s))) run
  | frameEnd p =>
    refine storeMoves_of_next ?_ run
    split
    · exact ((storeMoves_frameEnds .refl p).same (store_boundary p _)).same (store_kickPorts _)
    · exact .refl
  | frameBoundary p => exact storeMoves_of_next (.of_store ((store_kickPorts _).trans (store_boundary p s))) run
  | pendingLostNotice =>
    exact storeMoves_of_next (.of_store ((store_kickPorts _).trans (store_placePendingLost s))) run
  | portLinkUp p =>
    exact storeMoves_of_next (.of_store ((store_kickPorts _).trans ((store_boundary p _).trans (store_modPort s p _)))) run
  | portLinkDown p =>
    exact storeMoves_of_next ((storeMoves_frameEnds (.of_store (store_modPort s p _)) p).same (store_kickPorts _)) run

end

/-! ### The obligations -/

/-- Settles O3: a command makes only moves of the page store, and idling none; each move keeps the canonical form. -/
theorem stepKeepsDramCanonical : Obligations.StepKeepsDramCanonical := by
  intro s t h run
  exact step_keeps (P := fun u => Memory.wf u.dram) (fun _ _ h => h)
    (fun u h => by rwa [dram_of_store (store_idle u)])
    (fun _ _ _ h ran => memoryWf_of_storeMoves (storeMoves_exec ran) h) h run

/-- Settles O5: each move of the page store keeps it balanced, and a record is created only while the table has room, where
a fresh tag is found. -/
theorem stepKeepsStoreBalanced : Obligations.StepKeepsStoreBalanced := by
  intro s t h _ run
  exact step_keeps (P := storeBalanced) (fun _ _ h => h) (fun u => storeBalanced_of_store (store_idle u))
    (fun _ _ _ h ran => storeBalanced_of_storeMoves (storeMoves_exec ran) h) h run

end Sys2Proof.Machine
end

section
/-!
PROOF. Strips from the head (R88 to R91, R93, R98): the sheet a frame names, the lowest empty block, and what filing a
strip there leaves.
-/

namespace Sys2Proof.Machine

/-! ### The sheet a frame names (R88, R92) -/

section
variable {s : State} {l : Fin 8} {g : Tag} {r : Sheet}

theorem intakeSheet_of_unsettled (own : g.lane = l) (found : s.sheet? g = some r) (unsettled : r.state.unsettled = true) :
    intakeSheet s l (tagCode g) = some r := by
  simp [intakeSheet, tagOf_tagCode, own, found, unsettled]

/-- R88: a tag of 32768 or more names no lane, and another one a sheet of its lane alone, while that is unsettled. -/
theorem intakeSheet_of_astray {number : Nat} (astray : 32768 ≤ number ∨ number = tagCode g ∧
    (g.lane ≠ l ∨ s.sheet? g = none ∨ ∃ r, s.sheet? g = some r ∧ r.state.unsettled = false)) :
    intakeSheet s l number = none := by
  unfold intakeSheet
  rcases astray with large | ⟨rfl, other | absent | ⟨r, found, settled⟩⟩
  · rw [tagOf, dif_neg (by omega)]
  · simp [tagOf_tagCode, other]
  · simp [tagOf_tagCode, absent]
  · simp [tagOf_tagCode, found, settled]

end

/-! ### The lowest empty block (R90) -/

/-- R90: in an ascending directory the search stops at the lowest block without an entry. -/
theorem lowestEmpty_eq {k blk : Nat} {dir : List DirEntry} (rising : dir.Pairwise (fun x y => x.block < y.block))
    (above : ∀ x ∈ dir, k ≤ x.block) (start : k ≤ blk) (below : ∀ j, k ≤ j → j < blk → ∃ x ∈ dir, x.block = j)
    (empty : ∀ x ∈ dir, x.block ≠ blk) : lowestEmpty k dir = blk := by
  induction dir generalizing k with
  | nil =>
    by_contra other
    obtain ⟨x, hx, -⟩ := below k le_rfl (lt_of_le_of_ne start other)
    cases hx
  | cons e rest ih =>
    obtain ⟨first, rising⟩ := List.pairwise_cons.mp rising
    have least := above e (List.mem_cons_self ..)
    have notHere := empty e (List.mem_cons_self ..)
    unfold lowestEmpty
    split
    case isTrue here =>
      refine ih rising (fun x hx => ?_) (by omega) (fun j low high => ?_) fun x hx => empty x (List.mem_cons_of_mem _ hx)
      · have := first x hx
        omega
      · obtain ⟨x, hx, block⟩ := below j (by omega) high
        rcases List.mem_cons.mp hx with rfl | hx
        · omega
        · exact ⟨x, hx, block⟩
    case isFalse gap =>
      by_contra other
      obtain ⟨x, hx, block⟩ := below k le_rfl (lt_of_le_of_ne start other)
      rcases List.mem_cons.mp hx with rfl | hx
      · exact gap block
      · have := first x hx
        omega

theorem insertDir_perm (e : DirEntry) (dir : List DirEntry) : (insertDir e dir).Perm (e :: dir) := by
  induction dir with
  | nil => rfl
  | cons d rest ih =>
    unfold insertDir
    split
    · rfl
    · exact (ih.cons d).trans (.swap e d rest)

/-- R93: a payload reads back as written. -/
theorem readBytes_writeBytes (mem : List Host.Cell) (a : Nat) (payload : List Byte) :
    readBytes (writeBytes mem a payload) a payload.length = payload := by
  unfold readBytes
  refine List.ext_getElem (by simp) fun i hi _ => ?_
  rw [List.getElem_map, List.getElem_range]
  exact readByte_writeBytes_inside mem a payload i (by simpa using hi)

/-! ### What a filed strip leaves (R90, R98) -/

section
variable (r : Sheet) (side : Side) (last : Bool) (payload : List Byte) (s : State)

theorem stripFiled_frame : stripFiled r side last payload s = { s with
    sheets := (stripFiled r side last payload s).sheets, free := (stripFiled r side last payload s).free
    reserved := (stripFiled r side last payload s).reserved, allocated := (stripFiled r side last payload s).allocated
    directory := (stripFiled r side last payload s).directory, dram := (stripFiled r side last payload s).dram
    flags := (stripFiled r side last payload s).flags } := by
  unfold stripFiled blockFilled blockDrawn
  split <;> rfl

theorem Sheet.withStrip_eq (b : Nat) :
    r.withStrip (decide (0 < r.reserve)) side b last = { r.addStrip side b last with reserve := r.reserve - 1 } := by
  unfold Sheet.withStrip
  by_cases some : 0 < r.reserve
  · rw [decide_eq_true some]
    cases side <;> rfl
  · have none : r.reserve = r.reserve - 1 := by omega
    rw [decide_eq_false some, ← none]
    cases side <;> rfl

variable {r s}

theorem sheet?_stripFiled_same {g : Tag} (found : s.sheet? g = some r) :
    (stripFiled r side last payload s).sheet? g =
      some { r.addStrip side (lowestEmpty 0 s.directory) last with reserve := r.reserve - 1 } := by
  have own : r.tag = g := State.tag_of_sheet? found
  have updated := State.sheet?_modSheet_same s g
    (Sheet.withStrip (decide (0 < r.reserve)) side (lowestEmpty 0 s.directory) last) (Sheet.withStrip_tag _ _ _ _)
  rw [found, Option.map_some, Sheet.withStrip_eq] at updated
  rw [← updated]
  unfold State.sheet?
  rw [sheets_stripFiled, own]

theorem sheet?_stripFiled_other {h : Tag} (other : h ≠ r.tag) :
    (stripFiled r side last payload s).sheet? h = s.sheet? h := by
  rw [← State.sheet?_modSheet_other s
    (Sheet.withStrip (decide (0 < r.reserve)) side (lowestEmpty 0 s.directory) last) (Sheet.withStrip_tag _ _ _ _) other]
  unfold State.sheet?
  rw [sheets_stripFiled]

variable (r s)

/-- R98: a block drawn from the free pool can set STORE_LOW. -/
theorem flag_stripFiled_storeLow : (stripFiled r side last payload s).flag (.device .storeLow) =
    (s.flag (.device .storeLow) ||
      decide (s.lowMark ≤ s.free ∧ s.free - (if r.reserve = 0 then 1 else 0) < s.lowMark)) := by
  unfold stripFiled blockFilled blockDrawn
  split
  case isTrue some =>
    rw [if_neg (by omega), decide_eq_false (by omega), Bool.or_false]
    rfl
  case isFalse none =>
    rw [if_pos (by omega)]
    exact flag_lowered_storeLow 1 { s with allocated := s.allocated + 1 }

theorem flag_stripFiled_other {f : Flag} (h : f ≠ .device .storeLow) :
    (stripFiled r side last payload s).flag f = s.flag f := by
  unfold stripFiled blockFilled blockDrawn
  split
  case isTrue => rfl
  case isFalse => exact flag_lowered_other 1 { s with allocated := s.allocated + 1 } h

end

/-! ### A strip in turn (R88 to R91) -/

section
variable {s : State} {l : Fin 8} {r : Sheet} {tag : Nat} {side : Side} {index : Nat} {last : Bool} {payload : List Byte}

theorem exec_strip {frame : List Byte} (read : readLaneFrame frame = .strip tag side index last payload) :
    exec (.strip l frame) s = .next (kickPorts (takeStrip l tag side index last payload s)) := by
  change execStrip l frame s = _
  unfold execStrip laneFrameArrives
  rw [read]

/-- R91, R105: the strip with which the images become complete has the cursor examined. -/
theorem takeStrip_of_filed (intake : intakeSheet s l tag = some r) (turn : stripInTurn s r side index = true)
    (source : blockSource s r ≠ .nowhere) :
    takeStrip l tag side index last payload s =
      if (!imagesComplete s r && imagesComplete s (r.addStrip side 0 last)) = true then
        settleLane l (fileStrip (blockSource s r) r.tag side last payload s)
      else fileStrip (blockSource s r) r.tag side last payload s := by
  unfold takeStrip
  rw [intake]
  dsimp only
  rw [if_pos turn]
  split
  next nowhere => exact absurd nowhere source
  next => rfl

/-- The last mark of a side (R91). -/
def Sheet.lastMark (r : Sheet) : Side → Bool
  | .front => r.frontLast
  | .back => r.backLast

/-- The other side of a sheet. -/
def Side.other : Side → Side
  | .front => .back
  | .back => .front

/-- R91: a strip in turn completes the images by the last mark of its side, where the other side's is not missing. -/
theorem completes_iff (unmarked : r.lastMark side = false)
    (expected : side = .back → (s.batchOf r.batch).sides = .duplex) :
    (!imagesComplete s r && imagesComplete s (r.addStrip side 0 last)) = true ↔
      last = true ∧ ((s.batchOf r.batch).sides = .simplex ∨ r.lastMark side.other = true) := by
  unfold imagesComplete
  cases side with
  | front =>
    have front : r.frontLast = false := unmarked
    cases sides : (s.batchOf r.batch).sides <;> simp [Sheet.addStrip, Sheet.lastMark, Side.other, sides, front]
  | back =>
    have back : r.backLast = false := unmarked
    simp [Sheet.addStrip, Sheet.lastMark, Side.other, expected rfl, back, and_comm]

end

/-- Settles O50: what is filed is read off `stripFiled`; the images are complete as `completes_iff` says, and then what
follows is what a SETTLEMENT does with the strip filed. -/
theorem stripFiledInLowestBlock : Obligations.StripFiledInLowestBlock := by
  intro s l frame payload g r side index blk last read own found unsettled few turn drawn rising below empty _
    fromPool completing filed
  have tag : r.tag = g := State.tag_of_sheet? found
  have source : blockSource s r ≠ .nowhere := fun nowhere => by
    have := (blockSource_eq_nowhere_iff s r).mp nowhere
    omega
  have lowest : lowestEmpty 0 s.directory = blk :=
    lowestEmpty_eq rising (fun _ _ => Nat.zero_le _) (Nat.zero_le _) (fun k _ => below k) empty
  have isFiled : ∀ t, t.interior = (stripFiled r side last payload s).interior → filed t := by
    intro t left
    refine ⟨?_, ?_, ?_, ?_, ?_, fun f low lost => ?_, ?_, ?_, fun a outside => ?_, fun h other => ?_, ?_⟩
    · rw [sheet?_of_interior left, sheet?_stripFiled_same side last payload found, lowest]
      cases side <;> rfl
    · rw [eq_of_interior State.free (fun _ => rfl) left, free_stripFiled]
      simp only [fromPool]
      split <;> split <;> omega
    · rw [eq_of_interior State.reserved (fun _ => rfl) left, reserved_stripFiled]
      simp only [fromPool]
      split <;> split <;> omega
    · rw [eq_of_interior State.allocated (fun _ => rfl) left, allocated_stripFiled]
    · rw [flag_of_interior left (by decide), flag_stripFiled_storeLow]
    · rw [flag_of_interior left lost, flag_stripFiled_other r side last payload s low]
    · rw [eq_of_interior State.directory (fun _ => rfl) left, directory_stripFiled, lowest, tag]
      exact insertDir_perm _ _
    · rw [eq_of_interior State.dram (fun _ => rfl) left, dram_stripFiled, lowest]
      exact readBytes_writeBytes _ _ _
    · rw [eq_of_interior State.dram (fun _ => rfl) left, dram_stripFiled, lowest]
      exact readByte_writeBytes_outside _ _ _ outside
    · rw [sheet?_of_interior left, sheet?_stripFiled_other side last payload (by rwa [tag])]
    · exact interior_eq_patched (fun v => { s with
        sheets := v.sheets, free := v.free, reserved := v.reserved, allocated := v.allocated, directory := v.directory
        dram := v.dram, flags := v.flags }) (fun v => by simp [State.interior]) left
        (stripFiled_frame r side last payload s)
  have inTurn : stripInTurn s r side index = true := by
    unfold stripInTurn
    cases side with
    | front =>
      obtain ⟨unmarked, next⟩ := turn
      simp [unmarked, ← next, few]
    | back =>
      obtain ⟨unmarked, next, duplex⟩ := turn
      simp [unmarked, ← next, few, duplex]
  have completes : (!imagesComplete s r && imagesComplete s (r.addStrip side 0 last)) = true ↔ completing := by
    cases side with
    | front => exact completes_iff (side := .front) turn.1 Side.noConfusion
    | back => exact completes_iff (side := .back) turn.1 fun _ => turn.2.2
  have taken := takeStrip_of_filed (last := last) (payload := payload) (intakeSheet_of_unsettled own found unsettled)
    inTurn source
  have run := exec_strip (s := s) (l := l) read
  rw [taken] at run
  have inside := interior_fileStrip source side last payload
  refine ⟨fun notYet => ⟨_, run, ?_⟩, fun now => ⟨_, _, isFiled _ inside, run, ?_⟩⟩
  · rw [if_neg (mt completes.mp notYet)]
    exact isFiled _ ((interior_kickPorts _).trans inside)
  · rw [if_pos (completes.mpr now)]
    rfl

end Sys2Proof.Machine
end

section
/-!
PROOF. Frames from the head that are not filed (R85, R88 to R90, R92, R105, R117): orphans, strips dropped with INCOMPLETE,
patch words and malformed frames.
-/

namespace Sys2Proof.Machine

/-! ### Strips that are not filed (R88 to R90) -/

section
variable {s : State} {l : Fin 8} {tag : Nat} {side : Side} {index : Nat} {last : Bool} {payload : List Byte} {r : Sheet}

theorem takeStrip_of_no_sheet (intake : intakeSheet s l tag = none) :
    takeStrip l tag side index last payload s = orphanStrip l s := by
  unfold takeStrip
  rw [intake]

/-- R89, R90: a strip out of turn, or without a block to take it, adds INCOMPLETE to its sheet. -/
theorem takeStrip_of_dropped (intake : intakeSheet s l tag = some r)
    (dropped : stripInTurn s r side index = false ∨ blockSource s r = .nowhere) :
    takeStrip l tag side index last payload s = addIncomplete r.tag s := by
  unfold takeStrip
  rw [intake]
  dsimp only
  split
  next turn =>
    rcases dropped with out | nowhere
    · rw [out] at turn
      cases turn
    · rw [nowhere]
  next => rfl

theorem stripInTurn_eq_false (out : 128 ≤ index ∨
    (match side with
      | .front => r.frontLast = true ∨ index ≠ r.front.length
      | .back => r.backLast = true ∨ index ≠ r.back.length ∨ (s.batchOf r.batch).sides = .simplex)) :
    stripInTurn s r side index = false := by
  unfold stripInTurn
  cases side with
  | front => rcases out with large | marked | other <;> simp [*]
  | back => rcases out with large | marked | other | simplex <;> simp [*]

end

/-! ### INCOMPLETE added to a sheet (R89, R105, R117) -/

/-- The state with INCOMPLETE among the findings of sheet `g` (R89). -/
def incompleteAdded (g : Tag) (s : State) : State :=
  s.modSheet g (fun q => { q with findings := { q.findings with incomplete := true } })

section
variable {s : State} {g : Tag} {r : Sheet} (found : s.sheet? g = some r)
include found

theorem sheet?_incompleteAdded :
    (incompleteAdded g s).sheet? g = some { r with findings := { r.findings with incomplete := true } } := by
  unfold incompleteAdded
  rw [State.sheet?_modSheet_same _ _ _ (fun _ => by rfl), found]
  rfl

theorem addIncomplete_of_incomplete (had : r.findings.incomplete = true) : addIncomplete g s = s := by
  unfold addIncomplete
  rw [found]
  exact if_pos had

theorem addIncomplete_of_new (new : r.findings.incomplete = false) :
    addIncomplete g s =
      if (s.lane g.lane).settleOrder.head? = some g then pokeLane g.lane (incompleteAdded g s)
      else incompleteAdded g s := by
  unfold addIncomplete
  rw [found]
  exact if_neg (Bool.eq_false_iff.mp new)

/-- R106: INCOMPLETE makes no sheet ready. -/
theorem cursorReady_incompleteAdded
    (waits : r.trail = none ∨ (imagesComplete s r = false ∧ r.imageTimeout = false)) (state : r.state ≠ .ready)
    (jam : r.findings.jam = false) (aborting : batchAborting s r = false) (divert : r.divertDone = false) :
    cursorReady (incompleteAdded g s) g = false := by
  have images : imagesComplete (incompleteAdded g s) { r with findings := { r.findings with incomplete := true } } =
      imagesComplete s r := rfl
  have abort : batchAborting (incompleteAdded g s) { r with findings := { r.findings with incomplete := true } } =
      batchAborting s r := rfl
  unfold cursorReady
  rw [sheet?_incompleteAdded found]
  dsimp only [sheetReady]
  rw [images, abort, aborting, jam, divert, decide_eq_false state]
  rcases waits with trail | ⟨incomplete, noTimeout⟩
  · simp [trail]
  · simp [incomplete, noTimeout]

theorem cursorWait_incompleteAdded {l : Fin 8} (head : (s.lane l).settleOrder.head? = some g) :
    cursorWait (incompleteAdded g s) l = r.queueWait := by
  obtain ⟨rest, order⟩ := List.head?_eq_some_iff.mp head
  exact (cursorWait_of_head (s := incompleteAdded g s) order (sheet?_incompleteAdded found)).trans rfl

end

/-- R105: a cursor sheet that is not ready stays, and with it the lane. -/
theorem pokeLane_of_not_ready {s : State} {l : Fin 8} {g : Tag} (head : (s.lane l).settleOrder.head? = some g)
    (waits : cursorReady s g = false) : pokeLane l s = s := by
  obtain ⟨rest, order⟩ := List.head?_eq_some_iff.mp head
  have poked : poke l s = s := by
    unfold poke
    rw [order]
    simp [settleLoop, order, waits]
  have notDrained : (s.lane l).drained = false := drained_of_settleOrder (by rw [order]; exact List.cons_ne_nil _ _)
  rw [pokeLane, poked, drainTest_of_not_drained notDrained]

/-- R105, R117: an examination of the cursor, or a retry where its sheet waits, settles the cursor again. -/
theorem exec_settles_cursor (l : Fin 8) (s : State) :
    exec (if cursorWait s l = [] then .settlement l else .queueWaitRetry l) s = .next (kickPorts (pokeLane l s)) := by
  split
  case isTrue free =>
    change Host.Outcome.next (kickPorts (drainTest l (examine l s))) = _
    rw [examine, if_pos free]
    rfl
  case isFalse waits =>
    change execQueueWaitRetry l s = _
    rw [execQueueWaitRetry, if_neg waits]

/-! ### Patch words and malformed frames (R85, R92) -/

section
variable {s : State} {l : Fin 8} {frame : List Byte}

theorem exec_patch {tag : Nat} {word : BitVec 32} (read : readLaneFrame frame = .patch tag word) :
    exec (.patch l frame) s = .next (takePatch l tag word s) := by
  change execPatch l frame s = _
  unfold execPatch laneFrameArrives
  rw [read]

theorem takePatch_of_no_sheet {tag : Nat} (intake : intakeSheet s l tag = none) (word : BitVec 32) :
    takePatch l tag word s = s := by
  unfold takePatch
  rw [intake]

theorem takePatch_of_sheet {tag : Nat} {g : Tag} {r : Sheet} (intake : intakeSheet s l tag = some r)
    (found : s.sheet? g = some r) (word : BitVec 32) :
    takePatch l tag word s = s.modSheet g (fun q => { q with patch := some (q.patch.getD word) }) := by
  unfold takePatch
  rw [intake, ← State.tag_of_sheet? found]

/-- R92: a later patch word is discarded. -/
theorem modSheet_of_patched {g : Tag} {r : Sheet} (unique : (s.sheets.map Sheet.tag).Nodup)
    (found : s.sheet? g = some r) (patched : r.patch ≠ none) (word : BitVec 32) :
    s.modSheet g (fun q => { q with patch := some (q.patch.getD word) }) = s := by
  obtain ⟨w, first⟩ := Option.ne_none_iff_exists'.mp patched
  have kept : ({ r with patch := some (r.patch.getD word) } : Sheet) = r := by rw [first, Option.getD_some, ← first]
  rw [State.modSheet_congr (k := id) unique found kept]
  simp [State.modSheet]

theorem exec_malformed (read : readLaneFrame frame = .malformed) :
    exec (.malformedFrame l frame) s = .next (countMalformed l s) := by
  change execMalformedFrame l frame s = _
  unfold execMalformedFrame laneFrameArrives
  rw [read]

end

/-- Settles O51: the frame names no unsettled sheet of the lane, or one that then gets INCOMPLETE or a patch word; with
INCOMPLETE new on the cursor sheet the lane's cursor is settled again, to no effect on a sheet that is not ready. -/
theorem headFramesTakenOrCounted : Obligations.HeadFramesTakenOrCounted := by
  intro s l frame number g astray unsettled
  have intake : ∀ r, unsettled r → intakeSheet s l number = some r := fun r ⟨named, own, found, state⟩ => by
    rw [named]
    exact intakeSheet_of_unsettled own found state
  refine ⟨fun side index last payload read => ⟨fun lost => ?_, fun r live dropped => ?_⟩,
    fun word read => ⟨fun r live _ => ?_, fun r live patched unique => ?_, fun lost => ?_⟩, exec_malformed⟩
  · refine ⟨_, exec_strip read, ?_⟩
    rw [interior_kickPorts, takeStrip_of_no_sheet (intakeSheet_of_astray lost), orphanStrip, interior_raise]
    rfl
  · obtain ⟨named, own, found, state⟩ := live
    have run := exec_strip (s := s) (l := l) read
    have refused : stripInTurn s r side index = false ∨ blockSource s r = .nowhere := by
      rcases dropped with large | none | out
      · exact .inl (stripInTurn_eq_false (.inl large))
      · exact .inr ((blockSource_eq_nowhere_iff s r).mpr none)
      · exact .inl (stripInTurn_eq_false (.inr out))
    rw [takeStrip_of_dropped (intake r ⟨named, own, found, state⟩) refused, State.tag_of_sheet? found] at run
    refine ⟨fun had => ⟨_, run, ?_⟩, fun new => ?_⟩
    · rw [interior_kickPorts, addIncomplete_of_incomplete found had]
    · rw [addIncomplete_of_new found new, own] at run
      refine ⟨fun stays => ⟨_, run, ?_⟩, fun head => ⟨_, kickPorts (pokeLane l (incompleteAdded g s)), run, ?_, ?_⟩⟩
      · rw [interior_kickPorts]
        split
        next head =>
          rcases stays with elsewhere | ⟨waits, state, jam, aborting, divert⟩
          · exact absurd head elsewhere
          · rw [pokeLane_of_not_ready (s := incompleteAdded g s) head
              (cursorReady_incompleteAdded found waits state jam aborting divert)]
            rfl
        next => rfl
      · rw [← cursorWait_incompleteAdded found head]
        exact exec_settles_cursor l (incompleteAdded g s)
      · rw [if_pos head]
  · have ⟨_, _, found, _⟩ := live
    rw [exec_patch read, takePatch_of_sheet (intake r live) found]
  · have ⟨_, _, found, _⟩ := live
    rw [exec_patch read, takePatch_of_sheet (intake r live) found, modSheet_of_patched unique found patched]
  · rw [exec_patch read, takePatch_of_no_sheet (intakeSheet_of_astray lost)]

end Sys2Proof.Machine
end

section
/-!
PROOF. Lookups, merged sides and applying patterns: the first entry that fits (R116, R143, R151 to R154).
-/

namespace Sys2Proof.Machine

/-! ### Masked comparisons and first entries -/

/-- R143, R151: a masked comparison agrees on every masked bit. -/
theorem xor_and_eq_zero_iff {n : Nat} (w v mask : BitVec n) :
    (w ^^^ v) &&& mask = 0 ↔ ∀ k, k < n → mask.getLsbD k = true → w.getLsbD k = v.getLsbD k := by
  constructor
  · intro zero k _ masked
    have bit := congrArg (fun x : BitVec n => x.getLsbD k) zero
    simpa [masked] using bit
  · intro agree
    refine BitVec.eq_of_getLsbD_eq fun k hk => ?_
    cases masked : mask.getLsbD k with
    | false => simp [masked]
    | true => simp [masked, agree k hk masked]

/-- The first entry of a list that fits is found. -/
theorem find?_of_first {α : Type} {xs : List α} {p : α → Bool} {i : Nat} (hi : i < xs.length) (fits : p xs[i] = true)
    (first : ∀ j (hj : j < i), p xs[j] = false) : xs.find? p = some xs[i] :=
  List.find?_eq_some_iff_getElem.mpr ⟨fits, i, hi, rfl, fun j hj => by rw [first j hj]; rfl⟩

/-! ### The lookup (R152, R153) -/

theorem Separator.fits_iff (p : Separator) (w : BitVec 32) : p.fits w = true ↔
    p.valid = true ∧ ∀ k, k < 32 → p.mask.getLsbD k = true → w.getLsbD k = p.value.getLsbD k := by
  rw [Separator.fits, Bool.and_eq_true, decide_eq_true_iff, xor_and_eq_zero_iff]

theorem RouteEntry.matchesClass_iff (e : RouteEntry) (c : BitVec 6) : e.matchesClass c = true ↔
    ∀ k, k < 6 → e.classMask.getLsbD k = true → c.getLsbD k = e.classValue.getLsbD k := by
  rw [RouteEntry.matchesClass, decide_eq_true_iff, xor_and_eq_zero_iff]

theorem RouteEntry.fits_iff (e : RouteEntry) (c : BitVec 6) (side : Side) (kind : Kind) : e.fits c side kind = true ↔
    e.valid = true ∧ (∀ k, k < 6 → e.classMask.getLsbD k = true → c.getLsbD k = e.classValue.getLsbD k) ∧
      e.hasSide side = true ∧ e.hasKind kind = true := by
  simp only [RouteEntry.fits, Bool.and_eq_true, RouteEntry.matchesClass_iff, and_assoc]

/-- R150, R152: an entry of the active bank. -/
theorem activeEntries_getElem (s : State) (i : Fin 64) : (match s.activeBank with
    | .b0 => s.bank0[i.val]
    | .b1 => s.bank1[i.val]) = s.activeEntries[i.val] := by
  unfold State.activeEntries
  cases s.activeBank <;> rfl

section
variable {s : State} {c : BitVec 6} {side : Side} {kind : Kind} {entry : Fin 64 → RouteEntry}
  (bank : ∀ i, entry i = s.activeEntries[i.val])
include bank

theorem lookup_of_first {i : Fin 64} (fits : (entry i).fits c side kind = true)
    (first : ∀ j, j < i → ¬ (entry j).fits c side kind = true) :
    lookup s c side kind = (entry i).dests.filter (fun x => (s.dest x).enabled) := by
  simp only [bank] at fits first ⊢
  have found := find?_of_first (xs := s.activeEntries.toList) (p := fun e => e.fits c side kind) (i := i.val)
    (by simp) (by simpa using fits) (fun j hj => by simpa using first ⟨j, hj.trans i.isLt⟩ hj)
  simp only [lookup, found, Vector.getElem_toList]

theorem lookup_of_none (none : ∀ i, ¬ (entry i).fits c side kind = true) : lookup s c side kind = [] := by
  have absent : s.activeEntries.toList.find? (fun e => e.fits c side kind) = Option.none := by
    refine List.find?_eq_none.mpr fun e listed => ?_
    obtain ⟨i, hi, rfl⟩ := List.getElem_of_mem listed
    simpa [bank] using none ⟨i, by simpa using hi⟩
  simp only [lookup, absent]

end

/-! ### The sides merged (R116, R154) -/

/-- The strips of a side. -/
def Sheet.strips (r : Sheet) : Side → List Nat
  | .front => r.front
  | .back => r.back

/-- R116: only a side with strips is looked up, and it has a route or the sheet has none. -/
theorem routeSide_eq (s : State) (r : Sheet) (side : Side) (kind : Kind) : routeSide s r side kind =
    if r.strips side = [] then some []
    else if lookup s (s.batchOf r.batch).routeClass side kind = [] then none
    else some (lookup s (s.batchOf r.batch).routeClass side kind) := by
  have answer : routeSide s r side kind = if r.strips side = [] then some []
      else match lookup s (s.batchOf r.batch).routeClass side kind with
        | [] => none
        | ds => some ds := by
    cases side <;> rfl
  rw [answer]
  cases lookup s (s.batchOf r.batch).routeClass side kind <;> rfl

theorem routeSide_eq_none_iff (s : State) (r : Sheet) (side : Side) (kind : Kind) : routeSide s r side kind = none ↔
    r.strips side ≠ [] ∧ lookup s (s.batchOf r.batch).routeClass side kind = [] := by
  rw [routeSide_eq]
  split
  · simp_all
  · split <;> simp_all

theorem routeSide_of_routed {s : State} {r : Sheet} {side : Side} {kind : Kind}
    (routed : r.strips side ≠ [] → lookup s (s.batchOf r.batch).routeClass side kind ≠ []) :
    routeSide s r side kind = some (if r.strips side = [] then []
      else lookup s (s.batchOf r.batch).routeClass side kind) := by
  rw [routeSide_eq]
  split
  · rfl
  next strips => rw [if_neg (routed strips)]

/-- R116: the entry of a destination that a side named, else none. -/
theorem entryFor_eq_some_iff (r : Sheet) (kind : Kind) (f b : List (Fin 16)) (d x : Fin 16) (e : DeliveryEntry) :
    entryFor r kind f b d = some (x, e) ↔ (d ∈ f ∨ d ∈ b) ∧ x = d ∧ e =
      { sheet := r.tag, front := decide (d ∈ f), back := decide (d ∈ b), kind := kind
        strips := (if d ∈ f then r.front.length else 0) + (if d ∈ b then r.back.length else 0) } := by
  unfold entryFor
  simp only [Bool.or_eq_true, decide_eq_true_iff]
  split
  next named =>
    rw [Option.some.injEq, Prod.mk.injEq, and_iff_right named]
    exact ⟨fun ⟨x, e⟩ => ⟨x.symm, e.symm⟩, fun ⟨x, e⟩ => ⟨x.symm, e.symm⟩⟩
  next other => simp [other]

/-- R116: the merged entries stand in ascending destination order. -/
theorem mergedEntries_ascending (r : Sheet) (kind : Kind) (f b : List (Fin 16)) :
    ((allDests.filterMap (entryFor r kind f b)).map Prod.fst).Pairwise (fun x y => x < y) := by
  have ascending : allDests.Pairwise (fun x y => x < y) := by decide
  rw [List.pairwise_map]
  refine List.pairwise_filterMap.mpr (ascending.imp fun {x y} less p hp q hq => ?_)
  obtain ⟨-, px, -⟩ := (entryFor_eq_some_iff r kind f b x p.1 p.2).mp hp
  obtain ⟨-, qy, -⟩ := (entryFor_eq_some_iff r kind f b y q.1 q.2).mp hq
  rwa [px, qy]

theorem mem_allDests (x : Fin 16) : x ∈ allDests := (show ∀ y : Fin 16, y ∈ allDests by decide) x

theorem mem_mergedEntries (r : Sheet) (kind : Kind) (f b : List (Fin 16)) (x : Fin 16) (e : DeliveryEntry) :
    (x, e) ∈ allDests.filterMap (entryFor r kind f b) ↔ (x ∈ f ∨ x ∈ b) ∧ e =
      { sheet := r.tag, front := decide (x ∈ f), back := decide (x ∈ b), kind := kind
        strips := (if x ∈ f then r.front.length else 0) + (if x ∈ b then r.back.length else 0) } := by
  simp only [List.mem_filterMap, entryFor_eq_some_iff]
  constructor
  · rintro ⟨d, -, named, rfl, same⟩
    exact ⟨named, same⟩
  · rintro ⟨named, same⟩
    exact ⟨x, mem_allDests x, named, rfl, same⟩

theorem deliveryEntries_eq_none {s : State} {r : Sheet} {kind : Kind} {side : Side}
    (unrouted : r.strips side ≠ [] ∧ lookup s (s.batchOf r.batch).routeClass side kind = []) :
    deliveryEntries s r kind = none := by
  have none := (routeSide_eq_none_iff s r side kind).mpr unrouted
  unfold deliveryEntries
  cases side with
  | front => rw [none]
  | back =>
    rw [none]
    split
    · simp_all
    · rfl

theorem deliveryEntries_of_routed {s : State} {r : Sheet} {kind : Kind}
    (routed : ∀ side, r.strips side ≠ [] → lookup s (s.batchOf r.batch).routeClass side kind ≠ []) :
    deliveryEntries s r kind = some (allDests.filterMap (entryFor r kind
      (if r.front = [] then [] else lookup s (s.batchOf r.batch).routeClass .front kind)
      (if r.back = [] then [] else lookup s (s.batchOf r.batch).routeClass .back kind))) := by
  unfold deliveryEntries
  rw [routeSide_of_routed (routed .front), routeSide_of_routed (routed .back)]
  rfl

/-! ### The applying pattern (R143) -/

section
variable {s : State} {r : Sheet} {w : BitVec 32}

/-- R143: pattern `i` is in the mask of the sheet's batch and matches the word. -/
def patternFits (s : State) (r : Sheet) (w : BitVec 32) (i : Fin 8) : Bool :=
  (s.batchOf r.batch).mask.getLsbD i.val && (s.separators[i.val]).fits w

theorem separatorMatch_of_patch (clean : r.findings.measurement = false) (patch : r.patch = some w) :
    separatorMatch s r = allLines.find? (patternFits s r w) := by
  rw [separatorMatch, clean, patch]
  rfl

theorem separatorMatch_of_first (clean : r.findings.measurement = false) (patch : r.patch = some w) {i : Fin 8}
    (fits : patternFits s r w i = true) (first : ∀ j, j < i → ¬ patternFits s r w j = true) :
    separatorMatch s r = some i := by
  have lines : allLines = List.finRange 8 := by decide
  have found := find?_of_first (xs := List.finRange 8) (p := patternFits s r w) (i := i.val) (by simp)
    (by simpa using fits) (fun j hj => by simpa using first ⟨j, hj.trans i.isLt⟩ hj)
  rw [separatorMatch_of_patch clean patch, lines, found, List.getElem_finRange]
  rfl

theorem separatorMatch_of_none (clean : r.findings.measurement = false) (patch : r.patch = some w)
    (none : ∀ i, ¬ patternFits s r w i = true) : separatorMatch s r = Option.none := by
  rw [separatorMatch_of_patch clean patch]
  exact List.find?_eq_none.mpr fun i _ => none i

end

/-- Settles O32: each search takes the first entry that fits, and the merge goes through the destinations in order. -/
theorem lookupTakesFirstFit : Obligations.LookupTakesFirstFit := by
  refine ⟨fun s r kind => ⟨?_, fun front back => ?_⟩, fun s r => ⟨fun none => ?_, fun w clean patch => ?_⟩,
    fun s c side kind => ?_⟩
  · rintro (unrouted | unrouted)
    · exact deliveryEntries_eq_none (side := .front) unrouted
    · exact deliveryEntries_eq_none (side := .back) unrouted
  · have routed := deliveryEntries_of_routed (s := s) (r := r) (kind := kind) fun side => by
      cases side with
      | front => exact front
      | back => exact back
    exact ⟨_, routed, mergedEntries_ascending _ _ _ _, mem_mergedEntries _ _ _ _⟩
  · exact separatorMatch_eq_none none.symm
  · have pattern : ∀ i : Fin 8, patternFits s r w i = true ↔ (s.batchOf r.batch).mask.getLsbD i.val = true ∧
        (s.separators[i.val]).valid = true ∧ ∀ k, k < 32 → (s.separators[i.val]).mask.getLsbD k = true →
          w.getLsbD k = (s.separators[i.val]).value.getLsbD k := fun i => by
      rw [patternFits, Bool.and_eq_true, Separator.fits_iff]
    simp only [← pattern]
    exact ⟨fun i fits first => separatorMatch_of_first clean patch fits first, separatorMatch_of_none clean patch⟩
  · have bank := activeEntries_getElem s
    exact ⟨fun i fits first => lookup_of_first bank ((RouteEntry.fits_iff _ c side kind).mpr fits)
        fun j less fits => first j less ((RouteEntry.fits_iff _ c side kind).mp fits),
      fun none => lookup_of_none bank fun i fits => none i ((RouteEntry.fits_iff _ c side kind).mp fits)⟩

end Sys2Proof.Machine
end

section
/-!
PROOF. RESOLVE (R118, R121, R122, R124, R132): a held sheet released under a kind, or discarded; its batch, which can close.
-/

namespace Sys2Proof.Machine

/-! ### The held sheet named (R121) -/

/-- R121: the body runs on the listed sheet whose tag and whose choice the parameters name. -/
theorem withHeld_of_listed {choice : Nat} (body : HeldEntry → State → Executed) {ps : List Byte} {s : State}
    {e : HeldEntry} (length : ps.length = 3) (named : rd ps 0 2 = tagCode e.tag) (chosen : rd ps 2 1 = choice)
    (listed : s.held.find? (fun h => decide (h.tag = e.tag)) = some e) :
    withLength 3 (withHeld choice body) ps s = body e s := by
  unfold withLength withHeld
  rw [if_pos length, named, tagOf_tagCode]
  simp only [chosen, listed]
  exact if_neg (not_not_intro rfl)

/-! ### Both tests of a batch (R132, R137) -/

theorem finishBatch_batch? (final : FinalState) {id : Nat} {s : State} {b : Batch} (found : s.batch? id = some b) :
    (finishBatch final id s).batch? id = none := by
  rw [batch?_of_interior (interior_finishBatch final found), batch?_reportedOf, if_pos (State.id_of_batch? found).symm]

/-- R132, R137: all that the two tests can do. -/
theorem interior_testBatch {id : Nat} {s : State} {b : Batch} (found : s.batch? id = some b) :
    (testBatch id s).interior =
      (if b.state = .ended ∧ b.heldNow = 0 ∧ b.deliveriesPending = 0 then reportedOf b .closed s
      else if b.state = .aborted ∧ s.inLaneQueue b = false ∧ b.deliveriesPending = 0 then reportedOf b .aborted s
      else s).interior := by
  unfold testBatch
  by_cases closes : b.state = .ended ∧ b.heldNow = 0 ∧ b.deliveriesPending = 0
  · have closed : testClosure id s = finishBatch .closed id s := by
      unfold testClosure
      simp only [found]
      exact if_pos closes
    have gone := finishBatch_batch? .closed found
    rw [if_pos closes, ← interior_finishBatch .closed found, closed]
    unfold testAbort
    rw [gone]
  · have open_ : testClosure id s = s := by
      unfold testClosure
      simp only [found]
      exact if_neg closes
    rw [if_neg closes, open_, interior_testAbort found]
    exact (apply_ite State.interior _ _ _).symm

/-- R132: a batch that is not ABORTED can only close. -/
theorem interior_testBatch_of_live {id : Nat} {s : State} {b : Batch} (found : s.batch? id = some b)
    (live : b.state ≠ .aborted) : (testBatch id s).interior =
      (if b.state = .ended ∧ b.heldNow = 0 ∧ b.deliveriesPending = 0 then reportedOf b .closed s else s).interior := by
  rw [interior_testBatch found, if_neg (c := b.state = .aborted ∧ _) fun h => live h.1]

theorem keepsReplies_testBatch (id : Nat) (s : State) : KeepsReplies s (testBatch id s) :=
  (keepsReplies_testClosure id s).trans (keepsReplies_testAbort id _)

/-! ### RESOLVE DISCARD (R122) -/

/-- The state with the held sheet `e` off the list (R121, R122). -/
def unlisted (e : HeldEntry) (s : State) : State :=
  { s with held := s.held.filter (fun h => decide (h.tag ≠ e.tag)) }

/-- What the discard of a held sheet makes of its batch (R122). -/
def Batch.discardedHeld (c : Batch) : Batch :=
  { c with heldNow := c.heldNow - 1, discarded := min (c.discarded + 1) 65535, gaps := min (c.gaps + 1) 65535 }

theorem discardHeld_of_sheet? {e : HeldEntry} {s : State} {r : Sheet} (found : s.sheet? e.tag = some r) :
    discardHeld e s = freedOf r ((unlisted e s).modBatch e.batch Batch.discardedHeld) := freeRecord_of_sheet? (by exact found)

theorem keepsReplies_discardHeld (e : HeldEntry) (s : State) : KeepsReplies s (discardHeld e s) := by
  refine .trans ?_ (keepsReplies_freeRecord e.tag _)
  exact ⟨rfl, rfl, rfl, rfl⟩

/-- R122, R124, R132: all that the discard of a held sheet does. -/
theorem interior_resolveDiscard {e : HeldEntry} {s : State} {r : Sheet} {b : Batch} (found : s.sheet? e.tag = some r)
    (batch : s.batch? e.batch = some b) (live : b.state ≠ .aborted) :
    (testBatch e.batch (discardHeld e s)).interior =
      (if b.state = .ended ∧ b.heldNow ≤ 1 ∧ b.deliveriesPending = 0 then
        reportedOf b.discardedHeld .closed (freedOf r (unlisted e s))
      else freedOf r ((unlisted e s).modBatch e.batch Batch.discardedHeld)).interior := by
  have counted : (freedOf r ((unlisted e s).modBatch e.batch Batch.discardedHeld)).batch? e.batch = some b.discardedHeld :=
    (State.batch?_modBatch_same (unlisted e s) e.batch Batch.discardedHeld (fun _ => rfl)).trans
      (congrArg (Option.map _) batch)
  have own : b.id = e.batch := State.id_of_batch? batch
  have reported : reportedOf b.discardedHeld .closed (freedOf r ((unlisted e s).modBatch e.batch Batch.discardedHeld)) =
      reportedOf b.discardedHeld .closed (freedOf r (unlisted e s)) :=
    reportedOf_modBatch (b := b.discardedHeld) (f := Batch.discardedHeld) own .closed (freedOf r (unlisted e s))
      (fun _ => rfl)
  have last : b.heldNow - 1 = 0 ↔ b.heldNow ≤ 1 := Nat.sub_eq_zero_iff_le
  rw [discardHeld_of_sheet? found, interior_testBatch_of_live counted live, reported]
  simp only [Batch.discardedHeld, last]

/-- Settles O25: the discard leaves the freed record and the counted batch, which is then tested. -/
theorem resolveDiscardFreesHeldSheet : Obligations.ResolveDiscardFreesHeldSheet := by
  intro s d e r b wait length named chosen listed found batch live
  have run := runDirective_keeps (u := testBatch e.batch (discardHeld e s.dequeued)) wait
    (withHeld_of_listed resolveDiscard length named chosen listed)
    ((keepsReplies_discardHeld e _).trans (keepsReplies_testBatch _ _))
  have left := interior_resolveDiscard (s := s.dequeued) found batch live
  obtain ⟨t, runs, answers, same⟩ := run
  refine ⟨t, runs, answers, same.trans (left.trans ?_)⟩
  split <;> rfl

/-! ### RESOLVE ACCEPT and REVIEW (R118, R121) -/

/-- What the release of a held sheet with `n` entries makes of its batch (R118, R121). -/
def Batch.releasedHeld (n : Nat) (c : Batch) : Batch :=
  { c with
    heldNow := c.heldNow - 1, released := min (c.released + 1) 65535
    deliveriesPending := min (c.deliveriesPending + n) 65535 }

/-- What it writes into the sheet's record (R118, R121). -/
def Sheet.resolvedAs (kind : Kind) (bank : Bank) (n : Nat) (sep : Option (Fin 8)) (q : Sheet) : Sheet :=
  { q.sentAs kind bank n with separatorMatch := if sep.isSome then sep else q.separatorMatch }

/-- The state with a held sheet's entries at its destinations. -/
def heldPlaced (e : HeldEntry) (es : List (Fin 16 × DeliveryEntry)) (s : State) : State :=
  es.foldl appendEntry ((unlisted e s).modBatch e.batch (fun c =>
    { c with heldNow := c.heldNow - 1, released := addSat c.released 1 }))

/-- The state with the held sheet released, its record kept. -/
def heldReleased (e : HeldEntry) (kind : Kind) (sep : Option (Fin 8)) (es : List (Fin 16 × DeliveryEntry)) (s : State) :
    State :=
  ((heldPlaced e es s).modSheet e.tag (Sheet.resolvedAs kind s.activeBank es.length sep)).modBatch e.batch
    (Batch.delivering es.length)

section
variable {s : State} {e : HeldEntry} {r : Sheet} {kind : Kind} {es : List (Fin 16 × DeliveryEntry)}
  (sep : Option (Fin 8))

/-- Placing the entries leaves all but destinations, flags and notices. -/
theorem heldPlaced_read {α : Type} (part : State → α)
    (hp : ∀ u d f n p k, part { u with dests := d, flags := f, notices := n, pendingLost := p, lostCount := k } = part u) :
    part (heldPlaced e es s) = part ((unlisted e s).modBatch e.batch (fun c =>
      { c with heldNow := c.heldNow - 1, released := addSat c.released 1 })) :=
  (onlyPlaces_appendEntries es _).read part hp

theorem dest_heldReleased (x : Fin 16) : (heldReleased e kind sep es s).dest x = { s.dest x with
    queue := (s.dest x).queue ++ (es.filter (fun y => decide (y.1 = x))).map Prod.snd } :=
  dest_appendEntries es _ x

theorem flag_heldReleased {f : Flag} (warn : ∀ x, f ≠ .dest x .warn) (lost : f ≠ noticeLostFlag) :
    (heldReleased e kind sep es s).flag f = s.flag f := flag_appendEntries es _ warn lost

theorem sheet?_heldReleased_same (found : s.sheet? e.tag = some r) : (heldReleased e kind sep es s).sheet? e.tag =
    some (r.resolvedAs kind s.activeBank es.length sep) := by
  have placed : (heldPlaced e es s).sheet? e.tag = some r :=
    (heldPlaced_read (fun u => u.sheet? e.tag) fun _ _ _ _ _ _ => rfl).trans found
  exact (State.sheet?_modSheet_same (heldPlaced e es s) e.tag (Sheet.resolvedAs kind s.activeBank es.length sep)
    (fun _ => rfl)).trans (congrArg (Option.map _) placed)

theorem sheet?_heldReleased_other {g : Tag} (other : g ≠ e.tag) :
    (heldReleased e kind sep es s).sheet? g = s.sheet? g :=
  (State.sheet?_modSheet_other (heldPlaced e es s) (Sheet.resolvedAs kind s.activeBank es.length sep)
    (fun _ => rfl) other).trans (heldPlaced_read (fun u => u.sheet? g) fun _ _ _ _ _ _ => rfl)

/-- The batch counts the release and the deliveries at once. -/
theorem batches_heldReleased : (heldReleased e kind sep es s).batches =
    (s.modBatch e.batch (Batch.releasedHeld es.length)).batches := by
  have placed : (heldPlaced e es s).batches = _ := heldPlaced_read (fun u => u.batches) fun _ _ _ _ _ _ => rfl
  have once := State.modBatch_modBatch s e.batch (fun c =>
    { c with heldNow := c.heldNow - 1, released := addSat c.released 1 }) (Batch.delivering es.length) (fun _ => rfl)
  refine Eq.trans ?_ (congrArg State.batches once)
  unfold heldReleased State.modBatch State.modSheet
  rw [placed]
  rfl

theorem heldReleased_parts : heldReleased e kind sep es s = { s with
    held := s.held.filter (fun h => decide (h.tag ≠ e.tag))
    sheets := (heldReleased e kind sep es s).sheets, batches := (heldReleased e kind sep es s).batches
    dests := (heldReleased e kind sep es s).dests, flags := (heldReleased e kind sep es s).flags
    notices := (heldReleased e kind sep es s).notices, pendingLost := (heldReleased e kind sep es s).pendingLost
    lostCount := (heldReleased e kind sep es s).lostCount } := by
  unfold heldReleased heldPlaced
  rw [onlyPlaces_appendEntries es]
  rfl

theorem resolveRelease_of_room (found : s.sheet? e.tag = some r) (own : e.batch = r.batch)
    (route : deliveryEntries s r kind = some es) (room : fullDests s es = []) :
    resolveRelease e kind sep s = accept (testBatch e.batch (freeIfIdle e.tag es (heldReleased e kind sep es s))) := by
  have live : ((unlisted e s).modBatch e.batch (fun c =>
      { c with heldNow := c.heldNow - 1, released := addSat c.released 1 })).sheet? e.tag = some r := found
  have delivers : (deliver e.tag kind es ((unlisted e s).modBatch e.batch (fun c =>
      { c with heldNow := c.heldNow - 1, released := addSat c.released 1 }))).modSheet e.tag (fun q =>
        { q with separatorMatch := if sep.isSome then sep else q.separatorMatch }) = heldReleased e kind sep es s := by
    have once := State.modSheet_modSheet (heldPlaced e es s) e.tag (Sheet.sentAs kind s.activeBank es.length)
      (fun q => { q with separatorMatch := if sep.isSome then sep else q.separatorMatch }) (fun _ => rfl)
    unfold deliver
    simp only [live, ← own]
    exact congrArg (fun u : State => u.modBatch e.batch (Batch.delivering es.length)) once
  unfold resolveRelease
  simp only [found, route, room]
  rw [← delivers]
  rfl

theorem keepsReplies_heldReleased : KeepsReplies s (heldReleased e kind sep es s) := by
  rw [heldReleased_parts]
  exact ⟨rfl, rfl, rfl, rfl⟩

theorem keepsReplies_freeIfIdle (g : Tag) (u : State) : KeepsReplies u (freeIfIdle g es u) := by
  unfold freeIfIdle
  split
  · exact keepsReplies_freeRecord g u
  · exact .refl u

theorem freeIfIdle_frame (g : Tag) (u : State) : freeIfIdle g es u = { u with
    sheets := (freeIfIdle g es u).sheets, free := (freeIfIdle g es u).free, reserved := (freeIfIdle g es u).reserved
    allocated := (freeIfIdle g es u).allocated, directory := (freeIfIdle g es u).directory } := by
  unfold freeIfIdle freeRecord
  split
  · split <;> rfl
  · rfl

theorem batch?_freeIfIdle (g : Tag) (u : State) (id : Nat) : (freeIfIdle g es u).batch? id = u.batch? id := by
  rw [freeIfIdle_frame]
  rfl

theorem batch?_heldReleased (id : Nat) : (freeIfIdle e.tag es (heldReleased e kind sep es s)).batch? id =
    (s.modBatch e.batch (Batch.releasedHeld es.length)).batch? id := by
  rw [batch?_freeIfIdle]
  unfold State.batch?
  rw [batches_heldReleased]

/-- R124: without entries the released record is the one freed. -/
theorem freeIfIdle_nil (found : s.sheet? e.tag = some r) : freeIfIdle e.tag [] (heldReleased e kind sep [] s) =
    freedOf r ((unlisted e s).modBatch e.batch (Batch.releasedHeld 0)) := by
  have tag : r.tag = e.tag := State.tag_of_sheet? found
  have counts := State.modBatch_modBatch (unlisted e s) e.batch (fun c =>
    { c with heldNow := c.heldNow - 1, released := addSat c.released 1 }) (Batch.delivering 0) (fun _ => rfl)
  have unmarked : freedOf r ((unlisted e s).modSheet e.tag (Sheet.resolvedAs kind s.activeBank 0 sep)) =
      freedOf r (unlisted e s) := by
    rw [← tag]
    exact freedOf_modSheet r (unlisted e s) _ (fun _ => rfl)
  calc freeIfIdle e.tag [] (heldReleased e kind sep [] s)
      _ = freedOf (r.resolvedAs kind s.activeBank 0 sep) (heldReleased e kind sep [] s) :=
        freeRecord_of_sheet? (sheet?_heldReleased_same (es := []) sep found)
      _ = (((freedOf r ((unlisted e s).modSheet e.tag (Sheet.resolvedAs kind s.activeBank 0 sep))).modBatch e.batch
            (fun c => { c with heldNow := c.heldNow - 1, released := addSat c.released 1 })).modBatch e.batch
              (Batch.delivering 0)) := rfl
      _ = freedOf r ((unlisted e s).modBatch e.batch (Batch.releasedHeld 0)) := by
        rw [unmarked]
        exact congrArg (freedOf r) counts

variable {b : Batch} (batch : s.batch? e.batch = some b)
include batch

/-- R132: the batch closes with its last held sheet, when no entry is placed and no delivery pending. -/
theorem interior_heldReleased_tested (live : b.state ≠ .aborted) :
     (testBatch e.batch (freeIfIdle e.tag es (heldReleased e kind sep es s))).interior =
    (if b.state = .ended ∧ es = [] ∧ b.heldNow ≤ 1 ∧ b.deliveriesPending = 0 then
      reportedOf (b.releasedHeld es.length) .closed (freeIfIdle e.tag es (heldReleased e kind sep es s))
    else freeIfIdle e.tag es (heldReleased e kind sep es s)).interior := by
  have counted : (freeIfIdle e.tag es (heldReleased e kind sep es s)).batch? e.batch =
      some (b.releasedHeld es.length) := by
    rw [batch?_heldReleased]
    exact (State.batch?_modBatch_same s e.batch (Batch.releasedHeld es.length) (fun _ => rfl)).trans
      (congrArg (Option.map _) batch)
  have none : es.length = 0 ↔ es = [] := List.length_eq_zero_iff
  have closes : (b.releasedHeld es.length).state = .ended ∧ (b.releasedHeld es.length).heldNow = 0 ∧
      (b.releasedHeld es.length).deliveriesPending = 0 ↔
        b.state = .ended ∧ es = [] ∧ b.heldNow ≤ 1 ∧ b.deliveriesPending = 0 := by
    rw [← none]
    simp only [Batch.releasedHeld]
    exact and_congr_right fun _ => by omega
  rw [interior_testBatch_of_live counted live]
  simp only [closes]

/-- R121, R132: the closed batch's report, and the record freed. -/
theorem reportedOf_heldReleased (empty : es = []) (pending : b.deliveriesPending = 0) (found : s.sheet? e.tag = some r) :
    reportedOf (b.releasedHeld es.length) .closed (freeIfIdle e.tag es (heldReleased e kind sep es s)) =
      reportedOf { b with heldNow := b.heldNow - 1, released := min (b.released + 1) 65535 } .closed
        (freedOf r (unlisted e s)) := by
  subst empty
  have own : b.id = e.batch := State.id_of_batch? batch
  have same : b.releasedHeld 0 = { b with heldNow := b.heldNow - 1, released := min (b.released + 1) 65535 } := by
    simp [Batch.releasedHeld, pending]
  rw [freeIfIdle_nil sep found, List.length_nil, same]
  exact reportedOf_modBatch (b := { b with heldNow := b.heldNow - 1, released := min (b.released + 1) 65535 })
    (f := Batch.releasedHeld 0) own .closed (freedOf r (unlisted e s)) (fun _ => rfl)

/-- R118, R121: what the release leaves of sheet, destinations, batch and flags. -/
theorem left_of_heldReleased {t : State} (found : s.sheet? e.tag = some r)
    (same : t.interior = (freeIfIdle e.tag es (heldReleased e kind sep es s)).interior) :
    t.held = s.held.filter (fun h => decide (h.tag ≠ e.tag)) ∧
    releasedAs r es (r.resolvedAs kind s.activeBank es.length sep) s t ∧
    t.batch? e.batch = some (b.releasedHeld es.length) ∧ (∀ k, k ≠ e.batch → t.batch? k = s.batch? k) ∧
    (∀ f, (∀ x, f ≠ .dest x .warn) → f ≠ noticeLostFlag → t.flag f = s.flag f) ∧
    t.interior = ({ s with
      held := t.held, sheets := t.sheets, batches := t.batches, dests := t.dests, flags := t.flags, free := t.free
      reserved := t.reserved, allocated := t.allocated, directory := t.directory } : State).interior := by
  have tag : r.tag = e.tag := State.tag_of_sheet? found
  set u := heldReleased e kind sep es s with hu
  have frame := freeIfIdle_frame (es := es) e.tag u
  have dests (x : Fin 16) : (freeIfIdle e.tag es u).dest x = { s.dest x with
      queue := (s.dest x).queue ++ (es.filter (fun y => decide (y.1 = x))).map Prod.snd } := by
    rw [frame]
    exact dest_heldReleased (kind := kind) sep x
  refine ⟨?_, ⟨fun x => ?_, fun x => ?_, fun empty => ?_, fun some => ?_, fun g other => ?_⟩, ?_, fun k other => ?_,
    fun f warn lost => ?_, ?_⟩
  · rw [held_of_interior same, frame, hu, heldReleased_parts]
  · rw [queue_of_interior same, dests]
  · have own := dest_of_interior same x
    rw [dests] at own
    exact congrArg (fun y : Dest => { y with queue := (s.dest x).queue, credit := (s.dest x).credit }) own
  · rw [sheet?_of_interior same, freeIfIdle, if_pos (by simp [empty]), tag, sheet?_freeRecord, if_pos rfl]
  · rw [sheet?_of_interior same, freeIfIdle, if_neg (by simp [some]), tag, hu, sheet?_heldReleased_same sep found]
  · rw [tag] at other
    rw [sheet?_of_interior same, freeIfIdle]
    split
    · rw [sheet?_freeRecord, if_neg other, hu, sheet?_heldReleased_other sep other]
    · rw [hu, sheet?_heldReleased_other sep other]
  · rw [batch?_of_interior same, hu, batch?_heldReleased]
    exact (State.batch?_modBatch_same s e.batch (Batch.releasedHeld es.length) (fun _ => rfl)).trans
      (congrArg (Option.map _) batch)
  · rw [batch?_of_interior same, hu, batch?_heldReleased]
    exact State.batch?_modBatch_other s (Batch.releasedHeld es.length) (fun _ => rfl) other
  · rw [flag_of_interior same lost, frame]
    exact flag_heldReleased (kind := kind) sep warn lost
  · refine interior_eq_patched (fun v => { s with
      held := v.held, sheets := v.sheets, batches := v.batches, dests := v.dests, flags := v.flags, free := v.free
      reserved := v.reserved, allocated := v.allocated, directory := v.directory, notices := v.notices
      pendingLost := v.pendingLost, lostCount := v.lostCount }) (fun v => by simp [State.interior]) same ?_
    rw [frame, hu, heldReleased_parts]

end

/-- R118, R143: the kind that an ACCEPT gives, and the match it records. -/
theorem acceptKind_eq {s : State} {r : Sheet} {kind : Kind} {sep : Option (Fin 8)}
    (choice : (∃ i : Fin 8, separatorMatch s r = some i ∧ (s.separators[i.val]).keep = true ∧ kind = .separator ∧
        sep = some i) ∨
      ((∀ i : Fin 8, separatorMatch s r = some i → (s.separators[i.val]).keep = false) ∧ kind = .ordinary ∧
        sep = none)) : acceptKind s r = (kind, sep) := by
  unfold acceptKind
  rcases choice with ⟨i, fits, keep, rfl, rfl⟩ | ⟨unkept, rfl, rfl⟩
  · simp only [fits]
    exact if_pos keep
  · cases fits : separatorMatch s r with
    | none => rfl
    | some i => exact if_neg (by simp [unkept i fits])

/-- Settles O24: both choices run the same release, of which the batch's test is the last step. -/
theorem resolveReleasesHeldSheet : Obligations.ResolveReleasesHeldSheet := by
  intro s d e r b es kind sep length named listed found own batch live route room closes closed left
  have held : s.batch? e.batch = some b := by rwa [own]
  have released {row : DirectiveRow} {choice : Nat} {body : HeldEntry → State → Executed} (wait : waiting row d s)
      (chosen : rd d.params 2 1 = choice) (runs : body e s.dequeued = resolveRelease e kind sep s.dequeued) :
      ∃ t, (Host.Outcome.next (runDirective row (withLength 3 (withHeld choice body)) s) : Answer) = .next t ∧
        (¬ closes → left t) ∧ (closes → closed t) := by
    have answer := (withHeld_of_listed body length named chosen (s := s.dequeued) listed).trans
      (runs.trans (resolveRelease_of_room (s := s.dequeued) sep found own route room))
    obtain ⟨t, run, answers, same⟩ := runDirective_keeps wait answer (((keepsReplies_heldReleased sep).trans
      (keepsReplies_freeIfIdle e.tag _)).trans (keepsReplies_testBatch _ _))
    replace same := same.trans (interior_heldReleased_tested sep (s := s.dequeued) (by exact held) live)
    refine ⟨t, run, fun stays => ?_, fun ends => ⟨answers, ?_⟩⟩
    · rw [if_neg stays] at same
      obtain ⟨list, record, count, others, flags, rest⟩ :=
        left_of_heldReleased sep (s := s.dequeued) (by exact held) found same
      rw [own] at count others
      exact ⟨answers, list, record, count, others, flags, rest⟩
    · rw [if_pos ends] at same
      obtain ⟨-, empty, -, pending⟩ := ends
      rw [reportedOf_heldReleased sep (s := s.dequeued) (by exact held) empty pending found] at same
      exact same
  refine ⟨fun wait chosen choice => released wait chosen ?_, fun wait chosen suspect none => released wait chosen ?_⟩
  · have kinds : acceptKind s.dequeued r = (kind, sep) := acceptKind_eq (s := s.dequeued) choice
    have live : s.dequeued.sheet? e.tag = some r := found
    unfold resolveAccept
    simp only [live, kinds]
  · rw [suspect, none]
    rfl

end Sys2Proof.Machine
end

section
/-!
PROOF. The end of a frame on an archive port: what the port begins next, and what the end of an archive frame leaves of its
delivery (R117, R124, R132, R137, R166, R171 to R176).
-/

namespace Sys2Proof.Machine

/-! ### What an idle port begins (R171, R172) -/

theorem State.modPort_modPort (s : State) (p : Port) (f g : PortState → PortState) :
    (s.modPort p f).modPort p g = s.modPort p (g ∘ f) := by
  cases p <;> rfl

/-- R172: what a participant of port `p` is depends on the port's deliveries by their destinations alone. -/
theorem roundRobin_modPort {s : State} {p : Port} {f : PortState → PortState} (rr : (f (s.port p)).rr = (s.port p).rr)
    (current : ∀ d, isOf d (f (s.port p)).current = isOf d (s.port p).current)
    (suspended : (f (s.port p)).suspended = (s.port p).suspended) (level : Fin 4) :
    roundRobin (s.modPort p f) p level = roundRobin s p level := by
  have same : participant (s.modPort p f) p level = participant s p level := by
    funext d
    have dest : (s.modPort p f).dest d = s.dest d := by cases p <;> rfl
    simp only [participant, State.port_modPort_same, current, suspended, dest]
  simp only [roundRobin, State.port_modPort_same, rr, same]

theorem nextFrame_modPort (s : State) (p : Port) (f : PortState → PortState) (c : Delivery) :
    nextFrame (s.modPort p f) c = nextFrame s c := by
  cases p <;> rfl

section
variable {s : State} {p : Port} (up : (s.port p).linkUp = true) (idle : (s.port p).tx = none)
include up idle

theorem boundary_sends_reply {r0 : Reply} {rest : List Reply} (waiting : (s.port p).replies = r0 :: rest) :
    boundary p s = sendReply p r0 rest s := by
  simp [boundary, up, idle, waiting]

variable (answered : (s.port p).replies = []) (quiet : s.notices.find? (fun m => decide (m.port = p)) = none)
include answered quiet

theorem boundary_chooses : boundary p s = chooseDelivery p s := by
  simp [boundary, up, idle, answered, quiet]

theorem boundary_sends_strip {c : Delivery} {next : List Byte} (current : (s.port p).current = some c)
    (calm : roundRobin s p 3 = none) (strip : nextFrame s c = some next) :
    boundary p s = s.modPort p (fun q => { q with tx := some (.archive next) }) := by
  rw [boundary_chooses up idle answered quiet]
  simp [chooseDelivery, current, calm, sendStrip, strip]

theorem boundary_rests (current : (s.port p).current = none) (suspended : (s.port p).suspended = none)
    (calm : ∀ v, roundRobin s p v = none) : boundary p s = s := by
  rw [boundary_chooses up idle answered quiet]
  simp [chooseDelivery, current, suspended, calm]

end

section
variable {s : State} {p : Port}

/-- With port `p` settled and every other port busy, no port begins anything. -/
theorem kickPorts_of_settled (others : ∀ q, q ≠ p → (s.port q).linkUp = false ∨ (s.port q).tx.isSome = true)
    (settled : boundary p s = s) : kickPorts s = s := by
  have still : ∀ q, boundary q s = s := fun q => by
    by_cases same : q = p
    · rw [same, settled]
    · exact boundary_of_busy (others q same)
  rw [kickPorts, still, still, still]

/-- A port with a frame in transmission keeps it. -/
theorem port_kickPorts_of_sending (sending : (s.port p).tx.isSome = true) : (kickPorts s).port p = s.port p := by
  have still (u : State) (same : u.port p = s.port p) (q : Port) : (boundary q u).port p = s.port p := by
    by_cases own : q = p
    · rw [own, boundary_of_busy (.inr (by rw [same, sending])), same]
    · rw [port_boundary_other u (Ne.symm own), same]
  exact still _ (still _ (still s rfl .a) .b) .a

/-- What a frame's end leaves on its port, where the port then settles: all that the command does. -/
theorem kickPorts_modPort_of_settled {f : PortState → PortState}
    (others : ∀ q, q ≠ p → (s.port q).linkUp = false ∨ (s.port q).tx.isSome = true)
    (settled : boundary p (s.modPort p f) = s.modPort p f) : kickPorts (s.modPort p f) = s.modPort p f :=
  kickPorts_of_settled (fun q hq => by rw [State.port_modPort_other _ _ hq]; exact others q hq) settled

theorem boundary_modPort_sending {f : PortState → PortState} (sending : (f (s.port p)).tx.isSome = true) :
    boundary p (s.modPort p f) = s.modPort p f :=
  boundary_of_busy (.inr (by rw [State.port_modPort_same, sending]))

end

/-! ### The frames' ends -/

theorem exec_frameEnd {s : State} {p : Port} (sending : (s.port p).tx.isSome = true) :
    exec (.frameEnd p) s = .next (kickPorts (boundary p (frameEnds p s))) := by
  change Host.Outcome.next _ = _
  rw [if_pos sending]

/-- The port with its transmit buffer empty. -/
def PortState.emptied (q : PortState) : PortState := { q with tx := none }

section
variable {s : State} {p : Port}

/-- R171: the end of a reply or a notice only empties the transmit buffer. -/
theorem frameEnds_of_traffic {bytes : List Byte}
    (frame : (s.port p).tx = some (.reply bytes) ∨ (s.port p).tx = some (.notice bytes)) :
    frameEnds p s = s.modPort p PortState.emptied := by
  unfold frameEnds
  rcases frame with frame | frame <;> rw [frame] <;> rfl

theorem frameEnds_of_archive {bytes : List Byte} {c : Delivery} (frame : (s.port p).tx = some (.archive bytes))
    (current : (s.port p).current = some c) : frameEnds p s = stripSent p c (s.modPort p PortState.emptied) := by
  unfold frameEnds
  rw [frame, current]
  rfl

/-- The port with one more strip of its current delivery sent, its transmit buffer empty (R175). -/
def PortState.advanced (c : Delivery) (q : PortState) : PortState :=
  { q with tx := none, current := some { c with progress := c.progress + 1 } }

theorem frameEnds_advances {bytes : List Byte} {c : Delivery} (frame : (s.port p).tx = some (.archive bytes))
    (current : (s.port p).current = some c) (more : c.progress + 1 ≠ c.entry.strips)
    (open_ : (s.dest c.dest).closing = false) : frameEnds p s = s.modPort p (PortState.advanced c) := by
  have still : ((s.modPort p PortState.emptied).dest c.dest).closing = false := by cases p <;> exact open_
  rw [frameEnds_of_archive frame current, stripSent, if_neg more, if_neg (by simp [still]), State.modPort_modPort]
  rfl

section
variable (up : (s.port p).linkUp = true) {f : PortState → PortState} (idle : (f (s.port p)).tx = none)
  (still : (f (s.port p)) = { s.port p with tx := (f (s.port p)).tx, current := (f (s.port p)).current })
include up idle still

theorem boundary_modPort_reply {r0 : Reply} {rest : List Reply} (waiting : (s.port p).replies = r0 :: rest) :
    boundary p (s.modPort p f) = s.modPort p (fun q =>
      { f q with replies := rest, tx := some (.reply (r0.bytes (ownAddr s.straps))) }) := by
  have port := State.port_modPort_same s p f
  rw [boundary_sends_reply (r0 := r0) (rest := rest) (by rw [port, still, up]) (by rw [port, idle])
    (by rw [port, still, waiting]), sendReply, State.modPort_modPort, State.modPort_straps]
  rfl

variable (answered : (s.port p).replies = []) (quiet : s.notices.find? (fun m => decide (m.port = p)) = none)
include answered quiet

theorem boundary_modPort_strip {c : Delivery} {next : List Byte} (current : (f (s.port p)).current = some c)
    (kept : ∀ d, isOf d (f (s.port p)).current = isOf d (s.port p).current) (calm : roundRobin s p 3 = none)
    (strip : nextFrame s c = some next) :
    boundary p (s.modPort p f) = s.modPort p (fun q => { f q with tx := some (.archive next) }) := by
  have port := State.port_modPort_same s p f
  have round := roundRobin_modPort (s := s) (p := p) (f := f) (by rw [still]) kept (by rw [still]) 3
  rw [boundary_sends_strip (by rw [port, still, up]) (by rw [port, idle]) (by rw [port, still, answered])
    (by rwa [State.modPort_notices]) (by rw [port, current]) (round.trans calm)
    ((nextFrame_modPort s p f c).trans strip), State.modPort_modPort]
  rfl

theorem boundary_modPort_rests (current : (f (s.port p)).current = none) (none : (s.port p).current = Option.none)
    (suspended : (s.port p).suspended = Option.none) (calm : ∀ v, roundRobin s p v = Option.none) :
    boundary p (s.modPort p f) = s.modPort p f := by
  have port := State.port_modPort_same s p f
  have round := roundRobin_modPort (s := s) (p := p) (f := f) (by rw [still]) (fun d => by rw [current, none]) (by rw [still])
  exact boundary_rests (by rw [port, still, up]) (by rw [port, idle]) (by rw [port, still, answered])
    (by rwa [State.modPort_notices]) (by rw [port, current]) (by rw [port, still, suspended])
    fun v => (round v).trans (calm v)

end
end

/-! ### An entry that leaves its queue with its delivery (R124, R140, R166, R176) -/

section
variable {s : State} {g : Tag} {r : Sheet} (found : s.sheet? g = some r)
include found

/-- R140: all that an entry's end does to the counts of its sheet and batch. -/
theorem lowerPending_of_sheet? : lowerPending g s =
    (if r.pendingDests ≤ 1 ∧ r.state ≠ .held then freedOf r s
      else s.modSheet g (fun q => { q with pendingDests := q.pendingDests - 1 })).modBatch r.batch
        (fun c => { c with deliveriesPending := c.deliveriesPending - 1 }) := by
  have tag : r.tag = g := State.tag_of_sheet? found
  have lowered : ((s.modSheet g (fun q => { q with pendingDests := q.pendingDests - 1 })).modBatch r.batch
      (fun c => { c with deliveriesPending := c.deliveriesPending - 1 })).sheet? g =
        some { r with pendingDests := r.pendingDests - 1 } :=
    (State.sheet?_modSheet_same s g _ (fun _ => by rfl)).trans (congrArg (Option.map _) found)
  have last : r.pendingDests - 1 = 0 ↔ r.pendingDests ≤ 1 := Nat.sub_eq_zero_iff_le
  unfold lowerPending
  simp only [found, last]
  split
  · rw [freeRecord_of_sheet? lowered]
    subst tag
    exact congrArg (fun u : State => u.modBatch r.batch (fun c => { c with deliveriesPending := c.deliveriesPending - 1 }))
      (freedOf_modSheet r s (fun q => { q with pendingDests := q.pendingDests - 1 }) (fun _ => rfl))
  · rfl

theorem sheet?_lowerPending (h : Tag) : (lowerPending g s).sheet? h =
    if h = g then if r.pendingDests ≤ 1 ∧ r.state ≠ .held then none else some { r with pendingDests := r.pendingDests - 1 }
    else s.sheet? h := by
  have tag : r.tag = g := State.tag_of_sheet? found
  rw [lowerPending_of_sheet? found, State.sheet?_modBatch]
  split
  · rw [freedOf_sheet?, tag]
  · split
    next same =>
      rw [same, State.sheet?_modSheet_same s g _ (fun _ => by rfl), found]
      rfl
    next other => exact State.sheet?_modSheet_other s _ (fun _ => by rfl) other

theorem batch?_lowerPending_same {b : Batch} (batch : s.batch? r.batch = some b) :
    (lowerPending g s).batch? r.batch = some { b with deliveriesPending := b.deliveriesPending - 1 } := by
  rw [lowerPending_of_sheet? found, State.batch?_modBatch_same _ _ _ (fun _ => by rfl)]
  split <;> exact congrArg (Option.map _) batch

theorem batch?_lowerPending_other {k : Nat} (other : k ≠ r.batch) : (lowerPending g s).batch? k = s.batch? k := by
  rw [lowerPending_of_sheet? found, State.batch?_modBatch_other _ _ (fun _ => by rfl) other]
  split <;> rfl

/-- The page store of the state with the record freed, or as it was. -/
theorem lowerPending_frame :
    let base := if r.pendingDests ≤ 1 ∧ r.state ≠ .held then freedOf r s else s
    lowerPending g s = { s with
      sheets := (lowerPending g s).sheets, batches := (lowerPending g s).batches, free := base.free
      reserved := base.reserved, allocated := base.allocated, directory := base.directory } := by
  rw [lowerPending_of_sheet? found]
  dsimp only
  split <;> rfl

end

/-- The destination whose current delivery has left, cut short or with its last strip sent (R166, R176). -/
def Dest.deliveryLeft (cut : Bool) (x : Dest) : Dest := { x with
  queue := x.queue.tail, closing := false
  undelivered := if cut then min (x.undelivered + 1) 65535 else x.undelivered }

/-- The state with the entry of port `p`'s current delivery `c` out of its queue. -/
def queueLeft (p : Port) (c : Delivery) (cut : Bool) (s : State) : State :=
  (s.modPort p (fun q => { q with tx := none, current := none })).modDest c.dest (Dest.deliveryLeft cut)

/-- The state with the entry's counts lowered as well, and a cut delivery flagged. -/
def deliveryLeft (p : Port) (c : Delivery) (cut : Bool) (s : State) : State :=
  let lowered := lowerPending c.entry.sheet (queueLeft p c cut s)
  if cut then raise (.dest c.dest .disabledDrop) lowered else lowered

theorem State.modDest_modDest (s : State) (d : Fin 16) (f g : Dest → Dest) :
    (s.modDest d f).modDest d g = s.modDest d (g ∘ f) := by
  simp [State.modDest, State.dest]

theorem queueLeft_sent (p : Port) (c : Delivery) (s : State) :
    endCurrent p c.dest (s.modPort p PortState.emptied) = queueLeft p c false s := by
  have tail : (fun x : Dest => { x with queue := x.queue.drop 1, closing := false }) = Dest.deliveryLeft false := by
    funext x
    simp [Dest.deliveryLeft]
  unfold endCurrent queueLeft
  rw [tail]
  cases p <;> rfl

theorem queueLeft_cut (p : Port) (c : Delivery) (s : State) :
    (endCurrent p c.dest (s.modPort p PortState.emptied)).modDest c.dest
      (fun x => { x with undelivered := addSat x.undelivered 1 }) = queueLeft p c true s := by
  rw [queueLeft_sent, queueLeft, State.modDest_modDest]
  rfl

theorem interior_testBatch_congr {s t : State} (h : s.interior = t.interior) (id : Nat) :
    (testBatch id s).interior = (testBatch id t).interior :=
  interior_testAbort_congr (interior_testClosure_congr h id) id

/-- R137: one batch is tested but once. -/
theorem interior_testBatches_one (id : Nat) (s : State) : (testBatches [id] s).interior = (testBatch id s).interior := by
  have one : testBatches [id] s = testBatch id { s with freeIndex := s.freeIndex + 1 } := by
    unfold testBatches
    rw [List.dedup_cons_of_notMem List.not_mem_nil, List.dedup_nil]
    rfl
  rw [one]
  exact interior_testBatch_congr (interior_freeIndex s _) id

section
variable {s : State} {p : Port} {c : Delivery} {r : Sheet} (found : s.sheet? c.entry.sheet = some r)
include found

/-- R166, R176: the entry's counts fall, the sheets that wait are retried, and the batch is tested. -/
theorem interior_stripSent_ends (ends : c.progress + 1 = c.entry.strips ∨ (s.dest c.dest).closing = true) :
    (stripSent p c (s.modPort p PortState.emptied)).interior =
      (testBatch r.batch (retryWaiting [c.dest]
        (deliveryLeft p c (decide (c.progress + 1 ≠ c.entry.strips)) s))).interior := by
  have own : entryBatch (s.modPort p PortState.emptied) c.entry = some r.batch := by
    have live : (s.modPort p PortState.emptied).sheet? c.entry.sheet = some r := by cases p <;> exact found
    simp [entryBatch, live]
  unfold stripSent
  by_cases last : c.progress + 1 = c.entry.strips
  · rw [if_pos last, deliveryEnd, own, queueLeft_sent]
    simp [testEntryBatch, deliveryLeft, last]
  · have closing : ((s.modPort p PortState.emptied).dest c.dest).closing = true := by
      cases p <;> exact ends.resolve_left last
    rw [if_neg last, if_pos closing, closingEnd, own, removeUndelivered, queueLeft_cut, afterDrop,
      Option.toList_some, interior_testBatches_one]
    simp [deliveryLeft, last]

omit found in
/-- The state that the delivery leaves, but for what its flag makes known. -/
def deliveryTaken (p : Port) (c : Delivery) (cut : Bool) (s : State) : State :=
  let lowered := lowerPending c.entry.sheet (queueLeft p c cut s)
  { lowered with flags := if cut then (lowered.setFlag (.dest c.dest .disabledDrop) true).flags else lowered.flags }

omit found in
theorem interior_deliveryLeft (cut : Bool) :
    (deliveryLeft p c cut s).interior = (deliveryTaken p c cut s).interior := by
  unfold deliveryLeft
  cases cut with
  | false => rfl
  | true => exact interior_raise _ _

/-! ### What the delivery leaves -/

variable (cut : Bool)

omit found in
theorem sheet?_queueLeft (h : Tag) : (queueLeft p c cut s).sheet? h = s.sheet? h := by cases p <;> rfl

omit found in
theorem batch?_queueLeft (k : Nat) : (queueLeft p c cut s).batch? k = s.batch? k := by cases p <;> rfl

omit found in
theorem dest_queueLeft (x : Fin 16) : (queueLeft p c cut s).dest x =
    if x = c.dest then (s.dest x).deliveryLeft cut else s.dest x := by
  rw [queueLeft, dest_modDest]
  cases p <;> rfl

theorem deliveryTaken_frame :
    let base := if r.pendingDests ≤ 1 ∧ r.state ≠ .held then freedOf r s else s
    deliveryTaken p c cut s = { s.modPort p (fun q => { q with tx := none, current := none }) with
      dests := (queueLeft p c cut s).dests, sheets := (deliveryTaken p c cut s).sheets
      batches := (deliveryTaken p c cut s).batches, flags := (deliveryTaken p c cut s).flags, free := base.free
      reserved := base.reserved, allocated := base.allocated, directory := base.directory } := by
  unfold deliveryTaken
  rw [lowerPending_frame (s := queueLeft p c cut s) ((sheet?_queueLeft cut _).trans found)]
  cases p <;> dsimp only <;> split <;> rfl

theorem sheet?_deliveryTaken (h : Tag) : (deliveryTaken p c cut s).sheet? h =
    if h = c.entry.sheet then
      if r.pendingDests ≤ 1 ∧ r.state ≠ .held then none else some { r with pendingDests := r.pendingDests - 1 }
    else s.sheet? h :=
  (sheet?_lowerPending ((sheet?_queueLeft cut _).trans found) h).trans (by rw [sheet?_queueLeft])

theorem batch?_deliveryTaken {b : Batch} (batch : s.batch? r.batch = some b) :
    (deliveryTaken p c cut s).batch? r.batch = some { b with deliveriesPending := b.deliveriesPending - 1 } :=
  batch?_lowerPending_same ((sheet?_queueLeft cut _).trans found) ((batch?_queueLeft cut _).trans batch)

theorem batch?_deliveryTaken_other {k : Nat} (other : k ≠ r.batch) :
    (deliveryTaken p c cut s).batch? k = s.batch? k :=
  (batch?_lowerPending_other ((sheet?_queueLeft cut _).trans found) other).trans (batch?_queueLeft cut k)

theorem dest_deliveryTaken (x : Fin 16) : (deliveryTaken p c cut s).dest x =
    if x = c.dest then (s.dest x).deliveryLeft cut else s.dest x := by
  rw [deliveryTaken_frame found cut]
  exact dest_queueLeft cut x

theorem lane_deliveryTaken (k : Fin 8) : (deliveryTaken p c cut s).lane k = s.lane k := by
  rw [deliveryTaken_frame found cut]
  cases p <;> rfl

theorem flag_deliveryTaken (f : Flag) : (deliveryTaken p c cut s).flag f =
    (s.flag f || (decide (f = .dest c.dest .disabledDrop) && cut)) := by
  set lowered := lowerPending c.entry.sheet (queueLeft p c cut s) with hlowered
  have kept (f : Flag) : lowered.flag f = s.flag f := by
    rw [hlowered, lowerPending_frame (s := queueLeft p c cut s) ((sheet?_queueLeft cut _).trans found)]
    cases p <;> rfl
  cases hcut : cut with
  | false =>
    subst hcut
    rw [Bool.and_false, Bool.or_false, ← kept]
    rfl
  | true =>
    subst hcut
    change (lowered.setFlag _ true).flag f = _
    by_cases own : f = .dest c.dest .disabledDrop
    · subst own
      simp
    · rw [State.flag_setFlag_other _ _ own, kept]
      simp [own]

/-! ### The sheet that waits on the destination (R117) -/

/-- A lane's wait is as it was, but that of a sheet whose own entry has left. -/
theorem cursorWait_deliveryLeft {k : Fin 8} (other : (s.lane k).settleOrder.head? ≠ some c.entry.sheet) :
    cursorWait (deliveryLeft p c cut s) k = cursorWait s k := by
  rw [cursorWait_of_interior (interior_deliveryLeft cut)]
  unfold cursorWait
  rw [lane_deliveryTaken found]
  cases order : (s.lane k).settleOrder with
  | nil => rfl
  | cons g rest =>
    have apart : g ≠ c.entry.sheet := fun same => other (by rw [order, same]; rfl)
    simp only [sheet?_deliveryTaken found, if_neg apart]

theorem waitsOn_deliveryLeft {ds : List (Fin 16)} {k : Fin 8} (idle : waitsOn s ds k = false) :
    waitsOn (deliveryLeft p c cut s) ds k = false := by
  by_cases own : (s.lane k).settleOrder.head? = some c.entry.sheet
  · obtain ⟨rest, order⟩ := List.head?_eq_some_iff.mp own
    rw [waitsOn, cursorWait_of_head order found] at idle
    rw [waitsOn, cursorWait_of_interior (interior_deliveryLeft cut), cursorWait, lane_deliveryTaken found, order]
    simp only [sheet?_deliveryTaken found, if_pos]
    by_cases gone : r.pendingDests ≤ 1 ∧ r.state ≠ .held
    · simp [gone]
    · rw [if_neg gone]
      exact idle
  · rw [waitsOn, cursorWait_deliveryLeft found cut own]
    exact idle

end

/-- R117: one lane's cursor sheet waits, and is retried. -/
theorem retryWaiting_of_one {ds : List (Fin 16)} {s : State} {l : Fin 8} (one : ∀ k, waitsOn s ds k = decide (k = l)) :
    retryWaiting ds s = pokeLane l { s with freeIndex := s.freeIndex + 1 } := by
  have single : ∀ l : Fin 8, allLanes.filter (fun k => decide (k = l)) = [l] := by decide
  have waiting : allLanes.filter (waitsOn s ds) = [l] := (List.filter_congr fun k _ => one k).trans (single l)
  unfold retryWaiting
  rw [waiting]
  rfl

theorem exec_queueWaitRetry_of_waits {ds : List (Fin 16)} {s : State} {l : Fin 8} (waits : waitsOn s ds l = true) :
    exec (.queueWaitRetry l) s = .next (kickPorts (pokeLane l s)) := by
  refine congrArg Host.Outcome.next (if_neg fun empty => ?_)
  simp [waitsOn, empty] at waits

/-! ### The batch's end (R132, R137) -/

/-- The state with the batch `b` reported, if it has ended, or as it was. -/
def reportedAs (b : Batch) (fin : Option FinalState) (s : State) : State :=
  match fin with
  | some f => reportedOf b f s
  | none => s

section
variable (b : Batch) (fin : Option FinalState) (s : State)

theorem reportedAs_frame : reportedAs b fin s = { s with
    batches := (reportedAs b fin s).batches, lastReport := (reportedAs b fin s).lastReport
    flags := (reportedAs b fin s).flags } := by
  cases fin <;> rfl

theorem batch?_reportedAs (k : Nat) : (reportedAs b fin s).batch? k =
    if k = b.id ∧ fin.isSome = true then none else s.batch? k := by
  cases fin with
  | none => simp [reportedAs]
  | some f => simp [reportedAs, batch?_reportedOf]

theorem flag_reportedAs (f : Flag) : (reportedAs b fin s).flag f =
    (s.flag f || (decide (f = .device .batchReport) && fin.isSome)) := by
  cases fin with
  | none => simp [reportedAs]
  | some final =>
    by_cases own : f = .device .batchReport
    · subst own
      simp only [reportedAs, reportedOf, State.flag_setFlag_same]
      simp
    · simp only [reportedAs, reportedOf, State.flag_setFlag_other _ _ own]
      simp [own]
      rfl

end

/-- R132, R137: all that the tests of a batch whose pending count has fallen do. -/
theorem interior_testBatch_fallen {s : State} {b : Batch} {queue : List Nat} {id : Nat} (own : b.id = id)
    (found : s.batch? id = some { b with deliveriesPending := b.deliveriesPending - 1 })
    (lane : (s.lane b.lane).batchQueue = queue) : (testBatch id s).interior =
      (reportedAs { b with deliveriesPending := b.deliveriesPending - 1 }
        (if b.deliveriesPending ≤ 1 ∧ b.state = .ended ∧ b.heldNow = 0 then some .closed
        else if b.deliveriesPending ≤ 1 ∧ b.state = .aborted ∧ b.id ∉ queue then some .aborted
        else none) s).interior := by
  subst own
  have last : b.deliveriesPending - 1 = 0 ↔ b.deliveriesPending ≤ 1 := Nat.sub_eq_zero_iff_le
  have closes : (b.state = .ended ∧ b.heldNow = 0 ∧ b.deliveriesPending - 1 = 0) ↔
      (b.deliveriesPending ≤ 1 ∧ b.state = .ended ∧ b.heldNow = 0) := by rw [last]; tauto
  have aborts : (b.state = .aborted ∧ s.inLaneQueue { b with deliveriesPending := b.deliveriesPending - 1 } = false ∧
      b.deliveriesPending - 1 = 0) ↔ (b.deliveriesPending ≤ 1 ∧ b.state = .aborted ∧ b.id ∉ queue) := by
    rw [last, State.inLaneQueue, decide_eq_false_iff_not, lane]
    tauto
  rw [interior_testBatch found]
  simp only [closes, aborts]
  split
  · rfl
  · split <;> rfl

/-- Settles O56: a frame's end leaves its port to begin what the boundary chooses; a delivery's end takes its entry out,
retries the waiting sheet, and tests the batch. -/
theorem frameEndAdvancesDelivery : Obligations.FrameEndAdvancesDelivery := by
  intro s p othersIdle noNotice
  refine ⟨fun bytes frame up idle => ?_, fun bytes c frame current => ?_⟩
  · have sending : (s.port p).tx.isSome = true := by rcases frame with frame | frame <;> rw [frame] <;> rfl
    have run := exec_frameEnd sending
    rw [frameEnds_of_traffic frame] at run
    refine ⟨fun r0 rest waiting => ?_, fun c next answered quiet current calm strip => ?_,
      fun answered quiet current suspended calm => ?_⟩
    · rw [run, boundary_modPort_reply up (by rfl) (by rfl) waiting,
        kickPorts_modPort_of_settled idle (boundary_modPort_sending (by rfl))]
      rfl
    · rw [run, boundary_modPort_strip up (by rfl) (by rfl) answered quiet current (fun _ => by rfl) calm strip,
        kickPorts_modPort_of_settled idle (boundary_modPort_sending (by rfl))]
      rfl
    · have rests := boundary_modPort_rests (f := PortState.emptied) up (by rfl) (by rfl) answered quiet current current
        suspended calm
      rw [run, rests, kickPorts_modPort_of_settled idle rests]
      rfl
  · intro further
    refine ⟨fun more open_ => ?_, ?_⟩
    · have run := exec_frameEnd (s := s) (p := p) (by rw [frame]; rfl)
      rw [frameEnds_advances frame current more open_] at run
      have kept : ∀ d, isOf d (PortState.advanced c (s.port p)).current = isOf d (s.port p).current := fun d => by
        rw [current]
        rfl
      refine ⟨fun down idle => ?_, fun r0 rest up waiting => ?_, fun next up idle answered quiet calm strip => ?_⟩
      · have rests : boundary p (s.modPort p (PortState.advanced c)) = s.modPort p (PortState.advanced c) :=
          boundary_of_busy (.inl (by rw [State.port_modPort_same]; exact down))
        rw [run, rests, kickPorts_modPort_of_settled idle rests]
        rfl
      · have begun := boundary_modPort_reply (f := PortState.advanced c) up (by rfl) (by rfl) waiting
        have port := port_kickPorts_of_sending (s := boundary p (s.modPort p (PortState.advanced c))) (p := p)
          (by rw [begun, State.port_modPort_same]; rfl)
        rw [begun, State.port_modPort_same] at port
        rw [begun] at run
        refine ⟨_, run, by rw [port], by rw [port], by rw [port]; rfl, ?_⟩
        rw [interior_kickPorts]
        exact interior_modPort _ _ _ (fun _ => rfl)
      · rw [run, boundary_modPort_strip up (by rfl) (by rfl) answered quiet (by rfl) kept calm strip,
          kickPorts_modPort_of_settled idle (boundary_modPort_sending (by rfl))]
        rfl
    · intro r b found batch ends cut gone base fallen final left
      have run := exec_frameEnd (s := s) (p := p) (by rw [frame]; rfl)
      rw [frameEnds_of_archive frame current] at run
      have own : b.id = r.batch := State.id_of_batch? batch
      set taken := deliveryTaken p c (decide cut) s with htaken
      have taken_frame := deliveryTaken_frame (p := p) found (decide cut)
      have leaves (fin : Option FinalState) (t : State) (same : t.interior = (reportedAs fallen fin taken).interior) :
          left fin t := by
        have frame := reportedAs_frame fallen fin taken
        have dest (x : Fin 16) := dest_of_interior same x
        have dests (x : Fin 16) : (reportedAs fallen fin taken).dest x =
            if x = c.dest then (s.dest x).deliveryLeft (decide cut) else s.dest x := by
          rw [frame]
          exact dest_deliveryTaken found _ x
        have sheet (h : Tag) : t.sheet? h = taken.sheet? h := by
          rw [sheet?_of_interior same, frame]
          rfl
        have flags (f : Flag) (lost : f ≠ noticeLostFlag) := (flag_of_interior same lost).trans
          ((flag_reportedAs fallen fin taken f).trans (congrArg (· || _) (flag_deliveryTaken found _ f)))
        refine ⟨?_, fun x other => ?_, ?_, fun h other => ?_, ?_, ?_, ?_, ?_, ?_, fun k other => ?_, ?_, ?_, ?_,
          fun f report drop lost => ?_, ?_⟩
        · have here := dest c.dest
          rw [dests, if_pos rfl] at here
          refine (congrArg (fun y : Dest => { y with credit := (s.dest c.dest).credit }) here).trans ?_
          by_cases hcut : cut <;> simp [Dest.deliveryLeft, hcut]
        · have here := dest x
          rw [dests, if_neg other] at here
          exact congrArg (fun y : Dest => { y with credit := (s.dest x).credit }) here
        · rw [sheet, sheet?_deliveryTaken found, if_pos rfl]
        · rw [sheet, sheet?_deliveryTaken found, if_neg other]
        · exact (eq_of_interior State.free (fun _ => rfl) same).trans
            ((congrArg State.free frame :).trans (congrArg State.free taken_frame :))
        · exact (eq_of_interior State.reserved (fun _ => rfl) same).trans
            ((congrArg State.reserved frame :).trans (congrArg State.reserved taken_frame :))
        · exact (eq_of_interior State.allocated (fun _ => rfl) same).trans
            ((congrArg State.allocated frame :).trans (congrArg State.allocated taken_frame :))
        · exact (eq_of_interior State.directory (fun _ => rfl) same).trans
            ((congrArg State.directory frame :).trans (congrArg State.directory taken_frame :))
        · rw [batch?_of_interior same, batch?_reportedAs, batch?_deliveryTaken found _ batch, ← own]
          exact if_congr (and_iff_right rfl) rfl rfl
        · rw [batch?_of_interior same, batch?_reportedAs, if_neg (by rintro ⟨mine, -⟩; exact other (mine.trans own)),
            batch?_deliveryTaken_other found _ other]
        · rw [eq_of_interior State.lastReport (fun _ => rfl) same]
          cases fin with
          | none => exact congrArg State.lastReport taken_frame |>.trans (State.modPort_lastReport _ _ _)
          | some f => rfl
        · rw [flags _ (by simp [noticeLostFlag])]
          simp
        · rw [flags _ (by simp [noticeLostFlag])]
          simp
        · rw [flags f lost]
          simp [report, drop]
        · refine (interior_eq_patched (fun v => { s.modPort p (fun q => { q with tx := none, current := none }) with
            sheets := v.sheets, batches := v.batches, dests := v.dests, flags := v.flags, free := v.free
            reserved := v.reserved, allocated := v.allocated, directory := v.directory, lastReport := v.lastReport })
            (fun v => by simp [State.interior]) same ?_).trans ?_
          · rw [frame, htaken, taken_frame]
          · cases p <;> rfl
      set kept := deliveryLeft p c (decide cut) s with hkept
      have left_kept : left none kept := leaves none kept (interior_deliveryLeft _)
      have ended (t : State) (ht : t = kickPorts (boundary p (stripSent p c (s.modPort p PortState.emptied)))) :
          t.interior = (testBatch r.batch (retryWaiting [c.dest] kept)).interior := by
        rw [ht, interior_kickPorts, interior_boundary, interior_stripSent_ends found ends]
      refine ⟨fun idle => ⟨_, run, leaves final _ ?_⟩, fun l one head => ?_⟩
      · rw [ended _ rfl, retryWaiting_of_none fun l => waitsOn_deliveryLeft found _ (idle l)]
        have same := interior_testBatch_congr ((interior_freeIndex kept (kept.freeIndex + 1)).trans
          (interior_deliveryLeft _)) r.batch
        exact same.trans (interior_testBatch_fallen own (batch?_deliveryTaken found _ batch)
          (congrArg Lane.batchQueue (lane_deliveryTaken found _ b.lane)))
      · have waits (k : Fin 8) : waitsOn kept [c.dest] k = decide (k = l) := by
          by_cases mine : k = l
          · subst mine
            have before := one k
            rwa [waitsOn, ← cursorWait_deliveryLeft (p := p) found (decide cut) head] at before
          · rw [decide_eq_false mine]
            exact waitsOn_deliveryLeft found _ (by rw [one, decide_eq_false mine])
        refine ⟨kept, _, _, _, _, left_kept, exec_queueWaitRetry_of_waits ((waits l).trans (decide_eq_true rfl)), rfl, rfl, run, ?_⟩
        rw [ended _ rfl, retryWaiting_of_one waits]
        exact ((interior_testAbort_congr ((interior_kickPorts _).trans (interior_testClosure_congr ((interior_kickPorts _).trans
          (interior_pokeLane_congr (interior_freeIndex kept _).symm l)) r.batch)) r.batch).symm.trans
            (interior_kickPorts _).symm)

end Sys2Proof.Machine
end

section
/-!
PROOF. A destination's queue against its warning level (R168): what each shared operation appends to the queue, and that
no other operation sets WARN.
-/

namespace Sys2Proof.Machine

/-! ### The depth of a queue -/

/-- A destination's queue, its warning level, and whether its WARN is set. -/
structure Depth where
  queue : List DeliveryEntry
  warn : Nat
  flagged : Bool

/-- The queue and warning level of destination `x`, and its flag. -/
def State.depth (s : State) (x : Fin 16) : Depth := ⟨(s.dest x).queue, (s.dest x).warn, s.flag (.dest x .warn)⟩

/-- R118, R168: an entry joins at the tail, and a rise to the warning level sets WARN. -/
def Depth.push (d : Depth) (e : DeliveryEntry) : Depth :=
  { d with queue := d.queue ++ [e], flagged := d.flagged || (decide (0 < d.warn) && decide (d.queue.length = d.warn - 1)) }

/-- Entries that join one after the other. -/
def Depth.pushAll (d : Depth) (es : List DeliveryEntry) : Depth := es.foldl Depth.push d

@[simp] theorem Depth.pushAll_nil (d : Depth) : d.pushAll [] = d := rfl

theorem Depth.pushAll_cons (d : Depth) (e : DeliveryEntry) (es : List DeliveryEntry) :
    d.pushAll (e :: es) = (d.push e).pushAll es := rfl

theorem Depth.pushAll_append (d : Depth) (es fs : List DeliveryEntry) :
    d.pushAll (es ++ fs) = (d.pushAll es).pushAll fs := List.foldl_append

theorem Depth.pushAll_frame (d : Depth) (es : List DeliveryEntry) :
    d.pushAll es = ⟨d.queue ++ es, d.warn, (d.pushAll es).flagged⟩ := by
  induction es generalizing d with
  | nil => simp
  | cons e rest ih =>
    rw [pushAll_cons, ih]
    simp [push]

/-- R168: entries that set WARN took the depth from below the level to it. -/
theorem Depth.crosses_of_pushAll {d : Depth} {es : List DeliveryEntry} (rises : (d.pushAll es).flagged = true)
    (clear : d.flagged = false) : d.queue.length < d.warn ∧ d.warn ≤ d.queue.length + es.length := by
  induction es generalizing d with
  | nil => simp [clear] at rises
  | cons e rest ih =>
    rw [pushAll_cons] at rises
    rw [List.length_cons]
    by_cases reaches : 0 < d.warn ∧ d.queue.length = d.warn - 1
    · omega
    · have still : (d.push e).flagged = false := by simpa [push, clear] using reaches
      have crossed := ih rises still
      simp only [push, List.length_append, List.length_singleton] at crossed
      omega

section
variable (x : Fin 16) {s t : State}

theorem depth_of_interior (h : t.interior = s.interior) : t.depth x = s.depth x := by
  simp only [State.depth, queue_of_interior h, warn_of_interior h, flag_of_interior h (f := .dest x .warn) (by simp)]

end

/-! ### Operations that leave the depth -/

section
variable (x : Fin 16) (s : State)

@[simp] theorem depth_modLane (l : Fin 8) (f : Lane → Lane) : (s.modLane l f).depth x = s.depth x := rfl

@[simp] theorem depth_setLane (l : Fin 8) (y : Lane) : (s.setLane l y).depth x = s.depth x := rfl

@[simp] theorem depth_modSheet (g : Tag) (f : Sheet → Sheet) : (s.modSheet g f).depth x = s.depth x := rfl

@[simp] theorem depth_modBatch (id : Nat) (f : Batch → Batch) : (s.modBatch id f).depth x = s.depth x := rfl

@[simp] theorem depth_modProfile (i : Fin 16) (f : Profile → Profile) : (s.modProfile i f).depth x = s.depth x := rfl

@[simp] theorem depth_modPort (p : Port) (f : PortState → PortState) : (s.modPort p f).depth x = s.depth x := by
  cases p <;> rfl

/-- An update of a destination that leaves its queue and its warning level. -/
theorem depth_modDest (d : Fin 16) {f : Dest → Dest} (queue : ∀ y, (f y).queue = y.queue)
    (warn : ∀ y, (f y).warn = y.warn) : (s.modDest d f).depth x = s.depth x := by
  have flag : (s.modDest d f).flag (.dest x .warn) = s.flag (.dest x .warn) := rfl
  rw [State.depth, flag, dest_modDest]
  split
  · rw [queue, warn]
    rfl
  · rfl

@[simp] theorem depth_raise {f : Flag} (other : f ≠ .dest x .warn) : (raise f s).depth x = s.depth x := by
  rw [depth_of_interior x (interior_raise f s), State.depth, State.flag_setFlag_other s true (Ne.symm other)]
  rfl

@[simp] theorem depth_kickPorts : (kickPorts s).depth x = s.depth x := depth_of_interior x (interior_kickPorts s)

@[simp] theorem depth_boundary (p : Port) : (boundary p s).depth x = s.depth x :=
  depth_of_interior x (interior_boundary p s)

@[simp] theorem depth_placePendingLost : (placePendingLost s).depth x = s.depth x :=
  depth_of_interior x (interior_placePendingLost s)

@[simp] theorem depth_pushReply (p : Port) (r : Reply) : (pushReply p r s).depth x = s.depth x := depth_modPort x s p _

/-- What each item's handling leaves of the depth, the handling of a list of items leaves. -/
theorem depth_foldl {α : Type} {f : State → α → State} (h : ∀ u y, (f u y).depth x = u.depth x) (ys : List α)
    (s : State) : (ys.foldl f s).depth x = s.depth x := by
  induction ys generalizing s with
  | nil => rfl
  | cons y rest ih => rw [List.foldl_cons, ih, h]

@[simp] theorem depth_sendHead (l : Fin 8) (frame : List Byte) : (sendHead l frame s).depth x = s.depth x := by
  rw [sendHead_eq, depth_modLane]

@[simp] theorem depth_freeRecord (g : Tag) : (freeRecord g s).depth x = s.depth x := by
  unfold freeRecord
  split <;> rfl

@[simp] theorem depth_returnReserve (g : Tag) : (returnReserve g s).depth x = s.depth x := by
  unfold returnReserve
  split <;> rfl

@[simp] theorem depth_freePicking (l : Fin 8) : (freePicking l s).depth x = s.depth x := by
  unfold freePicking
  split
  · rfl
  · rw [depth_modLane, depth_freeRecord]

@[simp] theorem depth_lowerFree (n : Nat) : (lowerFree n s).depth x = s.depth x := by
  unfold lowerFree
  dsimp only
  split
  · rw [depth_raise x _ (by simp)]
    rfl
  · rfl

@[simp] theorem depth_fileStrip (src : BlockSource) (g : Tag) (side : Side) (last : Bool) (payload : List Byte) :
    (fileStrip src g side last payload s).depth x = s.depth x := by
  have taken : (takeBlock src g s).depth x = s.depth x := by
    cases src with
    | reserve => rfl
    | pool => exact depth_lowerFree x _ 1
    | nowhere => rfl
  exact taken

@[simp] theorem depth_numberSheet (g : Tag) : (numberSheet g s).depth x = s.depth x := by
  unfold numberSheet
  split <;> rfl

@[simp] theorem depth_finishBatch (final : FinalState) (id : Nat) : (finishBatch final id s).depth x = s.depth x := by
  unfold finishBatch
  split
  · rfl
  · refine (depth_of_interior x (interior_handReport _ _)).trans ?_
    rw [State.depth, State.flag_setFlag_other _ true (by simp)]
    rfl

@[simp] theorem depth_testClosure (id : Nat) : (testClosure id s).depth x = s.depth x := by
  unfold testClosure
  split
  · rfl
  · split
    · rw [depth_finishBatch]
    · rfl

@[simp] theorem depth_testAbort (id : Nat) : (testAbort id s).depth x = s.depth x := by
  unfold testAbort
  split
  · rfl
  · split
    · rw [depth_finishBatch]
    · rfl

@[simp] theorem depth_testBatch (id : Nat) : (testBatch id s).depth x = s.depth x := by
  rw [testBatch, depth_testAbort, depth_testClosure]

@[simp] theorem depth_testBatches (ids : List Nat) : (testBatches ids s).depth x = s.depth x :=
  depth_foldl x (fun u id => depth_testBatch x u id) _ _

@[simp] theorem depth_batchLeaves (l : Fin 8) : (batchLeaves l s).depth x = s.depth x := by
  unfold batchLeaves
  dsimp only
  split
  · rfl
  · split
    · rfl
    · rfl
    · rw [depth_testClosure, depth_raise x _ (by simp), depth_modLane, depth_modBatch, depth_modLane]
    · rw [depth_testAbort, depth_modLane, depth_modLane]

@[simp] theorem depth_drainTest (l : Fin 8) : (drainTest l s).depth x = s.depth x := by
  unfold drainTest
  split
  · rw [depth_batchLeaves, depth_modLane]
  · rfl

@[simp] theorem depth_halt (l : Fin 8) (why : HaltReason) : (halt l why s).depth x = s.depth x := by
  unfold halt
  split
  · rw [depth_raise x _ (by simp), depth_modLane]
  · rfl

@[simp] theorem depth_endFeeding (l : Fin 8) : (endFeeding l s).depth x = s.depth x := by
  unfold endFeeding
  dsimp only
  split <;> rfl

@[simp] theorem depth_applyMatch (l : Fin 8) (g : Tag) (i : Fin 8) : (applyMatch l g i s).depth x = s.depth x := by
  unfold applyMatch
  split
  · rfl
  · dsimp only
    split
    · rfl
    · rw [depth_endFeeding, depth_modBatch, depth_modSheet]

@[simp] theorem depth_leaveOrder (l : Fin 8) (g : Tag) : (leaveOrder l g s).depth x = s.depth x := by
  unfold leaveOrder
  rw [depth_modSheet, depth_returnReserve, depth_modLane]

@[simp] theorem depth_dropSheet (count : Batch → Batch) (l : Fin 8) (g : Tag) :
    (dropSheet count l g s).depth x = s.depth x := by
  unfold dropSheet
  split
  · rfl
  · dsimp only
    rw [depth_freeRecord]
    split
    · rw [depth_modBatch, depth_leaveOrder]
    · rw [depth_sendHead, depth_modBatch, depth_leaveOrder]

@[simp] theorem depth_settleHeld (l : Fin 8) (g : Tag) : (settleHeld l g s).depth x = s.depth x := by
  unfold settleHeld
  split
  · rw [overflowHold, depth_raise x _ (by simp), depth_dropSheet, depth_numberSheet]
  · split
    · rfl
    · rw [depth_halt, depth_raise x _ (by simp)]
      refine Eq.trans (by rfl) ((depth_numberSheet x _ g).trans ?_)
      rw [depth_modBatch, depth_leaveOrder]

@[simp] theorem depth_settleSeparator (l : Fin 8) (g : Tag) (id : Nat) (i : Fin 8) :
    (settleSeparator l g id i s).depth x = s.depth x := by
  rw [settleSeparator, depth_freeRecord, depth_applyMatch, countReleased, depth_modBatch, depth_leaveOrder]

@[simp] theorem depth_freeIfIdle (g : Tag) (es : List (Fin 16 × DeliveryEntry)) :
    (freeIfIdle g es s).depth x = s.depth x := by
  unfold freeIfIdle
  split
  · rw [depth_freeRecord]
  · rfl

@[simp] theorem depth_jamHolder (l : Fin 8) : (jamHolder l s).depth x = s.depth x := by
  unfold jamHolder
  split <;> rfl

@[simp] theorem depth_doubleFeedCheck (l : Fin 8) (g : Tag) : (doubleFeedCheck l g s).depth x = s.depth x := by
  unfold doubleFeedCheck
  split
  · rfl
  · split
    · dsimp only
      split
      · rw [depth_halt, depth_raise x _ (by simp)]
      · rw [depth_raise x _ (by simp)]
    · rfl

@[simp] theorem depth_takeLead (l : Fin 8) (g : Tag) (id : Nat) : (takeLead l g id s).depth x = s.depth x := by
  unfold takeLead
  dsimp only
  split
  · rw [depth_endFeeding, depth_modBatch, depth_sendHead, depth_modLane, depth_modSheet]
  · rw [depth_modBatch, depth_sendHead, depth_modLane, depth_modSheet]

@[simp] theorem depth_createSheet (l : Fin 8) (batch : Nat) (state : SheetState) (f : Findings) (n : Nat) :
    (createSheet l batch state f n s).depth x = s.depth x := depth_lowerFree x _ n

@[simp] theorem depth_trailComputation (l : Fin 8) (r : Sheet) (cap : Tick) :
    (trailComputation l r cap s).depth x = s.depth x := by
  unfold trailComputation
  dsimp only
  rw [depth_modLane, depth_modProfile, depth_modSheet]

@[simp] theorem depth_discardHeld (e : HeldEntry) : (discardHeld e s).depth x = s.depth x := by
  rw [discardHeld, depth_freeRecord]
  rfl

@[simp] theorem depth_discardBatchHeld (id : Nat) : (discardBatchHeld id s).depth x = s.depth x :=
  depth_foldl x (fun u e => depth_discardHeld x u e) _ _

@[simp] theorem depth_lowerPending (g : Tag) : (lowerPending g s).depth x = s.depth x := by
  unfold lowerPending
  split
  · rfl
  · dsimp only
    split
    · rw [depth_freeRecord, depth_modBatch, depth_modSheet]
    · rfl

@[simp] theorem depth_removeUndelivered (d : Fin 16) (e : DeliveryEntry) :
    (removeUndelivered d s e).depth x = s.depth x := by
  rw [removeUndelivered, depth_lowerPending]
  exact depth_modDest x s d (fun _ => rfl) (fun _ => rfl)

@[simp] theorem depth_feedingWindow (l : Fin 8) : (feedingWindow l s).depth x = s.depth x := by
  unfold feedingWindow
  dsimp only
  repeat' split
  all_goals simp

@[simp] theorem depth_attributeExitTrail (l : Fin 8) (g : Tag) : (attributeExitTrail l g s).depth x = s.depth x := by
  rw [attributeExitTrail, depth_drainTest, depth_modLane, depth_modSheet]

end

/-! ### The entries of a released sheet (R116, R118) -/

section
variable (x : Fin 16)

theorem depth_appendEntry (s : State) (e : Fin 16 × DeliveryEntry) :
    (appendEntry s e).depth x = if x = e.1 then (s.depth x).push e.2 else s.depth x := by
  obtain ⟨y, e⟩ := e
  set joined := s.modDest y (fun z => { z with queue := z.queue ++ [e] }) with hjoined
  have flag : joined.flag (.dest x .warn) = s.flag (.dest x .warn) := rfl
  have risen : (0 < (s.dest y).warn ∧ (s.dest y).queue.length + 1 = (s.dest y).warn) ↔
      (0 < (s.dest y).warn ∧ (s.dest y).queue.length = (s.dest y).warn - 1) := by omega
  have raised : (appendEntry s (y, e)).flag (.dest x .warn) =
      if x = y then (s.flag (.dest x .warn) ||
        (decide (0 < (s.dest y).warn) && decide ((s.dest y).queue.length = (s.dest y).warn - 1)))
      else s.flag (.dest x .warn) := by
    unfold appendEntry
    dsimp only
    rw [← hjoined]
    split
    next reaches =>
      by_cases own : x = y
      · subst own
        rw [flag_raise_same _ (by simp), if_pos rfl]
        simp [risen.mp reaches]
      · rw [flag_raise_other _ (by simp [own]) (by simp), if_neg own, flag]
    next short =>
      rw [flag]
      split
      next own =>
        subst own
        rw [← Bool.decide_and, decide_eq_false (short ∘ risen.mpr), Bool.or_false]
      · rfl
  rw [State.depth, raised, dest_appendEntry]
  split
  next own =>
    subst own
    rfl
  · rfl

/-- A destination takes at most one entry of a sheet. -/
theorem depth_appendEntries {es : List (Fin 16 × DeliveryEntry)} (once : (es.map Prod.fst).Nodup) (s : State) :
    (es.foldl appendEntry s).depth x = s.depth x ∨
      ∃ e, (x, e) ∈ es ∧ (es.foldl appendEntry s).depth x = (s.depth x).push e := by
  induction es generalizing s with
  | nil => exact .inl rfl
  | cons e rest ih =>
    rw [List.map_cons, List.nodup_cons] at once
    obtain ⟨alone, once⟩ := once
    have first := depth_appendEntry x s e
    rw [List.foldl_cons]
    by_cases own : x = e.1
    · subst own
      rw [if_pos rfl] at first
      rcases ih once (appendEntry s e) with same | ⟨f, mem, -⟩
      · exact .inr ⟨e.2, List.mem_cons_self, same.trans first⟩
      · exact absurd (List.mem_map_of_mem (f := Prod.fst) mem) alone
    · rw [if_neg own] at first
      rcases ih once (appendEntry s e) with same | ⟨f, mem, pushed⟩
      · exact .inl (same.trans first)
      · exact .inr ⟨f, List.mem_cons_of_mem _ mem, pushed.trans (by rw [first])⟩

/-- R116: a sheet's entries name the sheet. -/
theorem sheet_of_mem_deliveryEntries {s : State} {r : Sheet} {kind : Kind} {es : List (Fin 16 × DeliveryEntry)}
    (listed : deliveryEntries s r kind = some es) {e : DeliveryEntry} (mem : (x, e) ∈ es) : e.sheet = r.tag := by
  unfold deliveryEntries at listed
  split at listed
  · cases listed
    obtain ⟨d, -, made⟩ := List.mem_filterMap.mp mem
    unfold entryFor at made
    dsimp only at made
    split at made
    · cases made
      rfl
    · cases made
  · cases listed

theorem depth_deliver {s : State} {r : Sheet} {kind kind' : Kind} {es : List (Fin 16 × DeliveryEntry)} {u : State}
    (listed : deliveryEntries s r kind = some es) (g : Tag) : (deliver g kind' es u).depth x = u.depth x ∨
      ∃ e, e.sheet = r.tag ∧ (deliver g kind' es u).depth x = (u.depth x).push e := by
  unfold deliver
  split
  · exact .inl rfl
  · rw [depth_modBatch, depth_modSheet]
    rcases depth_appendEntries x (deliveryEntries_nodup listed) u with same | ⟨e, mem, pushed⟩
    · exact .inl same
    · exact .inr ⟨e, sheet_of_mem_deliveryEntries x listed mem, pushed⟩

end

/-! ### What the settlement of a cursor sheet appends (R105, R110) -/

section
variable {x : Fin 16} {l : Fin 8} {g : Tag} {s : State}

/-- The settlement of sheet `g` at the cursor of lane `l` has put entry `e` of the sheet into a queue; its batch is not
aborting. -/
structure Appends (x : Fin 16) (l : Fin 8) (g : Tag) (s t : State) (e : DeliveryEntry) : Prop where
  live : ∃ r, s.sheet? g = some r ∧ (s.batchOf r.batch).state ≠ .aborted
  sheet : e.sheet = g
  depth : t.depth x = (s.depth x).push e
  order : (t.lane l).settleOrder = (s.lane l).settleOrder.erase g

theorem depth_routeSheet (r : Sheet) (sep : Option (Fin 8)) (s : State) :
    (routeSheet l r sep s).depth x = s.depth x ∨ ∃ e, e.sheet = r.tag ∧
      (routeSheet l r sep s).depth x = (s.depth x).push e ∧
      ((routeSheet l r sep s).lane l).settleOrder = (s.lane l).settleOrder.erase r.tag := by
  unfold routeSheet
  dsimp only
  split
  · exact .inl (by rw [depth_settleHeld, depth_modSheet])
  next es listed =>
    split
    · have order := (leaves_settleReleased l r.tag s r.batch (chooseKind r sep) sep es).order
      have released : (settleReleased l r.tag r.batch (chooseKind r sep) sep es s).depth x =
          (deliver r.tag (chooseKind r sep) es (leaveOrder l r.tag s)).depth x := by
        unfold settleReleased
        dsimp only
        rw [depth_freeIfIdle]
        split
        · rw [depth_applyMatch, countReleased, depth_modBatch]
        · rw [depth_numberSheet, countReleased, depth_modBatch]
      rw [released]
      rcases depth_deliver x (kind' := chooseKind r sep) (u := leaveOrder l r.tag s) listed r.tag with same | ⟨e, own, pushed⟩
      · exact .inl (by rw [same, depth_leaveOrder])
      · exact .inr ⟨e, own, by rw [pushed, depth_leaveOrder], order⟩
    · exact .inl rfl

/-- A settled cursor sheet has put at most one entry into each queue, and left the order if so (R105, R110). -/
theorem depth_settleCursor : (settleCursor l g s).depth x = s.depth x ∨ ∃ e, Appends x l g s (settleCursor l g s) e := by
  cases found : s.sheet? g with
  | none =>
    unfold settleCursor
    rw [found]
    exact .inl rfl
  | some r =>
    have tag : r.tag = g := State.tag_of_sheet? found
    rw [settleCursor_of_sheet? l found]
    unfold decideOutcome
    split
    · exact .inl (by rw [settleDiscarded, depth_dropSheet, depth_modSheet])
    next going =>
      have live : ∃ r, s.sheet? g = some r ∧ (s.batchOf r.batch).state ≠ .aborted :=
        ⟨r, found, fun aborting => going (by
          rw [Bool.or_eq_true]
          exact .inr (decide_eq_true aborting))⟩
      set q : Sheet := { r with state := .ready }
      set u : State := s.modSheet g (fun q => { q with state := .ready })
      have appended (sep : Option (Fin 8)) : (routeSheet l q sep u).depth x = s.depth x ∨
          ∃ e, Appends x l g s (routeSheet l q sep u) e := by
        rcases depth_routeSheet (x := x) (l := l) q sep u with same | ⟨e, own, pushed, order⟩
        · exact .inl same
        · exact .inr ⟨e, live, own.trans tag, pushed, order.trans (congrArg _ tag)⟩
      split
      · exact .inl (by rw [settleDiverted, depth_dropSheet, depth_modSheet])
      · split
        · exact .inl (by rw [depth_settleHeld, depth_modSheet])
        · split
          · split
            · exact appended _
            · exact .inl (by rw [depth_settleSeparator, depth_modSheet])
          · exact appended _

end

end Sys2Proof.Machine
end

section
/-!
PROOF. What a command appends to a destination's queue once its removals are done: entries of sheets that leave a lane's
settlement order (R105, R117, R118, R168).
-/

namespace Sys2Proof.Machine

/-! ### Growth of a queue -/

/-- From the depth `d` and the settlement orders `o`, sheets have left the orders at the head alone, and the queue of
destination `x` has taken only entries of such sheets. -/
structure Grown (x : Fin 16) (o : Fin 8 → List Tag) (d : Depth) (t : State) : Prop where
  orders : ∀ l, (t.lane l).settleOrder <:+ o l
  late : ∃ late, t.depth x = d.pushAll late ∧
    ∀ e ∈ late, ∃ l gone, o l = gone ++ (t.lane l).settleOrder ∧ e.sheet ∈ gone

section
variable {x : Fin 16} {o : Fin 8 → List Tag} {d : Depth} {s t u : State} {l : Fin 8} {g : Tag}

theorem Grown.start (orders : ∀ l, (t.lane l).settleOrder <:+ o l) (depth : t.depth x = d) : Grown x o d t :=
  ⟨orders, [], depth, by simp⟩

theorem Grown.refl (x : Fin 16) (s : State) : Grown x (fun l => (s.lane l).settleOrder) (s.depth x) s :=
  .start (fun _ => List.suffix_refl _) rfl

/-- A sheet that has left an order at its head is still gone once others have left. -/
theorem gone_of_suffix {xs ys zs gone : List Tag} (left : xs = gone ++ ys) (suffix : zs <:+ ys) (mem : g ∈ gone) :
    ∃ gone, xs = gone ++ zs ∧ g ∈ gone := by
  obtain ⟨next, rfl⟩ := suffix
  exact ⟨gone ++ next, by rw [left, List.append_assoc], List.mem_append_left _ mem⟩

/-- An operation that leaves the depth. -/
theorem Grown.same (h : Grown x o d t) (kept : Keeps t u) (depth : u.depth x = t.depth x) : Grown x o d u := by
  obtain ⟨orders, late, pushed, left⟩ := h
  refine ⟨fun l => (kept.lanes l).order.trans (orders l), late, depth.trans pushed, fun e he => ?_⟩
  obtain ⟨l, gone, split, mem⟩ := left e he
  exact ⟨l, gone_of_suffix split (kept.lanes l).order mem⟩

/-- R105: what a cursor sheet's settlement appends is of the sheet, which has left its order. -/
theorem grown_settleCursor (h : Grown x o d t) (head : (t.lane l).settleOrder.head? = some g) :
    Grown x o d (settleCursor l g t) := by
  have kept := keeps_settleCursor (.refl t) head
  rcases depth_settleCursor (x := x) (l := l) (g := g) (s := t) with same | ⟨e, live, own, pushed, order⟩
  · exact h.same kept same
  · obtain ⟨orders, late, before, left⟩ := h
    obtain ⟨rest, settling⟩ := List.head?_eq_some_iff.mp head
    obtain ⟨gone, split⟩ := orders l
    rw [settling, List.erase_cons_head] at order
    refine ⟨fun k => (kept.lanes k).order.trans (orders k), late ++ [e], ?_, fun f mem => ?_⟩
    · rw [pushed, before, Depth.pushAll_append]
      rfl
    · rcases List.mem_append.mp mem with mem | mem
      · obtain ⟨k, gone, split, mem⟩ := left f mem
        exact ⟨k, gone_of_suffix split (kept.lanes k).order mem⟩
      · rw [List.mem_singleton.mp mem, own]
        refine ⟨l, gone ++ [g], ?_, by simp⟩
        rw [order, ← split, settling, List.append_assoc, List.singleton_append]

theorem grown_foldl {α : Type} {f : State → α → State} (step : ∀ u y, Grown x o d u → Grown x o d (f u y))
    (ys : List α) (h : Grown x o d t) : Grown x o d (ys.foldl f t) := by
  induction ys generalizing t with
  | nil => exact h
  | cons y rest ih => exact ih (step t y h)

section
variable (h : Grown x o d t)
include h

/-! ### Settlement (R43, R105, R117) -/

theorem grown_poke (l : Fin 8) : Grown x o d (poke l t) :=
  settleLoop_keeps (Grown x o d) (fun _ _ k head => grown_settleCursor k head) _ h

theorem grown_pokeLane (l : Fin 8) : Grown x o d (pokeLane l t) :=
  (grown_poke h l).same (keeps_drainTest (.refl _) l) (depth_drainTest x _ l)

theorem grown_settleLane (l : Fin 8) : Grown x o d (settleLane l t) := by
  refine Grown.same ?_ (keeps_drainTest (.refl (examine l t)) l) (depth_drainTest x _ l)
  unfold examine
  split
  · exact grown_poke h l
  · exact h

theorem grown_modSheet (g : Tag) (f : Sheet → Sheet) : Grown x o d (t.modSheet g f) :=
  h.same (keeps_modSheet (.refl t) g f) (depth_modSheet x t g f)

theorem grown_kickPorts : Grown x o d (kickPorts t) := h.same (keeps_kickPorts (.refl t)) (depth_kickPorts x t)

theorem grown_addIncomplete (g : Tag) : Grown x o d (addIncomplete g t) := by
  unfold addIncomplete
  split
  · exact h
  · split
    · exact h
    · dsimp only
      split
      · exact grown_pokeLane (grown_modSheet h g _) _
      · exact grown_modSheet h g _

theorem grown_retryWaiting (ds : List (Fin 16)) : Grown x o d (retryWaiting ds t) :=
  grown_foldl (fun _ l k => grown_pokeLane k l) _ (h.same (keeps_congr (.refl t) (by rfl)) (by rfl))

theorem grown_afterDrop (y : Fin 16) (ids : List Nat) : Grown x o d (afterDrop y ids t) :=
  (grown_retryWaiting (h.same (keeps_raise (.refl t) _) (depth_raise x t (by simp))) [y]).same
    (keeps_testBatches (.refl _) ids) (depth_testBatches x _ ids)

/-! ### The feed sequencer, edges and the lane link -/

theorem grown_jam (l : Fin 8) (why : JamReason) : Grown x o d (jam l why t) := by
  unfold jam
  split
  · have jammed : Keeps t (raise (.lane l .jam) (t.modLane l (Lane.jamLines why))) :=
      keeps_raise (keeps_modLane (.refl t) (.of_same rfl)) _
    have cleared := keeps_jamHolder (keeps_freePicking jammed l) l
    refine grown_pokeLane (h.same (keeps_modLane cleared (f := Lane.jamPath) ?_) ?_) l
    · exact { Lane.Keeps.refl _ with path := by simp [Lane.jamPath] }
    · rw [depth_modLane, depth_jamHolder, depth_freePicking, depth_raise x _ (by simp), depth_modLane]
  · exact h

theorem grown_doubleFeedCheck (l : Fin 8) (g : Tag) : Grown x o d (doubleFeedCheck l g t) :=
  h.same (keeps_doubleFeedCheck (.refl t) l g) (depth_doubleFeedCheck x t l g)

theorem grown_attributeTrail (l : Fin 8) (g : Tag) : Grown x o d (attributeTrail l g t) := by
  have taken : Grown x o d (t.modLane l (Lane.takeTrail g)) := h.same
    (keeps_modLane (.refl t) { Lane.Keeps.refl _ with path := by simp [Lane.takeTrail, length_armExitWindow] }) (by rfl)
  unfold attributeTrail
  dsimp only
  split
  · exact taken
  · split
    next r _ _ =>
      have measured := taken.same (keeps_trailComputation (.refl _) l r (t.lane l).counter)
        (depth_trailComputation x _ l r (t.lane l).counter)
      exact grown_settleLane (grown_doubleFeedCheck (grown_modSheet measured g _) l g) l
    · exact grown_modSheet taken g _

theorem grown_attributeExitLead (l : Fin 8) : Grown x o d (attributeExitLead l t) := by
  unfold attributeExitLead
  dsimp only
  split
  · exact grown_jam h l _
  next e _ =>
    have passed : Grown x o d (t.modLane l (fun y => { y with path := markExited y.path, exitHolder := some e.tag })) :=
      h.same (keeps_modLane (.refl t) { Lane.Keeps.refl (t.lane l) with path := by simp [length_markExited] }) (by rfl)
    have marked := grown_modSheet passed e.tag (fun q => { q with exitLead := some (t.lane l).counter })
    unfold divertSheet
    dsimp only
    split
    · exact marked
    · split
      · exact grown_modSheet marked _ _
      · split
        · exact grown_settleLane ((grown_modSheet marked _ _).same (keeps_modLane (.refl _) (.of_same rfl)) (by rfl)) l
        · exact marked

theorem grown_coverOpened (l : Fin 8) : Grown x o d (coverOpened l t) := by
  unfold coverOpened
  split
  · exact grown_jam h l _
  · exact grown_jam h l _
  · exact grown_jam h l _
  · exact grown_jam h l _
  · exact h.same (keeps_raise (keeps_modLane (.refl t) (.of_same rfl)) _) (depth_raise x _ (by simp))
  all_goals exact h

theorem grown_laneFrameArrives (l : Fin 8) (frame : List Byte) : Grown x o d (laneFrameArrives l frame t) := by
  unfold laneFrameArrives
  split
  next side _ last payload _ =>
    refine grown_kickPorts ?_
    unfold takeStrip
    split
    · exact h.same (keeps_raise (keeps_modLane (.refl t) (.of_same rfl)) _) (depth_raise x _ (by simp))
    next r _ =>
      split
      · split
        · exact grown_addIncomplete h _
        · have filed := h.same (keeps_fileStrip (.refl t) (blockSource t r) r.tag side last payload)
            (depth_fileStrip x t _ _ _ _ _)
          dsimp only
          split
          · exact grown_settleLane filed l
          · exact filed
      · exact grown_addIncomplete h _
  · unfold takePatch
    split
    · exact h
    · exact grown_modSheet h _ _
  · exact h.same (keeps_modLane (.refl t) (.of_same rfl)) (by rfl)

end
end

end Sys2Proof.Machine
end

section
/-!
PROOF. What takes entries out of a destination's queue leaves its WARN (R166, R168, R176, R177); what leads and directives
do to it.
-/

namespace Sys2Proof.Machine

/-! ### Entries that leave a queue -/

/-- The same warning level and flag, over a queue that has only lost entries. -/
structure Depth.Cut (d e : Depth) : Prop where
  queue : e.queue.Sublist d.queue
  warn : e.warn = d.warn
  flagged : e.flagged = d.flagged

theorem Depth.Cut.refl (d : Depth) : d.Cut d := ⟨List.Sublist.refl _, rfl, rfl⟩

theorem Depth.Cut.trans {d e f : Depth} (h : d.Cut e) (k : e.Cut f) : d.Cut f :=
  ⟨k.queue.trans h.queue, k.warn.trans h.warn, k.flagged.trans h.flagged⟩

section
variable (x : Fin 16) (s : State)

theorem cut_modDest (y : Fin 16) {f : Dest → Dest} (queue : (f (s.dest y)).queue.Sublist (s.dest y).queue)
    (warn : (f (s.dest y)).warn = (s.dest y).warn) : (s.depth x).Cut ((s.modDest y f).depth x) := by
  have dest := dest_modDest s y x f
  by_cases own : x = y
  · subst own
    rw [if_pos rfl] at dest
    exact ⟨by rw [State.depth, dest]; exact queue, by rw [State.depth, dest]; exact warn, rfl⟩
  · rw [if_neg own] at dest
    exact ⟨by rw [State.depth, dest]; exact List.Sublist.refl _, by rw [State.depth, dest]; rfl, rfl⟩

/-- R166, R176: the current delivery's entry leaves at the head. -/
theorem cut_endCurrent (p : Port) (y : Fin 16) : (s.depth x).Cut ((endCurrent p y s).depth x) := by
  rw [endCurrent, depth_modPort]
  exact cut_modDest x s y (List.drop_sublist 1 _) rfl

/-- R166: a disable leaves no entry, or the one that its frame finishes. -/
theorem cut_closeDest (y : Fin 16) : (s.depth x).Cut ((closeDest y s).depth x) := by
  unfold closeDest
  dsimp only
  rw [depth_foldl x (fun u e => depth_removeUndelivered x u y e),
    ← depth_modPort x s (s.dest y).port (PortState.dropDeliveries y (finishing s y))]
  refine cut_modDest x _ y ?_ rfl
  have dest : (s.modPort (s.dest y).port (PortState.dropDeliveries y (finishing s y))).dest y = s.dest y := by
    simp only [State.dest, State.modPort_dests]
  rw [dest]
  dsimp only
  split
  · exact List.take_sublist 1 _
  · exact List.nil_sublist _

/-- R177: an abort leaves the entry in progress and those of other batches. -/
theorem cut_abortDest (id : Nat) (y : Fin 16) : (s.depth x).Cut ((abortDest id s y).depth x) := by
  unfold abortDest
  dsimp only
  rw [depth_foldl x (fun u e => depth_removeUndelivered x u y e)]
  refine cut_modDest x s y ?_ rfl
  dsimp only
  unfold waitingEntries
  split
  · refine (List.Sublist.append (List.Sublist.refl _) List.filter_sublist).trans ?_
    rw [List.take_append_drop]
  · exact List.filter_sublist

theorem cut_foldl {α : Type} {f : State → α → State} (h : ∀ u y, (State.depth u x).Cut ((f u y).depth x)) (ys : List α)
    (s : State) : (s.depth x).Cut ((ys.foldl f s).depth x) := by
  induction ys generalizing s with
  | nil => exact .refl _
  | cons y rest ih => exact (h s y).trans (ih _)

end

/-! ### Removals, and what is appended after them -/

/-- The settlement orders of the lanes. -/
def State.orders (s : State) (l : Fin 8) : List Tag := (s.lane l).settleOrder

/-- From `s` to `t` the queue of destination `x` has first lost entries, and then taken entries of sheets that have left a
settlement order. -/
def Regrown (x : Fin 16) (s t : State) : Prop := ∃ d, (s.depth x).Cut d ∧ Grown x s.orders d t

section
variable {x : Fin 16} {s t u : State}

theorem Grown.regrown (h : Grown x s.orders (s.depth x) t) : Regrown x s t := ⟨_, .refl _, h⟩

theorem Regrown.refl (x : Fin 16) (s : State) : Regrown x s s := (Grown.refl x s).regrown

theorem Regrown.same (h : Regrown x s t) (kept : Keeps t u) (depth : u.depth x = t.depth x) : Regrown x s u := by
  obtain ⟨d, cut, grown⟩ := h
  exact ⟨d, cut, grown.same kept depth⟩

/-- Growth starts where the removals are done. -/
theorem regrown_of_cut (kept : Keeps s t) (cut : (s.depth x).Cut (t.depth x)) (grown : ∀ o, Grown x o (t.depth x) t →
    Grown x o (t.depth x) u) : Regrown x s u :=
  ⟨_, cut, grown _ (.start (fun l => (kept.lanes l).order) rfl)⟩

/-! ### Archive frames (R166, R171, R176) -/

theorem regrown_frameEnds (p : Port) (s : State) : Regrown x s (frameEnds p s) := by
  set quiet := s.modPort p (fun q => { q with tx := none }) with hquiet
  have still : Keeps s quiet := keeps_modPort (.refl s) p _
  have depth : quiet.depth x = s.depth x := depth_modPort x s p _
  have same : Regrown x s quiet := (Regrown.refl x s).same still depth
  unfold frameEnds
  dsimp only
  rw [← hquiet]
  split
  next c _ _ =>
    have ended : Keeps s (endCurrent p c.dest quiet) := keeps_endCurrent still p _
    have cut : (s.depth x).Cut ((endCurrent p c.dest quiet).depth x) := depth ▸ cut_endCurrent x quiet p c.dest
    unfold stripSent
    split
    · have retried := regrown_of_cut (x := x) (keeps_lowerPending ended c.entry.sheet)
        (by rw [depth_lowerPending]; exact cut) fun _ h => grown_retryWaiting h [c.dest]
      unfold deliveryEnd testEntryBatch
      split
      · exact retried
      · exact retried.same (keeps_testBatch (.refl _) _) (depth_testBatch x _ _)
    · split
      · exact regrown_of_cut (keeps_removeUndelivered ended c.dest c.entry) (by rw [depth_removeUndelivered]; exact cut)
          fun _ h => grown_afterDrop h _ _
      · exact same.same (keeps_modPort (.refl _) p _) (depth_modPort x _ p _)
  · exact same

/-! ### Leads (R51, R52, R105) -/

/-- The settlement orders with the sheets `newest` at the tail of lane `l`'s. -/
def State.ordersWith (s : State) (l : Fin 8) (newest : List Tag) (k : Fin 8) : List Tag :=
  s.orders k ++ if k = l then newest else []

theorem ordersWith_nil (s : State) (l : Fin 8) : s.ordersWith l [] = s.orders := by
  funext k
  simp [State.ordersWith]

theorem grown_takeLead {l : Fin 8} (room : (t.lane l).path.length < 128) (kept : Keeps s t) (g : Tag) (id : Nat) :
    Grown x (s.ordersWith l [g]) (t.depth x) (takeLead l g id t) := by
  obtain ⟨v, before, after⟩ := takeLead_joins kept room g id
  refine .start (fun k => (after.lanes k).order.trans ?_) (depth_takeLead x t l g id)
  unfold State.ordersWith
  by_cases own : k = l
  · subst own
    rw [State.lane_modLane_same, if_pos rfl]
    obtain ⟨gone, split⟩ := (before.lanes k).order
    exact ⟨gone, by rw [State.orders, ← split, List.append_assoc]; rfl⟩
  · rw [State.lane_modLane_other v _ own, if_neg own, List.append_nil]
    exact (before.lanes k).order

theorem grown_attributeLead (l : Fin 8) (t : State) : ∃ newest : List Tag, newest.length ≤ 1 ∧
    (∀ g ∈ newest, (t.lane l).picking = some g ∨ ((t.lane l).picking = none ∧ t.sheet? g = none)) ∧
    Grown x (t.ordersWith l newest) (t.depth x) (attributeLead l t) := by
  have nobody (u : State) (h : Grown x t.orders (t.depth x) u) : ∃ newest : List Tag, newest.length ≤ 1 ∧
      (∀ g ∈ newest, (t.lane l).picking = some g ∨ ((t.lane l).picking = none ∧ t.sheet? g = none)) ∧
      Grown x (t.ordersWith l newest) (t.depth x) u := ⟨[], by simp, by simp, by rwa [ordersWith_nil]⟩
  have start := Grown.refl x t
  unfold attributeLead
  dsimp only
  split
  · exact nobody _ (grown_jam start l _)
  next room =>
    replace room : (t.lane l).path.length < 128 := Nat.lt_of_not_le room
    split
    next g picking =>
      have kept : Keeps t (t.modLane l (fun y => { y with picking := none, pickWindow := none })) :=
        keeps_modLane (.refl t) (.of_lists rfl (.inr rfl))
      refine ⟨[g], le_rfl, fun f mem => ?_, grown_settleLane (grown_takeLead
        (by rw [State.lane_modLane_same]; exact room) kept g ((t.sheet? g).elim 0 Sheet.batch)) l⟩
      rw [List.mem_singleton.mp mem]
      exact .inl picking
    next picking =>
      unfold unexpectedLead
      split
      · exact nobody _ (grown_jam start l _)
      next id _ =>
        split
        next free =>
          dsimp only
          set n := if reserveFits t l then (t.lane l).config.reserve else 0
          have taken := grown_takeLead (x := x) (l := l)
            (by rw [path_createSheet]; exact room)
            (keeps_createSheet (l := l) (.refl t) free id .inGate { Findings.empty with unexpected := true } n)
            (freshTag t l) id
          rw [depth_createSheet] at taken
          refine ⟨[freshTag t l], le_rfl, fun f mem => ?_, grown_settleLane (grown_doubleFeedCheck taken l _) l⟩
          rw [List.mem_singleton.mp mem]
          exact .inr ⟨picking, freshTag_absent l (of_decide_eq_true free)⟩
        · exact nobody _ (start.same (keeps_halt (.refl t) l _) (depth_halt x t l _))

end

end Sys2Proof.Machine
end

section
/-!
PROOF. The directives and WARN (R168, R184): what a body leaves of it, its execution leaves.
-/

namespace Sys2Proof.Machine

/-! ### Execution and the checks before a body -/

/-- The state after a command for a directive of the row, with `body` applied to the directive's parameters, or the state
before it. -/
theorem runDirective_cases (row : DirectiveRow) (body : List Byte → State → Executed) (s : State) :
    runDirective row body s = s ∨ ∃ d, s.dirQueue.head? = some d ∧
      (runDirective row body s).interior = (body d.params s.dequeued).state.interior := by
  by_cases here : ∃ d, waiting row d s
  · obtain ⟨d, here⟩ := here
    exact .inr ⟨d, here.1, by rw [runDirective_of_waiting here]; simp⟩
  · refine .inl ?_
    have nobody : takeDirective row s = none := by
      unfold takeDirective
      split
      · rfl
      next d rest queue =>
        exact if_neg fun own => here ⟨d, by rw [queue]; rfl, own⟩
    rw [runDirective, nobody]

section
variable {P : State → State → Prop} (refl : ∀ u, P u u) {n : Nat} {body : List Byte → State → Executed}
  {laneBody : Fin 8 → List Byte → State → Executed} {sixteenBody : Fin 16 → List Byte → State → Executed}
  {idBody : Nat → List Byte → State → Executed} (ps : List Byte) (u : State)
include refl

/-- What holds of a refusal and of a body holds once the length is checked. -/
theorem withLength_satisfies (h : P u (body ps u).state) : P u (withLength n body ps u).state := by
  unfold withLength
  split
  · exact h
  · exact refl u

theorem withLane_satisfies (h : ∀ l, P u (laneBody l ps u).state) : P u (withLane laneBody ps u).state := by
  unfold withLane
  split
  · exact refl u
  · exact h _

theorem withSixteen_satisfies (h : ∀ i, P u (sixteenBody i ps u).state) :
    P u (withSixteen sixteenBody ps u).state := by
  unfold withSixteen
  split
  · exact refl u
  · exact h _

theorem withId_satisfies (h : P u (idBody (rd ps 0 2) ps u).state) : P u (withId idBody ps u).state := by
  unfold withId
  split
  · exact refl u
  · exact h

theorem withHeld_satisfies {heldBody : HeldEntry → State → Executed} (h : ∀ e ∈ u.held, P u (heldBody e u).state) :
    P u (withHeld n heldBody ps u).state := by
  unfold withHeld
  split
  · exact refl u
  · split
    · exact refl u
    · split
      · exact refl u
      next e found => exact h e (List.mem_of_find?_eq_some found)

end

/-! ### Directives that do not set WARN -/

/-- From `s` to `t` the WARN of destination `x` is not set. -/
def Calm (x : Fin 16) (s t : State) : Prop := t.flag (.dest x .warn) = true → s.flag (.dest x .warn) = true

section
variable {x : Fin 16} {s t u : State}

theorem Calm.refl (s : State) : Calm x s s := id

theorem Calm.of_depth (depth : t.depth x = s.depth x) : Calm x s t := fun set =>
  (congrArg Depth.flagged depth).symm.trans set

theorem calm_of_body {row : DirectiveRow} {body : List Byte → State → Executed}
    (calm : ∀ ps u, Calm x u (body ps u).state)
    (run : (Host.Outcome.next (runDirective row body s) : Answer) = .next t) : Calm x s t := by
  cases run
  rcases runDirective_cases row body s with same | ⟨d, -, left⟩
  · rw [same]
    exact .refl s
  · exact fun set => calm d.params s.dequeued ((flag_of_interior left (by simp)).symm.trans set)

theorem calm_of_depthBody {row : DirectiveRow} {n : Nat} {body : List Byte → State → Executed}
    (still : ∀ ps u, (body ps u).state.depth x = u.depth x)
    (run : (Host.Outcome.next (runDirective row (withLength n body) s) : Answer) = .next t) : Calm x s t :=
  calm_of_body (fun ps u => withLength_satisfies .refl ps u (.of_depth (still ps u))) run

theorem calm_of_laneBody {row : DirectiveRow} {n : Nat} {body : Fin 8 → List Byte → State → Executed}
    (still : ∀ l ps u, (body l ps u).state.depth x = u.depth x)
    (run : (Host.Outcome.next (runDirective row (withLength n (withLane body)) s) : Answer) = .next t) : Calm x s t :=
  calm_of_body (fun ps u => withLength_satisfies .refl ps u
    (withLane_satisfies .refl ps u fun l => .of_depth (still l ps u))) run

theorem calm_of_sixteenBody {row : DirectiveRow} {n : Nat} {body : Fin 16 → List Byte → State → Executed}
    (calm : ∀ i ps u, Calm x u (body i ps u).state)
    (run : (Host.Outcome.next (runDirective row (withLength n (withSixteen body)) s) : Answer) = .next t) : Calm x s t :=
  calm_of_body (fun ps u => withLength_satisfies .refl ps u
    (withSixteen_satisfies .refl ps u fun i => calm i ps u)) run

theorem calm_of_idBody {row : DirectiveRow} {n : Nat} {body : Nat → List Byte → State → Executed}
    (still : ∀ id ps u, (body id ps u).state.depth x = u.depth x)
    (run : (Host.Outcome.next (runDirective row (withLength n (withId body)) s) : Answer) = .next t) : Calm x s t :=
  calm_of_body (fun ps u => withLength_satisfies .refl ps u
    (withId_satisfies .refl ps u (.of_depth (still _ ps u)))) run

end

section
variable (x : Fin 16) (l : Fin 8) (d : Fin 16) (id : Nat) (e : HeldEntry) (pins : BitVec 8) (ps : List Byte) (u : State)

theorem depth_laneSet : (laneSet l ps u).state.depth x = u.depth x := by
  unfold laneSet
  dsimp only
  repeat' split
  all_goals rfl

theorem depth_laneStart : (laneStart l ps u).state.depth x = u.depth x := by
  unfold laneStart
  dsimp only
  repeat' split
  all_goals rfl

theorem depth_lanePause : (lanePause l ps u).state.depth x = u.depth x := by
  unfold lanePause
  split
  · dsimp only [accept]
    rw [depth_drainTest, depth_modLane]
    split <;> rfl
  · rfl

theorem depth_laneResume : (laneResume l ps u).state.depth x = u.depth x := by
  unfold laneResume
  dsimp only
  repeat' split
  case isFalse.isFalse.isFalse.isFalse.isFalse =>
    dsimp only [accept]
    rw [depth_drainTest, depth_modLane]
  all_goals rfl

/-- R64: the sheets of the order are discarded, none released. -/
theorem depth_laneClear : (laneClear l ps u).state.depth x = u.depth x := by
  unfold laneClear
  dsimp only
  split
  · rfl
  · split
    · rfl
    · dsimp only [accept]
      rw [depth_batchLeaves, depth_modLane, discardOrder,
        depth_foldl x (f := fun v g => settleDiscarded l g v) (fun v g => depth_dropSheet x v _ l g), depth_freePicking]

theorem depth_laneManualEnter : (laneManualEnter l ps u).state.depth x = u.depth x := by
  unfold laneManualEnter
  repeat' split
  all_goals rfl

theorem depth_laneManualLeave : (laneManualLeave l ps u).state.depth x = u.depth x := by
  unfold laneManualLeave
  split <;> rfl

theorem depth_linesMap : (linesMap pins l ps u).state.depth x = u.depth x := by
  unfold linesMap
  split
  · rfl
  · split
    · rfl
    · dsimp only [accept]
      split
      · rw [depth_raise x _ (by simp), depth_modLane]
      · rfl

theorem depth_applyLineSetting (y : LineSetting) : (applyLineSetting pins l u y).depth x = u.depth x := by
  unfold applyLineSetting
  split
  · rfl
  · dsimp only
    split
    · rw [depth_raise x _ (by simp), depth_setLane]
    · rfl

theorem depth_linesSet : (linesSet pins ps u).state.depth x = u.depth x := by
  unfold linesSet
  dsimp only
  repeat' split
  all_goals try rfl
  exact depth_foldl x (fun v y => depth_applyLineSetting x _ pins v y) _ u

theorem depth_lanePowerOff : (lanePowerOff l ps u).state.depth x = u.depth x := by
  unfold lanePowerOff
  repeat' split
  all_goals rfl

theorem depth_lanePowerIdle : (lanePowerIdle l ps u).state.depth x = u.depth x := by
  unfold lanePowerIdle
  dsimp only
  repeat' split
  all_goals rfl

theorem depth_lanePowerStandby : (lanePowerStandby l ps u).state.depth x = u.depth x := by
  unfold lanePowerStandby
  dsimp only
  split
  · rfl
  · split
    · exact (depth_batchLeaves x _ l).trans (depth_modLane x _ _ _)
    · rfl
  all_goals rfl

theorem depth_profileLoad : (profileLoad ps u).state.depth x = u.depth x := by
  have stored : ∀ v r, (storeProfile v r).depth x = v.depth x := fun v r => by
    unfold storeProfile
    split <;> rfl
  unfold profileLoad
  dsimp only
  repeat' split
  all_goals try rfl
  exact depth_foldl x stored _ u

theorem depth_storeSet : (storeSet ps u).state.depth x = u.depth x := by
  unfold storeSet
  dsimp only [acceptClamped]
  split
  · exact (depth_raise x _ (by simp)).trans rfl
  · rfl

theorem depth_resolveDiscard : (resolveDiscard e u).state.depth x = u.depth x :=
  (depth_testBatch x _ _).trans (depth_discardHeld x u e)

theorem depth_sheetRead : (sheetRead ps u).state.depth x = u.depth x := by
  unfold sheetRead
  repeat' split
  all_goals rfl

theorem depth_batchOpen : (batchOpen ps u).state.depth x = u.depth x := by
  unfold batchOpen
  repeat' split
  all_goals rfl

theorem depth_batchClose : (batchClose id ps u).state.depth x = u.depth x := by
  unfold batchClose
  repeat' split
  all_goals try rfl
  exact (depth_testClosure x _ id).trans (depth_discardBatchHeld x u id)

theorem depth_batchRead : (batchRead id ps u).state.depth x = u.depth x := by
  unfold batchRead
  repeat' split
  all_goals rfl

theorem depth_separatorLoad : (separatorLoad ps u).state.depth x = u.depth x := by
  have stored : ∀ v r, (storeSeparator v r).depth x = v.depth x := fun v r => by
    unfold storeSeparator
    split <;> rfl
  unfold separatorLoad
  dsimp only
  repeat' split
  all_goals try rfl
  exact depth_foldl x stored _ u

theorem depth_separatorRead : (separatorRead ps u).state.depth x = u.depth x := by
  unfold separatorRead
  split <;> rfl

theorem depth_loadEntries (rs : List (List Byte)) (n : Nat) : (loadEntries rs n u).2.2.depth x = u.depth x := by
  induction rs generalizing n u with
  | nil => rfl
  | cons r rest ih =>
    unfold loadEntries
    split
    · rfl
    · rw [ih]
      unfold writeShadow
      split <;> rfl

theorem depth_routeLoad : (routeLoad ps u).state.depth x = u.depth x := by
  have loaded := depth_loadEntries x u (records ps 10) 0
  unfold routeLoad
  split
  · rfl
  · split
    next h =>
      rw [h] at loaded
      exact loaded
    next h =>
      rw [h] at loaded
      exact loaded

theorem depth_routeRead : (routeRead ps u).state.depth x = u.depth x := by
  unfold routeRead
  dsimp only
  repeat' split
  all_goals rfl

/-- R164, R168: a change of the warning level sets no flag. -/
theorem flags_destSet : (destSet d ps u).state.flags = u.flags := by
  unfold destSet
  dsimp only
  repeat' split
  all_goals rfl

theorem flags_destEnable : (destEnable d ps u).state.flags = u.flags := by
  unfold destEnable
  repeat' split
  all_goals rfl

theorem depth_portRead : (portRead ps u).state.depth x = u.depth x := by
  unfold portRead
  split <;> rfl

theorem depth_reportSet : (reportSet ps u).state.depth x = u.depth x := by
  unfold reportSet
  dsimp only
  repeat' split
  all_goals simp only [refuse, accept, State.depth, State.dest, State.flag]

theorem Calm.of_flags {s t : State} {x : Fin 16} (flags : t.flags = s.flags) : Calm x s t := fun set => by
  rw [State.flag, flags] at set
  exact set

/-- R192: a clear sets no flag. -/
theorem flag_of_clearFlags {named : FlagSet} {f : Flag} (set : (clearFlags named u).flag f = true) : u.flag f = true := by
  have kept : (clearFlags named u).flag f = (u.flag f && (!named[f.index.val] || staysSet u f.index.val)) := by
    show (clearedFlags named u)[f.index.val] = _
    simp [clearedFlags, State.flag]
  rw [kept, Bool.and_eq_true] at set
  exact set.1

theorem calm_eventsClear : Calm x u (eventsClear ps u).state := fun set => by
  simp only [eventsClear, answerData] at set
  exact flag_of_clearFlags u set

end

/-! ### Restart and power (R1, R193) -/

theorem flag_busyAll (s : State) (f : Flag) : (busyAll s).flag f = s.flag f := by
  have answered : ∀ (ds : List Directive) (v : State),
      (ds.foldl (fun acc d => pushReply d.port (busyReply d) acc) v).flags = v.flags := by
    intro ds
    induction ds with
    | nil => exact fun _ => rfl
    | cons d rest ih =>
      intro v
      rw [List.foldl_cons, ih]
      exact State.modPort_flags _ _ _
  rw [State.flag, busyAll, answered]
  rfl

theorem calm_restartFor (x : Fin 16) (d : Directive) (s : State) : Calm x s (restartFor d s) := by
  unfold restartFor
  split
  · intro set
    rw [State.flag, State.modPort_flags] at set
    have cleared : (restartPart s).flag (.dest x .warn) = true := (flag_busyAll _ _).symm.trans set
    rw [restartPart_eq, flag_restarted, Bool.and_eq_true, parts_withdrawn] at cleared
    exact cleared.1
  · exact .of_flags (State.modPort_flags _ _ _)

end Sys2Proof.Machine
end

section
/-!
PROOF. The settlements of BATCH_ABORT's third step (R136): a sheet of the aborted batch is discarded, so that none of its
entries joins a queue.
-/

namespace Sys2Proof.Machine

/-! ### An aborted batch stays aborted through a settlement -/

/-- Whether batch `id` is ABORTED. -/
def State.aborting (s : State) (id : Nat) : Bool := decide ((s.batchOf id).state = .aborted)

section
variable (id : Nat) (s : State)

theorem aborting_of_interior {s t : State} (h : t.interior = s.interior) : t.aborting id = s.aborting id := by
  rw [State.aborting, State.aborting, batchOf_of_interior h]

theorem aborting_modLane (l : Fin 8) (f : Lane → Lane) : (s.modLane l f).aborting id = s.aborting id := rfl

theorem aborting_modSheet (g : Tag) (f : Sheet → Sheet) : (s.modSheet g f).aborting id = s.aborting id := rfl

/-- An update of a batch that makes it neither aborted nor other than aborted. -/
theorem aborting_modBatch (k : Nat) {f : Batch → Batch} (own : ∀ b, (f b).id = b.id)
    (kept : ∀ b, ((f b).state = .aborted) = (b.state = .aborted)) : (s.modBatch k f).aborting id = s.aborting id :=
  batchOf_modBatch_of_kept s k id (fun b => decide (b.state = .aborted)) own fun b => by simp only [kept]

theorem aborting_raise (f : Flag) : (raise f s).aborting id = s.aborting id :=
  (aborting_of_interior id (interior_raise f s)).trans (by rfl)

theorem aborting_freeRecord (g : Tag) : (freeRecord g s).aborting id = s.aborting id := by
  unfold freeRecord
  split <;> rfl

theorem aborting_leaveOrder (l : Fin 8) (g : Tag) : (leaveOrder l g s).aborting id = s.aborting id := by
  unfold leaveOrder returnReserve
  dsimp only
  split <;> rfl

theorem aborting_numberSheet (g : Tag) : (numberSheet g s).aborting id = s.aborting id := by
  unfold numberSheet
  split
  · rfl
  · refine (aborting_modSheet id _ g _).trans (aborting_modBatch id s _ (fun b => ?_) (fun b => ?_))
    · unfold Batch.number
      split <;> rfl
    · unfold Batch.number
      split <;> rfl

theorem aborting_halt (l : Fin 8) (why : HaltReason) : (halt l why s).aborting id = s.aborting id := by
  unfold halt
  split
  · exact (aborting_raise id _ _).trans (aborting_modLane id s l _)
  · rfl

/-- R42: the end of feeding makes a FEEDING batch DRAINING. -/
theorem aborting_endFeeding (l : Fin 8) : (endFeeding l s).aborting id = s.aborting id := by
  unfold endFeeding
  dsimp only
  split
  · rfl
  next k _ =>
    refine Eq.trans (by rfl) (aborting_modBatch id s k (f := fun b =>
      if b.state = .feeding then { b with state := .draining } else b) (fun b => ?_) (fun b => ?_))
    · split <;> rfl
    · split
      next feeding => simp [feeding]
      · rfl

theorem aborting_applyMatch (l : Fin 8) (g : Tag) (i : Fin 8) : (applyMatch l g i s).aborting id = s.aborting id := by
  unfold applyMatch
  split
  · rfl
  next r _ =>
    have marked : ((s.modSheet g (fun q => { q with separatorMatch := some i })).modBatch r.batch
        (fun b => { b with breakPending := true })).aborting id = s.aborting id :=
      (aborting_modBatch id _ r.batch (fun _ => by rfl) (fun _ => by rfl)).trans (aborting_modSheet id s g _)
    dsimp only
    split
    · exact marked
    · exact (aborting_endFeeding id _ l).trans marked

theorem aborting_dropSheet {count : Batch → Batch} (own : ∀ b, (count b).id = b.id)
    (kept : ∀ b, (count b).state = b.state) (l : Fin 8) (g : Tag) :
    (dropSheet count l g s).aborting id = s.aborting id := by
  unfold dropSheet
  split
  · rfl
  next r _ =>
    have counted : ((leaveOrder l g s).modBatch r.batch (fun b => count { b with settled := addSat b.settled 1 })).aborting
        id = s.aborting id :=
      (aborting_modBatch id _ r.batch (fun b => by rw [own]) (fun b => by rw [kept])).trans (aborting_leaveOrder id s l g)
    dsimp only
    rw [aborting_freeRecord]
    split
    · exact counted
    · rw [sendHead_eq, aborting_modLane]
      exact counted

theorem aborting_settleHeld (l : Fin 8) (g : Tag) : (settleHeld l g s).aborting id = s.aborting id := by
  unfold settleHeld
  split
  · rw [overflowHold, aborting_raise, aborting_dropSheet id _ (by exact fun _ => rfl) (by exact fun _ => rfl),
      aborting_numberSheet]
  · split
    · rfl
    next r _ =>
      rw [aborting_halt, aborting_raise]
      refine Eq.trans (by rfl) ((aborting_numberSheet id _ g).trans ?_)
      exact (aborting_modBatch id _ r.batch (fun _ => by rfl) (fun _ => by rfl)).trans (aborting_leaveOrder id s l g)

theorem aborting_deliver (g : Tag) (kind : Kind) (es : List (Fin 16 × DeliveryEntry)) :
    (deliver g kind es s).aborting id = s.aborting id := by
  have placed : (es.foldl appendEntry s).aborting id = s.aborting id := by
    rw [onlyPlaces_appendEntries es s]
    rfl
  unfold deliver
  split
  · rfl
  next r _ =>
    exact (aborting_modBatch id _ r.batch (fun _ => by rfl) (fun _ => by rfl)).trans placed

theorem aborting_countReleased (k : Nat) : (countReleased k s).aborting id = s.aborting id :=
  aborting_modBatch id s k (fun _ => by rfl) (fun _ => by rfl)

theorem aborting_settleReleased (l : Fin 8) (g : Tag) (k : Nat) (kind : Kind) (sep : Option (Fin 8))
    (es : List (Fin 16 × DeliveryEntry)) : (settleReleased l g k kind sep es s).aborting id = s.aborting id := by
  have freed (u : State) : (freeIfIdle g es u).aborting id = u.aborting id := by
    unfold freeIfIdle
    split
    · exact aborting_freeRecord id u g
    · rfl
  unfold settleReleased
  dsimp only
  rw [freed]
  split
  · rw [aborting_applyMatch, aborting_countReleased, aborting_deliver, aborting_leaveOrder]
  · rw [aborting_numberSheet, aborting_countReleased, aborting_deliver, aborting_leaveOrder]

theorem aborting_routeSheet (l : Fin 8) (r : Sheet) (sep : Option (Fin 8)) :
    (routeSheet l r sep s).aborting id = s.aborting id := by
  unfold routeSheet
  dsimp only
  split
  · rw [aborting_settleHeld, aborting_modSheet]
  · split
    · rw [aborting_settleReleased]
    · rfl

theorem aborting_decideOutcome (l : Fin 8) (r : Sheet) : (decideOutcome l r s).aborting id = s.aborting id := by
  unfold decideOutcome
  split
  · exact aborting_dropSheet id s (fun _ => by rfl) (fun _ => by rfl) l r.tag
  · split
    · exact aborting_dropSheet id s (fun _ => by rfl) (fun _ => by rfl) l r.tag
    · split
      · exact aborting_settleHeld id s l _
      · split
        · split
          · exact aborting_routeSheet id s l r _
          · rw [settleSeparator, aborting_freeRecord, aborting_applyMatch, aborting_countReleased, aborting_leaveOrder]
        · exact aborting_routeSheet id s l r _

theorem aborting_settleCursor (l : Fin 8) (g : Tag) : (settleCursor l g s).aborting id = s.aborting id := by
  unfold settleCursor
  split
  · rfl
  · rw [aborting_decideOutcome, aborting_modSheet]

end

/-! ### The lane's settlements in an abort -/

/-- From `s` to `v` sheets have left the settlement order of lane `l` at its head: the entries that joined the queue of
destination `x` are of such sheets, in their order, and none is of batch `id`. -/
def EarlyEntries (x : Fin 16) (id : Nat) (l : Fin 8) (s v : State) : Prop :=
  ∃ early gone, s.orders l = gone ++ v.orders l ∧ (early.map DeliveryEntry.sheet).Sublist gone ∧
    v.depth x = (s.depth x).pushAll early ∧ ∀ e ∈ early, entryBatch s e ≠ some id

theorem earlyEntries_of_depth {x : Fin 16} {s v : State} (kept : Keeps s v) (depth : v.depth x = s.depth x) (id : Nat)
    (l : Fin 8) : EarlyEntries x id l s v := by
  obtain ⟨gone, split⟩ := (kept.lanes l).order
  exact ⟨[], gone, split.symm, List.nil_sublist _, depth, by simp⟩

/-- Early entries as they join while batch `id` is aborted: the batch stays so, and its records stay its own. -/
structure EarlySettles (x : Fin 16) (id : Nat) (l : Fin 8) (s v : State) : Prop where
  aborting : v.aborting id = true
  doomed : ∀ g r, s.sheet? g = some r → r.batch = id → v.sheet? g = none ∨ ∃ q, v.sheet? g = some q ∧ q.batch = id
  early : EarlyEntries x id l s v

theorem earlySettles_settleCursor {x : Fin 16} {id : Nat} {l : Fin 8} {g : Tag} {s v : State}
    (h : EarlySettles x id l s v) (head : (v.lane l).settleOrder.head? = some g) :
    EarlySettles x id l s (settleCursor l g v) := by
  obtain ⟨aborting, doomed, early, gone, left, sheets, depth, others⟩ := h
  have frame := settleFrame_settleCursor l g v
  obtain ⟨next, suffix⟩ := ((keeps_settleCursor (.refl v) head).lanes l).order
  refine ⟨(aborting_settleCursor id v l g).trans aborting, fun f r found own => ?_, ?_⟩
  · by_cases same : f = g
    · subst same
      rcases doomed f r found own with absent | ⟨q, live, mine⟩
      · exact .inl (frame.absent absent)
      · refine .inl ?_
        have aborts : batchAborting v q = true := by
          rw [← mine] at aborting
          exact aborting
        rw [settleCursor_discards l live (.inr aborts), State.sheet?_modBatch, dropped, State.sheet?_modLane, freedOf_sheet?,
          State.tag_of_sheet? live, if_pos rfl]
    · rw [frame.sheets f same]
      exact doomed f r found own
  · rcases depth_settleCursor (x := x) (l := l) (g := g) (s := v) with same | ⟨e, ⟨r, live, going⟩, own, pushed, order⟩
    · refine ⟨early, gone ++ next, ?_, sheets.trans (List.sublist_append_left _ _), same.trans depth, others⟩
      rw [left, List.append_assoc]
      exact congrArg (gone ++ ·) suffix.symm
    · obtain ⟨rest, settling⟩ := List.head?_eq_some_iff.mp head
      rw [settling, List.erase_cons_head] at order
      refine ⟨early ++ [e], gone ++ [g], ?_, ?_, ?_, fun f mem => ?_⟩
      · rw [left, State.orders, settling, State.orders, order, List.append_assoc, List.singleton_append]
      · rw [List.map_append, List.map_singleton, own]
        exact sheets.append_right [g]
      · rw [pushed, depth, Depth.pushAll_append]
        rfl
      · rcases List.mem_append.mp mem with mem | mem
        · exact others f mem
        · rw [List.mem_singleton.mp mem, entryBatch, own]
          intro ofBatch
          obtain ⟨q, found, mine⟩ := Option.map_eq_some_iff.mp ofBatch
          rcases doomed g q found mine with absent | ⟨q, found, mine⟩
          · rw [absent] at live
            cases live
          · rw [found] at live
            cases live
            exact going (mine ▸ of_decide_eq_true aborting)

theorem earlySettles_abortActive (x : Fin 16) {s : State} {id : Nat} {b : Batch} (found : s.batch? id = some b)
    (l : Fin 8) : EarlySettles x id l s (abortActive id l s) := by
  rw [abortActive_eq]
  refine settleLoop_keeps (EarlySettles x id l s) (fun _ _ h head => earlySettles_settleCursor h head) _ ?_
  have freed : (freePicking l s).batch? id = some b := by
    simp only [State.batch?, batches_freePicking]
    exact found
  have lane (y : Lane) : y.Keeps y.abortDraining := by
    unfold Lane.abortDraining
    split <;> exact .of_same rfl
  have kept : Keeps s (abortDrained id l s) :=
    keeps_modLane (keeps_modBatch (keeps_freePicking (.refl s) l) _ _) (lane _)
  refine ⟨decide_eq_true ?_, fun g r live own => ?_, ?_⟩
  · rw [abortDrained, State.batchOf_modLane, State.batchOf_modBatch_same _ _ _ (fun _ => by rfl) freed]
  · change (freePicking l s).sheet? g = none ∨ ∃ q, (freePicking l s).sheet? g = some q ∧ q.batch = id
    rw [sheet?_freePicking]
    split
    · exact .inl rfl
    · exact .inr ⟨r, live, own⟩
  · exact earlyEntries_of_depth kept (by rw [abortDrained, depth_modLane, depth_modBatch, depth_freePicking]) id l

end Sys2Proof.Machine
end

section
/-!
PROOF. The commands and WARN (R168): each leaves it unset, or has let sheets' entries take a queue to its warning level.
-/

namespace Sys2Proof.Machine

/-! ### The rise of WARN -/

/-- In command `c` the queue of destination `x` has come to its warning level: it has lost all entries but `kept`, with the
`early` ones of an abort among them, and has taken the entries `late`, and one or the other took it there. -/
def WarnRises (c : Instr) (x : Fin 16) (s t : State) : Prop :=
  ∃ early kept late : List DeliveryEntry,
    (early ≠ [] → c = .batchAbort ∧ ∃ l, settledFrom c l s t (early.map DeliveryEntry.sheet)) ∧
    (∀ d, s.dirQueue.head? = some d → ∀ e ∈ early, entryBatch s e ≠ some (rd d.params 0 2)) ∧
    (∀ e ∈ late, (∃ l, settledFrom c l s t [e.sheet]) ∨
      ((c = .resolveAccept ∨ c = .resolveReview) ∧ (∃ h ∈ s.held, h.tag = e.sheet) ∧ ∀ h ∈ t.held, h.tag ≠ e.sheet)) ∧
    kept.Sublist ((s.dest x).queue ++ early) ∧ (t.dest x).queue = kept ++ late ∧
    (((s.dest x).queue.length < (s.dest x).warn ∧ (s.dest x).warn ≤ (s.dest x).queue.length + early.length) ∨
      (kept.length < (s.dest x).warn ∧ (s.dest x).warn ≤ kept.length + late.length))

section
variable {c : Instr} {x : Fin 16} {s t u : State}

/-- A sheet that has left a lane's order, with the newest at its tail, at the head. -/
theorem settledFrom_of_gone {l : Fin 8} {newest gs gone : List Tag} (few : newest.length ≤ 1)
    (lead : newest ≠ [] → c = .lead l)
    (joins : ∀ g ∈ newest, (s.lane l).picking = some g ∨ ((s.lane l).picking = none ∧ s.sheet? g = none))
    (left : s.orders l ++ newest = gone ++ t.orders l) (mem : gs.Sublist gone) : settledFrom c l s t gs := by
  change (s.lane l).settleOrder ++ newest = gone ++ (t.lane l).settleOrder at left
  refine ⟨gone.length, newest, few, lead, joins, ?_, ?_⟩
  · rw [left, List.drop_left]
  · rwa [left, List.take_left]

/-- Entries of sheets that leave a settlement order, with the newest of a lead, take a queue to its level. -/
theorem warnRises_of_grown {l : Fin 8} {newest : List Tag} {d : Depth} (few : newest.length ≤ 1)
    (lead : newest ≠ [] → c = .lead l)
    (joins : ∀ g ∈ newest, (s.lane l).picking = some g ∨ ((s.lane l).picking = none ∧ s.sheet? g = none))
    (cut : (s.depth x).Cut d) (grown : Grown x (s.ordersWith l newest) d t)
    (clear : s.flag (.dest x .warn) = false) (set : t.flag (.dest x .warn) = true) : WarnRises c x s t := by
  obtain ⟨-, late, pushed, left⟩ := grown
  have frame := d.pushAll_frame late
  rw [← pushed] at frame
  have flagged : (d.pushAll late).flagged = true := (congrArg Depth.flagged pushed).symm.trans set
  have crosses := Depth.crosses_of_pushAll flagged (cut.flagged.trans clear)
  rw [cut.warn] at crosses
  refine ⟨[], d.queue, late, fun h => absurd rfl h, by simp, fun e mem => .inl ?_, ?_, congrArg Depth.queue frame,
    .inr crosses⟩
  · obtain ⟨k, gone, split, mem⟩ := left e mem
    refine ⟨k, settledFrom_of_gone (newest := if k = l then newest else []) ?_ ?_ ?_ split (List.singleton_sublist.mpr mem)⟩
    · split <;> simp [few]
    · split
      next own => exact own ▸ lead
      · exact fun h => absurd rfl h
    · split
      next own => exact own ▸ joins
      · simp
  · rw [List.append_nil]
    exact cut.queue

theorem warnRises_of_regrown (h : Regrown x s t) (clear : s.flag (.dest x .warn) = false)
    (set : t.flag (.dest x .warn) = true) : WarnRises c x s t := by
  obtain ⟨d, cut, grown⟩ := h
  rw [← ordersWith_nil s 0] at grown
  exact warnRises_of_grown (by simp) (fun h => absurd rfl h) (by simp) cut grown clear set

end

/-! ### Commands whose sheets leave a settlement order -/

section
variable {x : Fin 16} {s t u : State}

theorem Regrown.of_interior (h : Regrown x s t) (left : u.interior = t.interior) : Regrown x s u := by
  obtain ⟨d, cut, orders, late, pushed, gone⟩ := h
  have lane (l : Fin 8) : u.lane l = t.lane l := lane_of_interior left l
  exact ⟨d, cut, fun l => by rw [lane]; exact orders l, late, (depth_of_interior x left).trans pushed,
    fun e mem => by simpa only [lane] using gone e mem⟩

/-- R166: what a disable removes, and the sheets that waited on the destination. -/
theorem regrown_destDisable (d : Fin 16) (ps : List Byte) (u : State) : Regrown x u (destDisable d ps u).state := by
  unfold destDisable
  split
  · exact .refl x u
  · dsimp only [accept]
    split
    · exact regrown_of_cut (keeps_closeDest d u) (cut_closeDest x u d) fun _ h => h
    · exact regrown_of_cut (keeps_closeDest d u) (cut_closeDest x u d) fun _ h => grown_afterDrop h d _

theorem regrown_execDestDisable (run : exec .destDisable s = .next t) : Regrown x s t := by
  cases run
  rcases runDirective_cases .destDisable (withLength 1 (withSixteen destDisable)) s with same | ⟨d, -, left⟩
  · rw [same]
    exact .refl x s
  · have ran : Regrown x s.dequeued (withLength 1 (withSixteen destDisable) d.params s.dequeued).state :=
      withLength_satisfies (P := Regrown x) (.refl x) _ _
        (withSixteen_satisfies (P := Regrown x) (.refl x) _ _ fun i => regrown_destDisable i _ _)
    exact ran.of_interior left

/-- R51, R52: a lead joins the picking sheet or a new one to its lane's order. -/
theorem grown_execLead {l : Fin 8} (run : exec (.lead l) s = .next t) : ∃ newest : List Tag, newest.length ≤ 1 ∧
    (∀ g ∈ newest, (s.lane l).picking = some g ∨ ((s.lane l).picking = none ∧ s.sheet? g = none)) ∧
    Grown x (s.ordersWith l newest) (s.depth x) t := by
  have nobody (u : State) (h : Grown x s.orders (s.depth x) u) : ∃ newest : List Tag, newest.length ≤ 1 ∧
      (∀ g ∈ newest, (s.lane l).picking = some g ∨ ((s.lane l).picking = none ∧ s.sheet? g = none)) ∧
      Grown x (s.ordersWith l newest) (s.depth x) u := ⟨[], by simp, by simp, by rwa [ordersWith_nil]⟩
  have start := Grown.refl x s
  cases run
  split
  · exact nobody _ start
  next y edge =>
    have frame := edgeTo_frame edge
    set sensed := s.setLane l { y with lastLead := y.counter } with hsensed
    have lane : sensed.lane l = { y with lastLead := y.counter } := State.lane_setLane_same _ _ _
    have kept : Keeps s sensed := keeps_setLane (.refl s) ((keeps_edgeTo edge).trans (.of_same rfl))
    dsimp only
    split
    · obtain ⟨newest, few, joins, grown⟩ := grown_attributeLead (x := x) l sensed
      have orders : sensed.orders = s.orders := by
        funext k
        by_cases own : k = l
        · rw [own, State.orders, lane, frame]
          rfl
        · rw [State.orders, hsensed, State.lane_setLane_other s _ own]
          rfl
      have joined : sensed.ordersWith l newest = s.ordersWith l newest := by
        funext k
        rw [State.ordersWith, orders]
        rfl
      rw [joined] at grown
      refine ⟨newest, few, fun g mem => ?_, grown_kickPorts grown⟩
      have picking := joins g mem
      rwa [lane, frame] at picking
    · exact nobody _ (start.same kept (by rfl))

/-! ### RESOLVE (R121) -/

theorem held_testBatch (id : Nat) (s : State) : (testBatch id s).held = s.held := by
  have finished (final : FinalState) (s : State) : (finishBatch final id s).held = s.held := by
    unfold finishBatch
    split
    · rfl
    · exact (held_of_interior (interior_handReport _ _)).trans rfl
  have closed : (testClosure id s).held = s.held := by
    unfold testClosure
    split
    · rfl
    · split
      · exact finished _ s
      · rfl
  unfold testBatch testAbort
  split
  · exact closed
  · split
    · exact (finished _ _).trans closed
    · exact closed

/-- From `s` to `t` the queue of destination `x` has taken at most one entry, of a held sheet that has left the list. -/
def Resolves (x : Fin 16) (s t : State) : Prop :=
  t.depth x = s.depth x ∨ ∃ h ∈ s.held, ∃ e : DeliveryEntry, e.sheet = h.tag ∧ t.depth x = (s.depth x).push e ∧
    ∀ k ∈ t.held, k.tag ≠ h.tag

theorem resolves_resolveRelease {e : HeldEntry} (listed : e ∈ s.held) (kind : Kind) (sep : Option (Fin 8)) :
    Resolves x s (resolveRelease e kind sep s).state := by
  unfold resolveRelease
  split
  · exact .inl rfl
  next r found =>
    split
    · exact .inl rfl
    next es placed =>
      split
      · exact .inl rfl
      · dsimp only [accept]
        set unlisted := ({ s with held := s.held.filter (fun h => decide (h.tag ≠ e.tag)) } : State).modBatch e.batch
          (fun b => { b with heldNow := b.heldNow - 1, released := addSat b.released 1 }) with hunlisted
        have held : (deliver e.tag kind es unlisted).held = s.held.filter (fun h => decide (h.tag ≠ e.tag)) := by
          unfold deliver
          split
          · rfl
          · exact (congrArg State.held (onlyPlaces_appendEntries es unlisted)).trans rfl
        have depth : unlisted.depth x = s.depth x := by rfl
        rcases depth_deliver x (kind' := kind) (u := unlisted) placed e.tag with same | ⟨f, own, pushed⟩
        · refine .inl ?_
          rw [depth_testBatch, depth_freeIfIdle, depth_modSheet, same, depth]
        · refine .inr ⟨e, listed, f, own.trans (State.tag_of_sheet? found), ?_, fun k mem => ?_⟩
          · rw [depth_testBatch, depth_freeIfIdle, depth_modSheet, pushed, depth]
          · have left : (freeIfIdle e.tag es ((deliver e.tag kind es unlisted).modSheet e.tag (fun q =>
                { q with separatorMatch := if sep.isSome then sep else q.separatorMatch }))).held =
                  s.held.filter (fun h => decide (h.tag ≠ e.tag)) := by
              rw [← held]
              unfold freeIfIdle freeRecord
              split
              · split <;> rfl
              · rfl
            rw [held_testBatch, left] at mem
            exact of_decide_eq_true (List.mem_filter.mp mem).2

theorem warnRises_of_resolves {c : Instr} (choice : c = .resolveAccept ∨ c = .resolveReview) {row : DirectiveRow}
    {n k : Nat} {body : HeldEntry → State → Executed}
    (resolves : ∀ u, ∀ e ∈ u.held, Resolves x u (body e u).state)
    (run : (Host.Outcome.next (runDirective row (withLength n (withHeld k body)) s) : Answer) = .next t)
    (clear : s.flag (.dest x .warn) = false) (set : t.flag (.dest x .warn) = true) : WarnRises c x s t := by
  have resolved : Resolves x s t := by
    cases run
    rcases runDirective_cases row (withLength n (withHeld k body)) s with same | ⟨d, -, left⟩
    · exact .inl (by rw [same])
    · have ran : Resolves x s.dequeued (withLength n (withHeld k body) d.params s.dequeued).state :=
        withLength_satisfies (P := Resolves x) (fun _ => .inl rfl) _ _
          (withHeld_satisfies (P := Resolves x) (fun _ => .inl rfl) _ _ (resolves _))
      rw [Resolves, depth_of_interior x left, held_of_interior left]
      exact ran
  rcases resolved with same | ⟨h, listed, e, own, pushed, left⟩
  · rw [(Calm.of_depth same) set] at clear
    cases clear
  · have flagged : ((s.depth x).pushAll [e]).flagged = true := (congrArg Depth.flagged pushed).symm.trans set
    refine ⟨[], (s.dest x).queue, [e], fun h => absurd rfl h, by simp, fun f mem => ?_, by simp, congrArg Depth.queue pushed,
      .inr (Depth.crosses_of_pushAll flagged clear)⟩
    rw [List.mem_singleton.mp mem]
    exact .inr ⟨choice, ⟨h, listed, own.symm⟩, fun k mem => by rw [own]; exact left k mem⟩

/-! ### BATCH_ABORT (R136, R177, log 11) -/

/-- R123, R177: held sheets and entries of the batch leave, then the sheets that waited are retried. -/
theorem regrown_abortRest (id : Nat) (v : State) : Regrown x v (abortRest id v) := by
  set unheld := discardBatchHeld id v with hunheld
  have kept : Keeps v (allDests.foldl (abortDest id) unheld) :=
    keeps_foldl (fun u d k => keeps_abortDest d id u k) _ (keeps_discardBatchHeld (.refl v) id)
  have cut : (v.depth x).Cut ((allDests.foldl (abortDest id) unheld).depth x) := by
    rw [← depth_discardBatchHeld x v id]
    exact cut_foldl x (fun u y => cut_abortDest x u id y) _ _
  unfold abortRest abortEntries
  dsimp only
  rw [← hunheld]
  exact regrown_of_cut kept cut fun _ h => grown_retryWaiting h _

/-- From `s` to `t` the sheets of one lane have been settled first, and then entries removed and waiting sheets retried. -/
def AbortSettles (x : Fin 16) (id : Nat) (s t : State) : Prop :=
  ∃ l v, Keeps s v ∧ EarlyEntries x id l s v ∧ Regrown x v t

theorem abortSettles_of_depth {id : Nat} {v : State} (kept : Keeps s v) (depth : v.depth x = s.depth x)
    (rest : Regrown x v t) : AbortSettles x id s t :=
  ⟨0, v, kept, earlyEntries_of_depth kept depth id 0, rest⟩

theorem AbortSettles.refl (id : Nat) (s : State) : AbortSettles x id s s :=
  abortSettles_of_depth (.refl s) rfl (.refl x s)

theorem abortSettles_batchAbort (id : Nat) (ps : List Byte) (s : State) :
    AbortSettles x id s (batchAbort id ps s).state := by
  have finished (l : Fin 8) (v : State) : Regrown x v (testAbort id (drainTest l (abortRest id v))) :=
    ((regrown_abortRest id v).same (keeps_drainTest (.refl _) l) (depth_drainTest x _ l)).same
      (keeps_testAbort (.refl _) id) (depth_testAbort x _ id)
  have unqueued (l : Fin 8) : AbortSettles x id s (testAbort id (abortRest id
      ((s.modBatch id (fun c => { c with state := .aborted })).modLane l (fun x =>
        { x with batchQueue := x.batchQueue.erase id })))) :=
    abortSettles_of_depth (keeps_unqueued (keeps_modBatch (.refl s) id _) l id) (by rfl)
      ((regrown_abortRest id _).same (keeps_testAbort (.refl _) id) (depth_testAbort x _ id))
  unfold batchAbort
  split
  · exact .refl id s
  next b found =>
    have active : AbortSettles x id s (testAbort id (drainTest b.lane (abortRest id (abortActive id b.lane s)))) :=
      ⟨b.lane, _, keeps_abortActive b.lane id s (.refl s), (earlySettles_abortActive x found b.lane).early, finished _ _⟩
    split
    · exact .refl id s
    all_goals dsimp only [accept]
    · exact active
    · exact active
    · exact unqueued _
    · exact unqueued _

theorem warnRises_of_abort (run : exec .batchAbort s = .next t) (clear : s.flag (.dest x .warn) = false)
    (set : t.flag (.dest x .warn) = true) : WarnRises .batchAbort x s t := by
  obtain ⟨id, named, l, v, kept, ⟨early, gone, left, sheets, depth, others⟩, d, cut, orders, late, pushed, gones⟩ :
      ∃ id, (∀ d, s.dirQueue.head? = some d → id = rd d.params 0 2) ∧ AbortSettles x id s t := by
    cases run
    rcases runDirective_cases .batchAbort (withLength 2 (withId batchAbort)) s with same | ⟨d, head, interior⟩
    · rw [same] at set
      rw [set] at clear
      cases clear
    · have ran : AbortSettles x (rd d.params 0 2) s.dequeued
          (withLength 2 (withId batchAbort) d.params s.dequeued).state :=
        withLength_satisfies (P := AbortSettles x _) (.refl _) _ _
          (withId_satisfies (P := AbortSettles x _) (.refl _) _ _ (abortSettles_batchAbort _ _ _))
      obtain ⟨l, v, kept, early, rest⟩ := ran
      refine ⟨rd d.params 0 2, fun e he => ?_, l, v,
        (keeps_congr (.refl s) (by rfl) : Keeps s s.dequeued).trans kept, early, rest.of_interior interior⟩
      rw [head] at he
      cases he
      rfl
  have frame := d.pushAll_frame late
  rw [← pushed] at frame
  have before := (s.depth x).pushAll_frame early
  rw [← depth] at before
  refine ⟨early, d.queue, late, fun _ => ⟨rfl, l, ?_⟩, fun e head f mem => ?_, fun e mem => .inl ?_, ?_,
    congrArg Depth.queue frame, ?_⟩
  · obtain ⟨next, suffix⟩ := orders l
    refine settledFrom_of_gone (newest := []) (gone := gone ++ next) (by simp) (fun h => absurd rfl h) (by simp) ?_
      (sheets.trans (List.sublist_append_left _ _))
    rw [List.append_nil, left, List.append_assoc]
    exact congrArg (gone ++ ·) suffix.symm
  · rw [← named e head]
    exact others f mem
  · obtain ⟨k, next, split, mem⟩ := gones e mem
    obtain ⟨first, suffix⟩ := (kept.lanes k).order
    refine ⟨k, settledFrom_of_gone (newest := []) (gone := first ++ next) (by simp) (fun h => absurd rfl h) (by simp) ?_
      (List.singleton_sublist.mpr (List.mem_append_right _ mem))⟩
    rw [List.append_nil, State.orders, ← suffix, List.append_assoc]
    exact congrArg (first ++ ·) split
  · have queue := cut.queue
    rwa [before] at queue
  · have warn : d.warn = (s.dest x).warn := by rw [cut.warn, before]; rfl
    by_cases risen : d.flagged = true
    · refine .inl (Depth.crosses_of_pushAll (d := s.depth x) (es := early) ?_ clear)
      rw [← depth, ← cut.flagged, risen]
    · refine .inr ?_
      rw [← warn]
      exact Depth.crosses_of_pushAll ((congrArg Depth.flagged pushed).symm.trans set) (Bool.eq_false_of_not_eq_true risen)

end

end Sys2Proof.Machine
end

section
/-!
PROOF. Every command and WARN (R168).
-/

namespace Sys2Proof.Machine

section
variable {x : Fin 16} {s t u : State}

theorem calm_of_next (depth : u.depth x = s.depth x) (run : (Host.Outcome.next u : Answer) = .next t) : Calm x s t := by
  cases run
  exact .of_depth depth

theorem regrown_of_next (h : Regrown x s u) (run : (Host.Outcome.next u : Answer) = .next t) : Regrown x s t := by
  cases run
  exact h

theorem regrown_of_modPort {p : Port} {f : PortState → PortState} (h : Regrown x (s.modPort p f) t) : Regrown x s t := by
  cases p <;> exact h

theorem depth_stationFrameArrives (p : Port) (frame : List Byte) : (stationFrameArrives p frame s).depth x = s.depth x := by
  unfold stationFrameArrives
  split
  · split
    · rw [depth_kickPorts]
      unfold offerDirective
      split
      · split
        · rfl
        · exact depth_pushReply x s _ _
      · exact depth_modPort x s _ _
    · rw [depth_kickPorts]
      unfold takeCredit
      split
      · split
        · rfl
        · exact depth_modDest x s _ (fun _ => by rfl) (fun _ => by rfl)
      · rfl
    · rfl
  · rfl

theorem calm_execRestart (run : exec .restart s = .next t) : Calm x s t := by
  cases run
  unfold takeDirective
  split
  · exact .refl s
  next d v taken =>
    have rest : v.flags = s.flags := by
      split at taken
      · cases taken
      · split at taken
        · cases taken
          rfl
        · cases taken
    intro set
    have set : (restartFor d v).flag (.dest x .warn) = true :=
      (congrArg Depth.flagged (depth_kickPorts x
        { restartFor d v with freeIndex := (restartFor d v).freeIndex + 1 })).symm.trans set
    exact Calm.of_flags rest (calm_restartFor x d v set)

/-- R1: no flag is set at power-on. -/
theorem calm_execPowerOn {pins : Vector (BitVec 8) 8} {straps links : BitVec 8} {la lb : Bool}
    (run : exec (.powerOn pins straps links la lb) s = .next t) : Calm x s t := by
  cases run
  intro set
  have clear (f : Flag) : (State.powerOn pins straps links la lb).flag f = false := by
    simp [State.flag, State.powerOn]
  rw [show State.flag _ (.dest x .warn) = (State.powerOn pins straps links la lb).flag (.dest x .warn) by rfl, clear] at set
  cases set

/-- An edge changes a line of its lane, and is captured. -/
theorem grown_sensed {l : Fin 8} {role : Role} {active : Bool} {y z : Lane} (edge : (s.lane l).edgeTo role active = some y)
    (captured : y.Keeps z) : Grown x s.orders (s.depth x) (s.setLane l z) :=
  (Grown.refl x s).same (keeps_setLane (.refl s) ((keeps_edgeTo edge).trans captured)) (by rfl)

/-- But for a lead, a RESOLVE that releases and BATCH_ABORT, a command does not set WARN or lets the queue only lose entries
and then take those of sheets that leave a settlement order. -/
theorem calm_or_regrown_exec {c : Instr} (noLead : ∀ l, c ≠ .lead l) (noAccept : c ≠ .resolveAccept)
    (noReview : c ≠ .resolveReview) (noAbort : c ≠ .batchAbort) (run : exec c s = .next t) :
    Calm x s t ∨ Regrown x s t := by
  have start := Grown.refl x s
  cases c with
  | powerOn => exact .inl (calm_execPowerOn run)
  | directive => exact .inl (calm_of_next (depth_stationFrameArrives _ _) run)
  | credit => exact .inl (calm_of_next (depth_stationFrameArrives _ _) run)
  | discardedStationFrame => exact .inl (calm_of_next (depth_stationFrameArrives _ _) run)
  | unknown => exact .inl (calm_of_body (fun _ _ => .of_depth rfl) run)
  | laneSet => exact .inl (calm_of_laneBody (depth_laneSet x) run)
  | laneStart => exact .inl (calm_of_laneBody (depth_laneStart x) run)
  | lanePause => exact .inl (calm_of_laneBody (depth_lanePause x) run)
  | laneResume => exact .inl (calm_of_laneBody (depth_laneResume x) run)
  | laneClear => exact .inl (calm_of_laneBody (depth_laneClear x) run)
  | laneManualEnter => exact .inl (calm_of_laneBody (depth_laneManualEnter x) run)
  | laneManualLeave => exact .inl (calm_of_laneBody (depth_laneManualLeave x) run)
  | laneRead => exact .inl (calm_of_laneBody (fun _ _ _ => rfl) run)
  | linesMap pins => exact .inl (calm_of_laneBody (fun l => depth_linesMap x l pins) run)
  | linesSet pins => exact .inl (calm_of_body (fun ps u => .of_depth (depth_linesSet x pins ps u)) run)
  | linesRead => exact .inl (calm_of_laneBody (fun _ _ _ => rfl) run)
  | lanePowerOff => exact .inl (calm_of_laneBody (depth_lanePowerOff x) run)
  | lanePowerIdle => exact .inl (calm_of_laneBody (depth_lanePowerIdle x) run)
  | lanePowerSet => exact .inl (calm_of_laneBody (fun _ _ _ => rfl) run)
  | lanePowerStandby => exact .inl (calm_of_laneBody (depth_lanePowerStandby x) run)
  | profileLoad => exact .inl (calm_of_body (fun ps u => .of_depth (depth_profileLoad x ps u)) run)
  | profileRead => exact .inl (calm_of_sixteenBody (fun _ _ _ => .of_depth rfl) run)
  | storeSet => exact .inl (calm_of_depthBody (depth_storeSet x) run)
  | storeRead => exact .inl (calm_of_depthBody (fun _ _ => rfl) run)
  | resolveAccept => exact absurd rfl noAccept
  | resolveReview => exact absurd rfl noReview
  | resolveDiscard =>
    exact .inl (calm_of_body (fun ps u => withLength_satisfies .refl ps u
      (withHeld_satisfies .refl ps u fun e _ => .of_depth (depth_resolveDiscard x e u))) run)
  | heldList => exact .inl (calm_of_depthBody (fun _ _ => rfl) run)
  | sheetRead => exact .inl (calm_of_depthBody (depth_sheetRead x) run)
  | batchOpen => exact .inl (calm_of_depthBody (depth_batchOpen x) run)
  | batchClose => exact .inl (calm_of_idBody (depth_batchClose x) run)
  | batchAbort => exact absurd rfl noAbort
  | batchRead => exact .inl (calm_of_idBody (depth_batchRead x) run)
  | separatorLoad => exact .inl (calm_of_body (fun ps u => .of_depth (depth_separatorLoad x ps u)) run)
  | separatorRead => exact .inl (calm_of_depthBody (depth_separatorRead x) run)
  | routeLoad => exact .inl (calm_of_body (fun ps u => .of_depth (depth_routeLoad x ps u)) run)
  | routeSwap => exact .inl (calm_of_depthBody (fun _ _ => rfl) run)
  | routeRead => exact .inl (calm_of_depthBody (depth_routeRead x) run)
  | destSet => exact .inl (calm_of_sixteenBody (fun d ps u => .of_flags (flags_destSet d ps u)) run)
  | destEnable => exact .inl (calm_of_sixteenBody (fun d ps u => .of_flags (flags_destEnable d ps u)) run)
  | destDisable => exact .inr (regrown_execDestDisable run)
  | destRead => exact .inl (calm_of_sixteenBody (fun _ _ _ => .of_depth rfl) run)
  | portRead => exact .inl (calm_of_depthBody (depth_portRead x) run)
  | reportSet => exact .inl (calm_of_depthBody (depth_reportSet x) run)
  | eventsRead => exact .inl (calm_of_depthBody (fun _ _ => rfl) run)
  | eventsClear =>
    exact .inl (calm_of_body (fun ps u => withLength_satisfies .refl ps u (calm_eventsClear x ps u)) run)
  | restart => exact .inl (calm_execRestart run)
  | nextPickExpiry =>
    refine .inl (calm_of_next ?_ run)
    split <;> rfl
  | pickPulseEnd =>
    refine .inl (calm_of_next ?_ run)
    split <;> rfl
  | pickWindowExpiry l =>
    refine .inl (calm_of_next ?_ run)
    split
    · dsimp only
      split
      · rw [depth_kickPorts, depth_feedingWindow, depth_modLane]
      · rw [depth_kickPorts, depth_drainTest, depth_freePicking, depth_modLane]
      · rw [depth_kickPorts, depth_drainTest, depth_freePicking, depth_modLane]
      all_goals rfl
    · rfl
  | sampleExpiry =>
    refine .inl (calm_of_next ?_ run)
    split <;> rfl
  | gateLimitExpiry l =>
    refine .inr (regrown_of_next ?_ run)
    split
    · exact (grown_kickPorts (grown_jam (start.same (keeps_modLane (.refl s) (.of_same rfl)) (by rfl)) l _)).regrown
    · exact .refl x s
  | imageDeadlineExpiry g =>
    refine .inr (regrown_of_next ?_ run)
    split
    · exact .refl x s
    · split
      · refine (grown_kickPorts (grown_settleLane ?_ _)).regrown
        split
        · exact grown_modSheet start g _
        · exact grown_addIncomplete (grown_modSheet start g _) g
      · exact .refl x s
  | exitWindowExpiry l =>
    refine .inr (regrown_of_next ?_ run)
    split
    · exact (grown_kickPorts (grown_jam (start.same
        (keeps_modLane (.refl s) { Lane.Keeps.refl (s.lane l) with path := by simp }) (by rfl)) l _)).regrown
    · exact .refl x s
  | divertEnd =>
    refine .inl (calm_of_next ?_ run)
    split <;> rfl
  | endOfSpinup =>
    refine .inl (calm_of_next ?_ run)
    split
    · split <;> rfl
    · rfl
  | idleCountdownExpiry =>
    refine .inl (calm_of_next ?_ run)
    split
    · rw [depth_kickPorts, depth_raise x _ (by simp), depth_modLane]
    · rfl
  | lead l => exact absurd rfl (noLead l)
  | trail l =>
    refine .inr (regrown_of_next ?_ run)
    split
    · exact .refl x s
    next y edge =>
      have sensed := grown_sensed (x := x) (z := { y with lastTrail := y.counter }) edge (.of_same rfl)
      dsimp only
      split
      · exact sensed.regrown
      · split
        · exact (grown_kickPorts (grown_attributeTrail sensed l _)).regrown
        · exact sensed.regrown
  | exitLead l =>
    refine .inr (regrown_of_next ?_ run)
    split
    · exact .refl x s
    next y edge =>
      have sensed := grown_sensed (x := x) (z := { y with lastExitLead := y.counter }) edge (.of_same rfl)
      dsimp only
      split
      · exact (grown_kickPorts (grown_attributeExitLead sensed l)).regrown
      · exact sensed.regrown
  | exitTrail l =>
    refine .inl (calm_of_next ?_ run)
    split
    · rfl
    · dsimp only
      split
      · rfl
      · split
        · rw [depth_kickPorts, depth_attributeExitTrail, depth_setLane]
        · rfl
  | coverActive l =>
    refine .inr (regrown_of_next ?_ run)
    split
    · exact .refl x s
    next y edge => exact (grown_kickPorts (grown_coverOpened (grown_sensed edge (.refl y)) l)).regrown
  | coverInactive =>
    refine .inl (calm_of_next ?_ run)
    split <;> rfl
  | trayEdge =>
    refine .inl (calm_of_next ?_ run)
    split <;> rfl
  | spareEdge =>
    refine .inl (calm_of_next ?_ run)
    split
    · split
      · rfl
      · rw [depth_kickPorts, depth_raise x _ (by simp), depth_setLane]
    · rfl
  | linkStateChange => exact .inl (calm_of_next (depth_modLane x s _ _) run)
  | strip => exact .inr (regrown_of_next (grown_laneFrameArrives start _ _).regrown run)
  | patch => exact .inr (regrown_of_next (grown_laneFrameArrives start _ _).regrown run)
  | malformedFrame => exact .inr (regrown_of_next (grown_laneFrameArrives start _ _).regrown run)
  | pick l =>
    refine .inl (calm_of_next ?_ run)
    split
    · rw [depth_kickPorts]
      unfold makePick
      split
      · rfl
      · rw [depth_modLane, depth_createSheet]
    · rfl
  | settlement => exact .inr (regrown_of_next (grown_kickPorts (grown_settleLane start _)).regrown run)
  | queueWaitRetry =>
    refine .inr (regrown_of_next ?_ run)
    split
    · exact .refl x s
    · exact (grown_kickPorts (grown_pokeLane start _)).regrown
  | drainCompletion => exact .inl (calm_of_next (by rw [depth_kickPorts, depth_drainTest]) run)
  | batchClosure => exact .inl (calm_of_next (by rw [depth_kickPorts, depth_testClosure]) run)
  | endOfAbort => exact .inl (calm_of_next (by rw [depth_kickPorts, depth_testAbort]) run)
  | frameEnd p =>
    refine .inr (regrown_of_next ?_ run)
    split
    · exact (regrown_frameEnds p s).of_interior ((interior_kickPorts _).trans (interior_boundary p _))
    · exact .refl x s
  | frameBoundary => exact .inl (calm_of_next (by rw [depth_kickPorts, depth_boundary]) run)
  | pendingLostNotice => exact .inl (calm_of_next (by rw [depth_kickPorts, depth_placePendingLost]) run)
  | portLinkUp => exact .inl (calm_of_next (by rw [depth_kickPorts, depth_boundary, depth_modPort]) run)
  | portLinkDown p =>
    refine .inr (regrown_of_next ?_ run)
    have down := regrown_frameEnds (x := x) p (s.modPort p (fun q => { q with linkUp := false }))
    exact (regrown_of_modPort down).of_interior (interior_kickPorts _)

/-- R168: whatever the command, where WARN goes from clear to set, entries took the queue to its level. -/
theorem warnRises_exec {c : Instr} (run : exec c s = .next t) (clear : s.flag (.dest x .warn) = false)
    (set : t.flag (.dest x .warn) = true) : WarnRises c x s t := by
  by_cases lead : ∃ l, c = .lead l
  · obtain ⟨l, rfl⟩ := lead
    obtain ⟨newest, few, joins, grown⟩ := grown_execLead run
    exact warnRises_of_grown few (fun _ => rfl) joins (.refl _) grown clear set
  by_cases choice : c = .resolveAccept ∨ c = .resolveReview
  · rcases choice with rfl | rfl
    · exact warnRises_of_resolves (.inl rfl) (fun _ _ listed => resolves_resolveRelease listed _ _) run clear set
    · exact warnRises_of_resolves (.inr rfl) (fun _ _ listed => resolves_resolveRelease listed _ _) run clear set
  by_cases abort : c = .batchAbort
  · subst abort
    exact warnRises_of_abort run clear set
  obtain ⟨noAccept, noReview⟩ := not_or.mp choice
  rcases calm_or_regrown_exec (x := x) (not_exists.mp lead) noAccept noReview abort run with calm | regrown
  · rw [calm set] at clear
    cases clear
  · exact warnRises_of_regrown regrown clear set

end

/-- Settles O35: an append sets WARN at the level and a removal does not; what a command appends, once its removals are
done, is of sheets that leave a settlement order, or of the held sheet it releases. -/
theorem warnSetAtLevel : Obligations.WarnSetAtLevel := by
  intro s x
  refine ⟨fun e => ⟨?_, ?_, fun y other => ?_⟩, fun p id y e => ⟨(cut_endCurrent x s p y).flagged, ?_,
    (cut_closeDest x s y).flagged, (cut_abortDest x s id y).flagged⟩, fun c t run clear set => warnRises_exec run clear set⟩
  · rw [dest_appendEntry, if_pos rfl]
  · have pushed := depth_appendEntry x s (x, e)
    rw [if_pos rfl] at pushed
    exact congrArg Depth.flagged pushed
  · have still := depth_appendEntry y s (x, e)
    rw [if_neg other] at still
    exact congrArg Depth.flagged still
  · exact congrArg Depth.flagged (depth_removeUndelivered x s y e)

end Sys2Proof.Machine
end
